-- ==== Sys2Proof/Word.lean ====
section
/-!
DEFINITION. Word: the plain word types of the stack and nothing else. A byte is 8 bits, a slot of a flit is 64 bits
(R59), a symbol of a link frame is 10 bits (R59), a lane carries PAM4 levels (R63), a flit is four slots (R59).
-/

namespace Sys2Proof

/-- A byte of a dictionary value, of a data flit or of a bus transaction. -/
abbrev Byte := BitVec 8

/-- A 64-bit slot of a flit (R59). -/
abbrev Slot := BitVec 64

/-- A 10-bit symbol of a link frame (R59). -/
abbrev Symbol := BitVec 10

/-- A PAM4 level, 0 the lowest amplitude (R63). -/
abbrev Level := BitVec 2

/-- A 256-bit flit, as its four slots (R59). -/
structure Flit where
  s0 : Slot := 0
  s1 : Slot := 0
  s2 : Slot := 0
  s3 : Slot := 0
deriving DecidableEq, Repr

end Sys2Proof
end

