-- ==== Sys2Proof/Syntax.lean ====
section
/-!
DEFINITION. Syntax: the ONE inductive of commands, one constructor per row of spec/opcode_table.json, with the operands
that the row's event carries. Numbers of links, channels, layers, tags and so on are plain numbers; `WellFormed` gives
their ranges. Where a row is driven by something physical (a noisy symbol, a temperature, a sensed fuse, the moment at
which a timer ends), the command carries what the surroundings supply, and nothing else.
-/

namespace Sys2Proof

/-- A master of the dictionary (R50): the host on a link, with the tag of its message, or the management bus. -/
inductive Master where
  | link (n mtag : Nat)
  | bus
deriving DecidableEq, Repr

/-- A block that applies a commit at its own quiet boundary (Table 8 of the dictionary chapter, R47). -/
inductive Block where
  | regulator
  | queueEngine
  | channel (m : Nat)
  | integrity (m : Nat)
  | link (n : Nat)
  | addressMap
  | stack
deriving DecidableEq, Repr

/-- A coil site: a hop and a physical site number 0–49 of one column (R255). -/
structure Site where
  hop : Nat
  site : Nat
deriving DecidableEq, Repr

/-- A failing bit found by a march test: block column, symbol and bit of the row under test (R307). -/
structure BitAt where
  column : Nat
  symbol : Nat
  bit : Nat
deriving DecidableEq, Repr

/-- What the surroundings do to one channel entry while it runs. All zero means nothing.
`noise0` and `noise1` are the bits of the 576 that the decoder sees inverted as the first and the second block of the
entry are read (array and coil damage, R202–R204); `vNoise` and `pNoise` are the inverted bits of the 72 of the metadata
words of the valid and the poison plane of the first block (R209), check bits above the data; `rmapBad` says that the
region-map byte of the first lookup fails parity (R216); `caCorr` and `caBad` count commands corrected and reissued on
the CA coils (R257); `remapBad` says that both copies of the row's remap entry fail parity and `remapOne` that one does
(R285); `sramBad` that the parity check of the SRAM that the entry reads fails (Table 5 of the integrity chapter, R229);
`look` is how many entries of the lookahead window the controller has had time to prepare (R164)
(DESIGN CHOICE, log entry 7). -/
structure ChanEnv where
  noise0 : Nat := 0
  noise1 : Nat := 0
  vNoise : Nat := 0
  pNoise : Nat := 0
  rmapBad : Bool := false
  caCorr : Nat := 0
  caBad : Nat := 0
  remapBad : Bool := false
  remapOne : Bool := false
  sramBad : Bool := false
  look : Nat := 0
deriving DecidableEq, Repr

/-- A command of one channel's controller, and what the surroundings do to it. -/
structure ChanRow where
  ch : Nat
  env : ChanEnv := {}
deriving DecidableEq, Repr

/-- What a full Steep window finds: the sites that it leaves outside margin, and its length in ns (R268). -/
structure SteepFound where
  outside : List Site := []
  lenNs : Nat := 0
deriving DecidableEq, Repr

/-- What the training of an added hop finds: the sites found dead, and whether the column can be extended (R275). -/
structure HopFound where
  fails : List Site := []
  ok : Bool := true
deriving DecidableEq, Repr

/-- What one sense of the Granary finds at a word that does not read as it was programmed (temperature, marginal fuses):
the word address and its values at normal and at margin sense (R394). -/
structure SenseAt where
  word : Nat
  normal : BitVec 32
  margin : BitVec 32
deriving DecidableEq, Repr

/-- How a programming command meets the array: how many words the surroundings let it complete before a condition of
R403 fails (`none`: it runs to its end), and the bits that do not verify after four pulses per copy (R404). -/
structure ProgEnv where
  stopAfter : Option Nat := none
  stuck : BitVec 32 := 0
deriving DecidableEq, Repr

/-- One device slot at a PMBus poll: no answer, or its status word, voltage (10 µV), current (mA) and temperature (I20)
(R348). -/
structure PmbReply where
  statusWord : Nat
  vout : Nat
  iout : Nat
  temp : Nat
deriving DecidableEq, Repr

/-- What the quick test found in one of its phases (Table 2 of the self-test chapter, R299): channels whose SRAM failed,
links whose SRAM failed, SRAM groups that failed, a global failure, coils with a PRBS error, failing rows and channels
with a failing metadata word. `us` is the time since the start of the test, which counts where the phase ends it. -/
structure QtFound where
  us : Nat := 0
  chans : List Nat := []
  links : List Nat := []
  groups : List Nat := []
  rmap : Bool := false
  qe : Bool := false
  global : Bool := false
  coils : List (Nat × Site) := []
  rows : List (Nat × Nat × Nat) := []
  metaChans : List Nat := []
deriving DecidableEq, Repr

/-- What base-A measures of one layer: its three array supplies in 10 µV and its VIN_MEM current in mA (Table 9 of the
power chapter). -/
structure LayerReading where
  arr : Nat := 0
  peri : Nat := 0
  vpp : Nat := 0
  ma : Nat := 0
deriving DecidableEq, Repr

/-- What base-A measures for the telemetry (R341, R342, Table 9 of the power chapter): the rails VIN_CORE, VIN_PHY, VIN_MEM,
VAUX and VPROG in 10 µV, the current of VIN_MEM in mA, and the layers from L0 on. -/
structure RailReadings where
  core : Nat := 75000
  phy : Nat := 80000
  mem : Nat := 120000
  vaux : Nat := 180000
  vprog : Nat := 0
  memI : Nat := 0
  layers : List LayerReading := []
deriving DecidableEq, Repr

/-- How the host side of the bus answers an attention request (R443–R445). -/
inductive AttnReply where
  | answered
  | noClock
  | notAcked
  | abandoned
deriving DecidableEq, Repr

/-- How a pending access of the management bus ends (R435). -/
inductive BusEnd where
  | done
  | requestBad
  | resultBad
deriving DecidableEq, Repr

/-- The side of an arbitration or of a dual-clock queue that a CDC_RESYNC names (Table 5 of the clocks chapter, R370). -/
inductive CdcQueue where
  | link (n : Nat)
  | channel (m : Nat)
  | dictionary
  | thermal
  | bus
deriving DecidableEq, Repr

/-- The phase-locked loops whose loss of lock is a row of the table (R365). -/
inductive Pll where
  | sense
  | mgmt
  | linkCore
  | fabric
  | chan
deriving DecidableEq, Repr

/-- The three core rails that can be lost (R342). -/
inductive Rail where
  | core
  | phy
  | mem
deriving DecidableEq, Repr

/-- THE COMMANDS. One constructor per row of the opcode table, in the table's order; each docstring gives the rule. -/
inductive Instr where
  -- the dictionary (R33–R53)
  /-- ENTRY_WRITE (R37): `key` is index × 256 + subindex. -/
  | entryWrite (m : Master) (key : Nat) (val : List Byte)
  /-- MGMT_READ (R52): an in-band READ; `len` is the LEN of its header. -/
  | mgmtRead (link mtag key len : Nat)
  /-- MGMT_WRITE (R52): an in-band WRITE; `len` is the LEN of its header, `val` the value bytes that follow. -/
  | mgmtWrite (link mtag key len : Nat) (val : List Byte)
  /-- COMMIT (R42). -/
  | commit (m : Master) (arg : List Byte)
  /-- DISCARD (R44). -/
  | discard (m : Master) (arg : List Byte)
  /-- COMMIT_APPLY_BLOCK (R46). -/
  | commitApplyBlock (b : Block)
  /-- PROFILE_DRAIN_COMPLETE (R26). -/
  | profileDrainComplete
  -- the Ictan links (R54–R96)
  /-- FRAME_RECEIVE (R77): the 116 symbols as they arrive, still scrambled; `lane` is the lane of a single-lane frame
  (0 a, 1 b), and 2 stands for two-lane mapping. -/
  | frameReceive (link lane : Nat) (symbols : List Symbol)
  /-- FRAME_TRANSMIT (R70). -/
  | frameTransmit (link : Nat)
  /-- REPLAY_TIMER_EXPIRY (R78). -/
  | replayTimerExpiry (link : Nat)
  /-- DETECT_LOCK (R81): `lanes` has bit 0 for lane a and bit 1 for lane b with signal and CDR lock. -/
  | detectLock (link lanes : Nat)
  /-- EQUALIZE_DONE (R83). -/
  | equalizeDone (link : Nat)
  /-- ALIGN_DONE (R81): lanes in lock, and the polarity and lane order found (Table 2, R57). -/
  | alignDone (link lanes polInv : Nat) (swap : Bool)
  /-- CONFIG_COMPLETE (R94). -/
  | configComplete (link : Nat)
  /-- TRAINING_LIMIT_EXPIRY (R84). -/
  | trainingLimitExpiry (link : Nat)
  /-- FAILED_TIMEOUT (R81). -/
  | failedTimeout (link : Nat)
  /-- RECOVER_COMPLETE (R86). -/
  | recoverComplete (link : Nat)
  /-- RECOVER_TIMEOUT (R87). -/
  | recoverTimeout (link : Nat)
  /-- HOST_IDLE_RESET (R88). -/
  | hostIdleReset (link : Nat)
  /-- LANE_SIGNAL_LOSS (R89). -/
  | laneSignalLoss (link lane : Nat)
  /-- LANE_SER_WINDOW_CLOSE (R89): `tailA` and `tailB` are the corrected symbols of the window's last quarter, which the
  next window counts as well. -/
  | laneSerWindowClose (link tailA tailB : Nat)
  /-- TX_LANE_SWITCH (R90). -/
  | txLaneSwitch (link : Nat)
  /-- LINK_RESET (R92). -/
  | linkReset (m : Master) (link : Nat) (arg : List Byte)
  -- requests (R97–R120)
  /-- RD64 (R108). -/
  | rd64 (link tag label block : Nat)
  /-- RD128 (R108). -/
  | rd128 (link tag label block : Nat)
  /-- WR64 (R109): `data` is the block's 512 bits, byte i in bits 8i + 7 to 8i. -/
  | wr64 (link tag label block : Nat) (psn : Bool) (data : BitVec 512)
  /-- WRM (R110). -/
  | wrm (link tag label block : Nat) (psn : Bool) (mask : BitVec 64) (data : BitVec 512)
  /-- FADD32 (R111). -/
  | fadd32 (link tag label block word : Nat) (operand : BitVec 32)
  /-- SWAP32 (R111). -/
  | swap32 (link tag label block word : Nat) (operand : BitVec 32)
  /-- DEQ (R243). -/
  | deq (link tag queue : Nat)
  /-- PEEK (R243). -/
  | peek (link tag queue : Nat)
  /-- QLEN (R243). -/
  | qlen (link tag queue : Nat)
  /-- ENQ (R241): the header, and the data flits that follow it. -/
  | enq (link tag label len queue : Nat) (psn : Bool) (data : List Flit)
  -- the service regulator and the channels (R137–R231)
  /-- REQUEST_ADMIT (R145): one FABRIC cycle of the regulator. -/
  | requestAdmit
  /-- CHANNEL_ENTRY_EXECUTE (R161). -/
  | channelEntryExecute (ch : Nat) (env : ChanEnv)
  /-- QUEUE_CMD_PASS (R75). -/
  | queueCmdPass (link : Nat) (env : ChanEnv)
  /-- ENQ_LINK (R242). -/
  | enqLink (link : Nat) (env : ChanEnv)
  /-- CACHE_REFILL (R238). -/
  | cacheRefill (slice : Nat) (env : ChanEnv)
  /-- CACHE_SPILL (R238). -/
  | cacheSpill (slice : Nat) (env : ChanEnv)
  /-- LINK_BLOCK_EVICT (R246). -/
  | linkBlockEvict (slice : Nat) (env : ChanEnv)
  /-- QFLUSH (R244). -/
  | qflush (m : Master) (arg : List Byte)
  /-- QFLUSH_WALK_STEP (R244). -/
  | qflushWalkStep (env : ChanEnv)
  /-- POOL_RESET (R251). -/
  | poolReset (m : Master) (arg : List Byte)
  /-- LS_FILL (R253). -/
  | lsFill (m : Master) (arg : List Byte)
  /-- URG_PIN_EDGE (R153). -/
  | urgPinEdge (pin : Nat)
  /-- URG_FILTER_CHANGE (R150). -/
  | urgFilterChange (pin : Nat) (level : Bool)
  /-- URG_STUCK_DETECT (R152). -/
  | urgStuckDetect (pin : Nat)
  /-- DELIVERABLE_RECOMPUTE (R154). -/
  | deliverableRecompute
  /-- SHORTFALL_CUT (R156). -/
  | shortfallCut
  /-- SHARE_RECOMPUTE (R141). -/
  | shareRecompute
  /-- ACCT_WINDOW_CLOSE (R159): the stack knows what the window and its last quarter held; both operands are empty. -/
  | acctWindowClose (bytes held : Unit)
  /-- IDLE_TIMER_EXPIRY (R169). -/
  | idleTimerExpiry (ch : Nat)
  /-- EXIT_CHECK_END (R172): the sites that the check leaves outside margin, those that the full window it extends to
  leaves outside margin, and the wait and the length of the check in ns. -/
  | exitCheckEnd (ch : Nat) (outside afterFull : List Site) (waitNs lenNs : Nat)
  /-- STEEP_WINDOW_START (R179): its refresh command. -/
  | steepWindowStart (row : ChanRow)
  /-- STEEP_WINDOW_END (R268). -/
  | steepWindowEnd (ch : Nat) (outside : List Site) (lenNs : Nat)
  /-- REFRESH_DUE_EVENT (R187). -/
  | refreshDueEvent (ch : Nat)
  /-- SCHEDULED_REFRESH (R188). -/
  | scheduledRefresh (row : ChanRow)
  /-- REFRESH_RATE_CHANGE (R192). -/
  | refreshRateChange (ch : Nat)
  /-- NEIGHBOUR_REFRESH (R198). -/
  | neighbourRefresh (row : ChanRow)
  /-- REGION_FILL (R216). -/
  | regionFill (row : ChanRow)
  /-- RAKE_STEP (R225): noise on each of the 16 blocks read, and on the metadata. -/
  | rakeStep (ch : Nat) (noise : List Nat) (env : ChanEnv)
  /-- RAKE_PASS_CLOSE (R224): the correctable codewords of the pass's last quarter, which the next pass counts as well, and
  the banks and rows of the correctable decodes of that quarter. -/
  | rakePassClose (ch tailCe : Nat) (tailRows : List (Nat × Nat))
  /-- RAW_WRITE (R227). -/
  | rawWrite (m : Master) (arg : List Byte)
  /-- RAW_READ (R227). -/
  | rawRead (m : Master) (arg : List Byte)
  /-- INJ_CTRL_WRITE (R230). -/
  | injCtrlWrite (m : Master) (k : Nat) (val : List Byte)
  -- vertical coupling, repair and self-test (R254–R313)
  /-- JOINT_WORD_FAIL (R259): a word of a bundle fails its CRC for the `attempt`-th time; `calib` says that it is the
  joint's calibration that fails. -/
  | jointWordFail (bundle attempt : Nat) (calib : Bool)
  /-- LAYER_FREQ_WINDOW_CLOSE (R262): the error of the window in ppm. -/
  | layerFreqWindowClose (layer : Nat) (ppm : Int)
  /-- LAYER_LOSS_OF_LOCK (R263). -/
  | layerLossOfLock (layer : Nat)
  /-- RELOCK_ATTEMPT_END (R263): whether the attempt locked, and how long the channels have been stopped, in ns. -/
  | relockAttemptEnd (layer : Nat) (locked : Bool) (stopNs : Nat)
  /-- COIL_SER_WINDOW_CLOSE (R269): `tail` is the per-coil count of the window's last quarter. -/
  | coilSerWindowClose (ch : Nat) (tail : List Nat)
  /-- SUBSTITUTION_WINDOW (R271). -/
  | substitutionWindow (row : ChanRow) (found : SteepFound)
  /-- HOP_TRAINING (R264): the sites that cannot reach the margin minimum, each with its channel, and whether the layer's
  PLL locked within three attempts. -/
  | hopTraining (hop : Nat) (fails : List (Nat × Site)) (locked : Bool)
  /-- END_TO_END_CHECK (R265): the sites found dead, and the time the training took in µs. -/
  | endToEndCheck (dead : List (Nat × Site)) (us : Nat)
  /-- EXTENSION_SLICE (R275). -/
  | extensionSlice (row : ChanRow) (found : HopFound)
  /-- ROW_REPAIR (R282): noise on the 16 blocks read. -/
  | rowRepair (row : ChanRow) (noise : List Nat)
  /-- MIGRATION_STEP (R283): noise on the 16 blocks read. -/
  | migrationStep (row : ChanRow) (noise : List Nat)
  /-- REPAIR_REQUEST (R281). -/
  | repairRequest (m : Master) (arg : List Byte)
  /-- HARDEN (R288). -/
  | harden (m : Master) (arg : List Byte) (env : ProgEnv)
  /-- EVACUATE (R289). -/
  | evacuate (m : Master) (arg : List Byte)
  /-- EVAC_TARGET_READY (R290): `ok` is false when the target does not come into regulation or lock. -/
  | evacTargetReady (ok : Bool)
  /-- EVAC_COPY_STEP (R291): noise on the 16 blocks read. -/
  | evacCopyStep (row : ChanRow) (noise : List Nat)
  /-- EVAC_CHANNEL_SWITCH (R290). -/
  | evacChannelSwitch (ch : Nat)
  /-- QUICK_TEST_PHASE_END (R298). -/
  | quickTestPhaseEnd (found : QtFound)
  /-- QUICK_TEST_END (R299): what the last phase found, and the time the test took in µs. -/
  | quickTestEnd (found : QtFound) (us : Nat)
  /-- QUICK_TEST_TIME_LIMIT (R300). -/
  | quickTestTimeLimit
  /-- TAP_UPDATE_IR (R301). -/
  | tapUpdateIr (code : Nat)
  /-- BYPASS (R301). -/
  | tapBypass
  /-- IDCODE (R301). -/
  | tapIdcode
  /-- SAMPLE/PRELOAD (R301): the levels captured from the pins and the values shifted into the cells. -/
  | tapSamplePreload (pins cells : Nat)
  /-- EXTEST (R301). -/
  | tapExtest (cells : Nat)
  /-- CLAMP (R301). -/
  | tapClamp
  /-- HIGHZ (R301). -/
  | tapHighz
  /-- IEEE 1500 wrapper access (R301): the wrapper (0 base-A, 1 base-B) and its instruction. -/
  | tapWrapper (core wir : Nat)
  /-- IEEE 1838 layer access (R301): the layer and the configuration shifted in. -/
  | tapLayer (layer cfg : Nat)
  /-- Vendor private instruction (R301). -/
  | tapVendor (code : Nat)
  /-- TAP_RESET (R371). -/
  | tapReset
  /-- TEST_HOLD (R302). -/
  | testHold (m : Master) (arg : List Byte)
  /-- SPARGE_SLICE_DUE (R310): the supplies are judged by the telemetry that the stack holds; the second operand is empty. -/
  | spargeSliceDue (ch : Nat) (rails : Unit)
  /-- SPARGE_ENTRY (R305): the bits at which a reading entry differs and the bits at which its reread differs again. -/
  | spargeEntry (ch : Nat) (diffs rereads : List BitAt) (env : ChanEnv)
  -- temperature, power, clocks and resets (R314–R375)
  /-- CONVERTER_MINOR_CYCLE (R317): converter 0 is A, 1 is B. The stack counts the activations itself (R319); the second
  operand is empty. -/
  | converterMinorCycle (conv : Nat) (acts : Unit)
  /-- SENSOR_SAMPLE (R318): a completed conversion, as an I20 value in 1/1024 °C; `none` is an invalid sample. `windowUs` is
  the time from the first to the last sample of the latest closed window of the group that sets TJ, in µs (R328). -/
  | sensorSample (sensor : Nat) (value : Option Int) (windowUs : Nat)
  /-- ZONE_HOLD_EXPIRY (R325): no window closes at it; the operand is empty. -/
  | zoneHoldExpiry (window : Unit)
  /-- Z2_STEP_PERIOD_EXPIRY (R326). -/
  | z2StepPeriodExpiry
  /-- STOP_COMPLETE (R328). -/
  | stopComplete
  /-- STOP_TIMEOUT (R328). -/
  | stopTimeout
  /-- RESUME (R330). -/
  | resume (m : Master) (arg : List Byte)
  /-- SENSING_FAILURE (R334): a converter (0 A, 1 B) has given no valid sample for 16 ms, or (`none`) both base groups
  lack two trusted diodes. -/
  | sensingFailure (conv : Option Nat)
  /-- GROUP_CLEAR (R321). -/
  | groupClear (m : Master) (arg : List Byte)
  /-- FAN_LOOP_TICK (R336). -/
  | fanLoopTick
  /-- FAN_SPEED_UPDATE (R335): the pulses counted over 1 s. -/
  | fanSpeedUpdate (fan pulses : Nat)
  /-- FAN_FAIL_DETECT (R337): the speed has stayed below (or, with `recovered`, at or above) its limit for 2 s. -/
  | fanFailDetect (fan : Nat) (recovered : Bool)
  /-- FAN_DUTY_TIMEOUT (R338). -/
  | fanDutyTimeout
  /-- BOARD_SENSOR_SAMPLE (R339): input 0–3 is TD0–TD3, 4–7 is TH0–TH3. `raw` is what is measured: of a TD input the absolute
  temperature times the ideality of the diode, in 1/1024 K; of a TH input the resistance in ohms; `none` is an invalid
  sample (DESIGN CHOICE, log entry 172). -/
  | boardSensorSample (input : Nat) (raw : Option Nat)
  /-- POWER_ON_RESET (R342). -/
  | powerOnReset
  /-- RAIL_LOSS (R342). -/
  | railLoss (rail : Rail)
  /-- RAIL_RESTART (R342). -/
  | railRestart
  /-- LAYER_SUPPLY_FAULT (R345). -/
  | layerSupplyFault (layer : Nat)
  /-- VDD_REP_PHASE_LOSS (R346). -/
  | vddRepPhaseLoss (layer : Nat)
  /-- PMBUS_POLL (R348): the answer of each of the four slots, VOUT_MODE of the VIN_CORE device, and the rails. -/
  | pmbusPoll (replies : List (Option PmbReply)) (voutMode : Nat) (rails : RailReadings)
  /-- PMBUS_ALERT (R348): the slot that answers the alert response address, and its status word. -/
  | pmbusAlert (slot : Option Nat) (statusWord : Nat)
  /-- AVS_ADJUST (R349): the slack of the speed monitor against its two levels: -1 below the lower, 1 above the upper, 0
  between; and whether READ_VOUT has confirmed the previous write. -/
  | avsAdjust (slack : Int) (confirmed : Bool)
  /-- PMBUS_RECOVERY (R352): after how many recoveries PSDA is high (`none`: still low after the third). -/
  | pmbusRecovery (after : Option Nat)
  /-- POWER_STATE_REQ (R353). -/
  | powerStateReq (m : Master) (arg : List Byte)
  /-- WAKE_N_ASSERT (R355). -/
  | wakeNAssert
  /-- PWRWARN_ASSERT (R358). -/
  | pwrwarnAssert
  /-- PWRWARN_CLEAR (R358). -/
  | pwrwarnClear
  /-- RESET_N_ASSERT (R372). -/
  | resetNAssert
  /-- RESET_N_RELEASE (R359): MADDR[2:0] as sampled then (R426). -/
  | resetNRelease (maddr : Nat)
  /-- CHIP_RESET (R375). -/
  | chipReset (m : Master) (arg : List Byte)
  /-- BLOCK_RESET (R375). -/
  | blockReset (m : Master) (arg : List Byte)
  /-- CDC_RESYNC (R370). -/
  | cdcResync (q : CdcQueue)
  /-- CLOCK_MONITOR_WINDOW (R364): the errors in ppm of AUX, SENSE, MGMT, LINK_CORE, FABRIC and CHAN, and whether REFCLK
  has an edge and lies within ±5 %. -/
  | clockMonitorWindow (errs : List Int) (refclkOk : Bool)
  /-- REFCLK_RETURN (R365): the length of the holdover in µs. -/
  | refclkReturn (us : Nat)
  /-- HOLDOVER_TIMEOUT (R365). -/
  | holdoverTimeout
  /-- PLL_LOSS_OF_LOCK (R365). -/
  | pllLossOfLock (pll : Pll)
  -- faults, Granary, life cycle (R376–R424)
  /-- WIRE_FAULT (R377): the pair reads equal for 4 MGMT cycles, or (`on` false) is opposite again. -/
  | wireFault (source : Nat) (on : Bool)
  /-- STICKY_WRITE (R379): a write to 0x40nn:01 (`wire` false) or 0x40nn:02 (`wire` true); `again` names the block code
  and the instance of a report of the source in the same cycle (for `wire`, that its pair is found equal then). -/
  | stickyWrite (m : Master) (source : Nat) (wire : Bool) (val : List Byte) (again : Option (Nat × Nat))
  /-- STICKY_CLEAR (R379): a write to STICKY_CLEAR or WIRE_CLEAR. -/
  | stickyClear (m : Master) (wire : Bool) (val : List Byte)
  /-- REACTION_WRITE (R381): a write to REACTION of a source, or (`none`) to WIRE_REACTION. -/
  | reactionWrite (m : Master) (source : Option Nat) (val : List Byte)
  /-- EVENT_SEND (R385). -/
  | eventSend (link : Nat)
  /-- MGMT_WDT_WARN (R387). -/
  | mgmtWdtWarn
  /-- MGMT_WDT (R387). -/
  | mgmtWdt
  /-- GRANARY_SENSING_END (R394): the words that do not read as programmed, and whether the joint calibrates (R259). -/
  | granarySensingEnd (sense : List SenseAt) (jointOk : Bool)
  /-- GRAN_RESENSE (R401). -/
  | granResense (m : Master) (arg : List Byte) (sense : List SenseAt)
  /-- GRAN_PROGRAM (R404). -/
  | granProgram (m : Master) (arg : List Byte) (env : ProgEnv)
  /-- GRAN_LOCK (R406). -/
  | granLock (m : Master) (arg : List Byte) (env : ProgEnv)
  /-- LC_MARK_COMPLETE (R410). -/
  | lcMarkComplete (env : ProgEnv)
  /-- LC_TO_FIELD (R416). -/
  | lcToField (m : Master) (arg : List Byte) (env : ProgEnv)
  /-- LC_RETURN (R420): `wipeUs` is the time the wipe takes. -/
  | lcReturn (m : Master) (arg : List Byte) (wipeUs : Nat) (env : ProgEnv)
  /-- LC_VOID (R421). -/
  | lcVoid (m : Master) (arg : List Byte) (env : ProgEnv)
  -- the management bus (R425–R449)
  /-- DICT_READ (R434): the count byte and every byte that follows it in the write part, a PEC included; how the access ends
  within the stretch of the read phase (`none`: not within 100 µs), and the longest stretch in µs. -/
  | dictRead (count : Nat) (data : List Byte) (within : Option BusEnd) (stretchUs : Nat)
  /-- DICT_WRITE (R433): the count byte and every byte that follows it, a PEC included. -/
  | dictWrite (count : Nat) (data : List Byte)
  /-- DICT_RESULT (R430). -/
  | dictResult
  /-- BUS_ACCESS_COMPLETE (R435). -/
  | busAccessComplete (how : BusEnd)
  /-- BUS_FLAGS read word (R431). -/
  | busFlagsRead
  /-- BUS_FLAGS write word (R431): the bytes that follow the command code, a PEC included. -/
  | busFlagsWrite (data : List Byte)
  /-- WINDOW write (R437). -/
  | windowWrite (ptr : Nat) (data : List Byte)
  /-- WINDOW read of `n` bytes (R437). -/
  | windowRead (ptr n : Nat)
  /-- Attention read (R443). -/
  | attentionRead
  /-- ATTENTION_REQUEST (R443). -/
  | attentionRequest (reply : AttnReply)
  /-- ATTENTION_RETRY (R444). -/
  | attentionRetry (reply : AttnReply)
  /-- MB_UNDEFINED_COMMAND (R428). -/
  | mbUndefinedCommand (code : Nat)
  /-- MB_PROTOCOL_ERROR (R439). -/
  | mbProtocolError
  /-- MB_TIMEOUT (R440): whether a transaction addressed to the target was in progress. -/
  | mbTimeout (during : Bool)
  /-- BLOCK_RESET_END (R373): the block code of Table 7 and the instance. -/
  | blockResetEnd (code inst : Nat)
  /-- LANE_WITHOUT_LOCK (R84). -/
  | laneWithoutLock (link lane : Nat)
deriving DecidableEq, Repr

end Sys2Proof
end

