-- ==== Sys2Proof/Decode.lean ====
section
/-!
DEFINITION. Decode: the rows of the opcode table of this block give no bits (none has fields or a pattern), so no word
spells a command (DESIGN CHOICE, log entry 1).
-/

namespace Sys2Proof

/-- The command that a word spells: none, for every row of the table. -/
def decodeTableWord (_nbits _w : Nat) : Option Instr := none

end Sys2Proof
end

