-- ==== Sys2Proof/Machine/Crypto.lean ====
section
/-!
DEFINITION. Crypto: SHA-384 and the check of an ECDSA signature over the curve P-384, as FIPS 180-4, FIPS 186-5 and SP 800-186
define them (R418). The manual names the standards and prints none of their constants: those here are PRESUMED, from the
standards (log entry 60).
-/

namespace Sys2Proof.Machine

/-! ### SHA-384 -/

/-- The 80 round constants: the first 64 bits of the fractional parts of the cube roots of the first primes. -/
def shaK : List (BitVec 64) :=
  [0x428A2F98D728AE22, 0x7137449123EF65CD, 0xB5C0FBCFEC4D3B2F, 0xE9B5DBA58189DBBC, 0x3956C25BF348B538,
   0x59F111F1B605D019, 0x923F82A4AF194F9B, 0xAB1C5ED5DA6D8118, 0xD807AA98A3030242, 0x12835B0145706FBE,
   0x243185BE4EE4B28C, 0x550C7DC3D5FFB4E2, 0x72BE5D74F27B896F, 0x80DEB1FE3B1696B1, 0x9BDC06A725C71235,
   0xC19BF174CF692694, 0xE49B69C19EF14AD2, 0xEFBE4786384F25E3, 0x0FC19DC68B8CD5B5, 0x240CA1CC77AC9C65,
   0x2DE92C6F592B0275, 0x4A7484AA6EA6E483, 0x5CB0A9DCBD41FBD4, 0x76F988DA831153B5, 0x983E5152EE66DFAB,
   0xA831C66D2DB43210, 0xB00327C898FB213F, 0xBF597FC7BEEF0EE4, 0xC6E00BF33DA88FC2, 0xD5A79147930AA725,
   0x06CA6351E003826F, 0x142929670A0E6E70, 0x27B70A8546D22FFC, 0x2E1B21385C26C926, 0x4D2C6DFC5AC42AED,
   0x53380D139D95B3DF, 0x650A73548BAF63DE, 0x766A0ABB3C77B2A8, 0x81C2C92E47EDAEE6, 0x92722C851482353B] ++
  [0xA2BFE8A14CF10364, 0xA81A664BBC423001, 0xC24B8B70D0F89791, 0xC76C51A30654BE30, 0xD192E819D6EF5218,
   0xD69906245565A910, 0xF40E35855771202A, 0x106AA07032BBD1B8, 0x19A4C116B8D2D0C8, 0x1E376C085141AB53,
   0x2748774CDF8EEB99, 0x34B0BCB5E19B48A8, 0x391C0CB3C5C95A63, 0x4ED8AA4AE3418ACB, 0x5B9CCA4F7763E373,
   0x682E6FF3D6B2B8A3, 0x748F82EE5DEFB2FC, 0x78A5636F43172F60, 0x84C87814A1F0AB72, 0x8CC702081A6439EC,
   0x90BEFFFA23631E28, 0xA4506CEBDE82BDE9, 0xBEF9A3F7B2C67915, 0xC67178F2E372532B, 0xCA273ECEEA26619C,
   0xD186B8C721C0C207, 0xEADA7DD6CDE0EB1E, 0xF57D4F7FEE6ED178, 0x06F067AA72176FBA, 0x0A637DC5A2C898A6,
   0x113F9804BEF90DAE, 0x1B710B35131C471B, 0x28DB77F523047D84, 0x32CAAB7B40C72493, 0x3C9EBE0A15C9BEBC,
   0x431D67C49C100D4C, 0x4CC5D4BECB3E42B6, 0x597F299CFC657E2A, 0x5FCB6FAB3AD6FAEC, 0x6C44198C4A475817]

/-- The starting value of SHA-384. -/
def sha384Start : List (BitVec 64) :=
  [0xCBBB9D5DC1059ED8, 0x629A292A367CD507, 0x9159015A3070DD17, 0x152FECD8F70E5939, 0x67332667FFC00B31,
   0x8EB44A8768581511, 0xDB0C2E0D64F98FA7, 0x47B5481DBEFA4FA4]

/-- A word of eight bytes, the first one highest. -/
def wordBE (bs : List (BitVec 8)) : BitVec 64 := bs.foldl (fun a b => a <<< 8 ||| b.zeroExtend 64) 0

/-- The bytes of a word, the highest first. -/
def bytesBE (w : BitVec 64) : List (BitVec 8) :=
  (List.range 8).map (fun i => (w >>> (8 * (7 - i))).truncate 8)

/-- Cut a list into pieces of `n`; `k` pieces at most. -/
def pieces {α : Type} (n : Nat) : Nat → List α → List (List α)
  | 0, _ => []
  | k + 1, l => l.take n :: pieces n k (l.drop n)

/-- The message schedule: the latest 16 words, newest first, and the words still to come. -/
def shaNext (w : List (BitVec 64)) : BitVec 64 :=
  let at' := fun i => w.getD i 0
  let s1 := fun (x : BitVec 64) => x.rotateRight 19 ^^^ x.rotateRight 61 ^^^ (x >>> 6)
  let s0 := fun (x : BitVec 64) => x.rotateRight 1 ^^^ x.rotateRight 8 ^^^ (x >>> 7)
  s1 (at' 1) + at' 6 + s0 (at' 14) + at' 15

/-- The working variables a to h, in order. -/
structure ShaVars where
  a : BitVec 64
  b : BitVec 64
  c : BitVec 64
  d : BitVec 64
  e : BitVec 64
  f : BitVec 64
  g : BitVec 64
  h : BitVec 64

/-- One round. -/
def shaRound (v : ShaVars) (k w : BitVec 64) : ShaVars :=
  let s1 := v.e.rotateRight 14 ^^^ v.e.rotateRight 18 ^^^ v.e.rotateRight 41
  let ch := (v.e &&& v.f) ^^^ (~~~ v.e &&& v.g)
  let t1 := v.h + s1 + ch + k + w
  let s0 := v.a.rotateRight 28 ^^^ v.a.rotateRight 34 ^^^ v.a.rotateRight 39
  let maj := (v.a &&& v.b) ^^^ (v.a &&& v.c) ^^^ (v.b &&& v.c)
  { a := t1 + s0 + maj, b := v.a, c := v.b, d := v.c, e := v.d + t1, f := v.e, g := v.f, h := v.g }

/-- The rounds of one block: `w` holds the schedule, newest first, `rest` the words of the block not yet used. -/
def shaRounds : List (BitVec 64) → List (BitVec 64) → List (BitVec 64) → ShaVars → ShaVars
  | [], _, _, v => v
  | k :: ks, x :: rest, w, v => shaRounds ks rest (x :: w) (shaRound v k x)
  | k :: ks, [], w, v =>
    let x := shaNext w
    shaRounds ks [] (x :: w.take 15) (shaRound v k x)

/-- One block of 16 words. -/
def shaBlock (h : List (BitVec 64)) (block : List (BitVec 64)) : List (BitVec 64) :=
  let at' := fun i => h.getD i 0
  let v := shaRounds shaK block [] { a := at' 0, b := at' 1, c := at' 2, d := at' 3, e := at' 4, f := at' 5, g := at' 6, h := at' 7 }
  [at' 0 + v.a, at' 1 + v.b, at' 2 + v.c, at' 3 + v.d, at' 4 + v.e, at' 5 + v.f, at' 6 + v.g, at' 7 + v.h]

/-- SHA-384 of a string of bytes: 48 bytes. -/
def sha384 (m : List (BitVec 8)) : List (BitVec 8) :=
  let zeros := (239 - m.length % 128) % 128
  let padded := m ++ [0x80#8] ++ List.replicate zeros 0 ++ List.replicate 8 0 ++ bytesBE (BitVec.ofNat 64 (8 * m.length))
  let words := (pieces 8 (padded.length / 8) padded).map wordBE
  let h := (pieces 16 (words.length / 16) words).foldl shaBlock sha384Start
  (h.take 6).flatMap bytesBE

/-! ### P-384 -/

/-- The prime of the field. -/
def p384 : Nat := 2 ^ 384 - 2 ^ 128 - 2 ^ 96 + 2 ^ 32 - 1

/-- The coefficient b of the curve y² = x³ − 3x + b. -/
def p384B : Nat :=
  0xB3312FA7E23EE7E4988E056BE3F82D19181D9C6EFE8141120314088F5013875AC656398D8A2ED19D2A85C8EDD3EC2AEF

/-- The order of the base point. -/
def p384N : Nat :=
  0xFFFFFFFFFFFFFFFFFFFFFFFFFFFFFFFFFFFFFFFFFFFFFFFFC7634D81F4372DDF581A0DB248B0A77AECEC196ACCC52973

/-- The base point. -/
def p384G : Nat × Nat :=
  (0xAA87CA22BE8B05378EB1C71EF320AD746E1D3B628BA79B9859F741E082542A385502F25DBF55296C3A545E3872760AB7,
   0x3617DE4A96262C6F5D9E98BF9292DC29F8F41DBD289A147CE9DA3113B5F0B8C00A60B1CE1D7E819D7A431D7C90EA0E5F)

/-- `acc × b ^ e` modulo `m`, where `e` has at most as many bits as there is fuel. -/
def modPow (m : Nat) : Nat → Nat → Nat → Nat → Nat
  | 0, _, _, acc => acc
  | fuel + 1, b, e, acc => modPow m fuel (b * b % m) (e / 2) (if e % 2 = 1 then acc * b % m else acc)

/-- The inverse modulo a prime. -/
def modInv (m a : Nat) : Nat := modPow m 384 (a % m) (m - 2) 1

/-- Subtraction modulo `m` of numbers below it. -/
def modSub (m a b : Nat) : Nat := (a + m - b) % m

/-- A point of the curve; `none` is the point at infinity. -/
abbrev Point := Option (Nat × Nat)

/-- Addition of points. -/
def pointAdd (a b : Point) : Point :=
  match a, b with
  | none, q => q
  | p, none => p
  | some (x1, y1), some (x2, y2) =>
    let slope : Option Nat :=
      if x1 = x2 then
        if (y1 + y2) % p384 = 0 then none
        else some (modSub p384 (3 * x1 * x1 % p384) 3 * modInv p384 (2 * y1) % p384)
      else some (modSub p384 y2 y1 * modInv p384 (modSub p384 x2 x1) % p384)
    match slope with
    | none => none
    | some l =>
      let x3 := modSub p384 (modSub p384 (l * l % p384) x1) x2
      some (x3, modSub p384 (l * modSub p384 x1 x3 % p384) y1)

/-- A multiple of a point; the factor has at most as many bits as there is fuel. -/
def pointMul : Nat → Nat → Point → Point → Point
  | 0, _, _, acc => acc
  | fuel + 1, k, q, acc => pointMul fuel (k / 2) (pointAdd q q) (if k % 2 = 1 then pointAdd acc q else acc)

/-- A point lies on the curve (DEDUCED, log entry 109). -/
def onCurve (x y : Nat) : Bool :=
  decide (x < p384) && decide (y < p384) && decide (y * y % p384 = modSub p384 ((x * x % p384 * x + p384B) % p384) (3 * x % p384))

/-- ECDSA: the signature `r`, `s` of a digest holds under a public key. -/
def ecdsaHolds (digest x y r s : Nat) : Bool :=
  if onCurve x y && decide (0 < r) && decide (r < p384N) && decide (0 < s) && decide (s < p384N) then
    let w := modInv p384N s
    match pointAdd (pointMul 384 (digest * w % p384N) (some p384G) none) (pointMul 384 (r * w % p384N) (some (x, y)) none) with
    | some (x1, _) => decide (x1 % p384N = r)
    | none => false
  else false

end Sys2Proof.Machine
end

