-- ==== Sys2Proof/Config.lean ====
section
/-!
DEFINITION. Config: the free values, one opaque constant for each point that the spec leaves open and at which the stack
goes on. None has a body, so no proof can see a value; each is named in the assumption log. The `Nat` argument `n` of a
constant is the counter `State.free`, which the step that uses it advances, so that two uses are unrelated; the other
arguments are what the open value may depend on.
-/

namespace Sys2Proof.Config

/-- What the RS(72,64) decoder makes of a word that lies beyond both columns of Table 1 (R204): `none` reports it
uncorrectable, `some w` corrects it to the codeword `w` (DESIGN CHOICE, log entry 13). -/
opaque rsBeyond (n word : Nat) : Option Nat

/-- What the SEC-DED decoder makes of a metadata word of 72 bits with three or more bit errors (R209): `none` uncorrectable,
`some v` the 72 bits it takes for the right ones; where they are those received it finds the word clean (DESIGN CHOICE, log
entry 14). -/
opaque secdedBeyond (n word : Nat) : Option Nat

/-- What the array holds at a block whose contents a self-refresh has not retained (R176) (DESIGN CHOICE, log entry 155). -/
opaque lostWord (n channel block : Nat) : Nat

/-- Whether the stack goes over from PRBS to TRAIN frames in a frame period of EQUALIZE (Table 9): no rule gives the moment
(DESIGN CHOICE, log entry 174). -/
opaque trainBegins (n link : Nat) : Bool

/-- A nonce of the entropy source of base-A (R419) (DESIGN CHOICE, log entry 15). -/
opaque nonce (n : Nat) : BitVec 128

/-- The timing and amplitude margin that a training or a Steep window measures at a coil site in use (R267)
(DESIGN CHOICE, log entry 16). -/
opaque coilMargin (n channel hop site : Nat) : BitVec 8

/-- The layout and the values of G-TRIM are not published (R391): the two levels of the speed monitor and whatever else
consumers take from it are open (DESIGN CHOICE, log entry 17). -/
opaque trimLevel (word : Nat) : BitVec 32

/-- Which subindices of 0xF000 are entries, and whether such an entry carries the gate RETURN (true) or MFG (false): the
content is not published (R53, R412, R413) (DESIGN CHOICE, log entry 18). -/
opaque vendorGate (key : Nat) : Option Bool

/-- What a read of such an entry returns, cut to 240 bytes. -/
opaque vendorRead (n key : Nat) : List (BitVec 8)

/-- The status of a write to such an entry. -/
opaque vendorWrite (n key : Nat) : BitVec 16

/-- What DESC_INFO and DESC_DEFAULT show for a selection that is no entry of any range (R34, R53): no rule states it
(DESIGN CHOICE, log entry 19). -/
opaque descInfoOutside (key : Nat) : BitVec 32
opaque descDefaultOutside (key : Nat) : List (BitVec 8)

/-- What a vendor private instruction leaves in the register that it selects: not published (Table 4, R301)
(DESIGN CHOICE, log entry 21). -/
opaque vendorTap (n code : Nat) : Nat

/-- What a wrapper or a layer test register captures in a test hold: the test content is not published (R301, R302). -/
opaque testCapture (n unit code : Nat) : Nat

/-- Which bits of a Granary word that did not verify read 1 at normal sense all the same: no rule states it (R404)
(DESIGN CHOICE, log entry 22). -/
opaque weakBits (n word : Nat) : BitVec 32

/-- The PROGRESS byte of a running invocation (Table 4, R39): the spec gives its unit and no schedule
(DESIGN CHOICE, log entry 25). -/
opaque progress (n key : Nat) : BitVec 8

/-- The DESC_DEFAULT of an entry whose default the spec gives as "by stack" or "—": it states no value (R53). -/
opaque descDefault (key : Nat) : List (BitVec 8)

/-- What a counter holds once it has passed the largest value of its type: no rule states it (R35, R36). -/
opaque counterPast (n key : Nat) : Nat

/-- The rounding of a VIN_CORE target to the nearest code of VOUT_COMMAND at a tie (R349): true rounds up
(DESIGN CHOICE, log entry 26). -/
opaque voutTieUp (target : Nat) : Bool

/-- The rounding of STACK_POWER to whole mW (R361, Table 7 of the power chapter): true rounds up. -/
opaque powerRoundUp (n : Nat) : Bool

/-- The LAST_STATUS of a POWER_STATE_REQ whose change a wake, a stop or a trip has cut short (R39, R357): no rule states
it (DESIGN CHOICE, log entry 27). -/
opaque cutStatus (n : Nat) : BitVec 16

/-- The parity of the fan duty's 0.1 % rounding (R335, R336): the resolution is 0.1 % and the spec gives no rounding; true
rounds up. -/
opaque dutyRoundUp (n : Nat) : Bool

/-- The rounding of a speed to whole rpm (R335): true rounds up. -/
opaque rpmRoundUp (n : Nat) : Bool

/-- The rounding of a value that a rule gives exactly and an entry shows in whole units of 1/1024 °C (R318, R319). -/
opaque tempRoundUp (n : Nat) : Bool

/-- The value of a thermistor input in 1/1024 °C by the β model, at a resistance in ohms other than 10,000 (R339): the spec gives
no rounding of the logarithm (DESIGN CHOICE, log entry 172). -/
opaque thermistor (beta ohms : Nat) : Int

/-- The rounding of a projection to whole µs (R328): true rounds up. -/
opaque usRoundUp (n : Nat) : Bool

/-- The rounding of a payload rate that is no whole number of 0.1 GB/s in PORT_RATE (R140, R160): true rounds up. -/
opaque portRateUp : Bool

end Sys2Proof.Config
end

