-- ==== Sys2Proof/Machine/State.lean ====
section
/-!
DEFINITION. State: everything the spec gives the stack, as plain data. Dictionary registers that are storage of their own
(settings, staged copies, committed copies, counters, records) are in `regs`, keyed by index × 256 + subindex; entries
that only show a piece of the machine are computed when they are read and have no second home. Units: `now` and every
instant counts FABRIC cycles of 0.5 ns; every duration in a register has the unit of its entry.
-/

namespace Sys2Proof.Machine

/-- A sparse map: keys strictly rising, and (for maps read with a default) no entry equal to the default. -/
abbrev SMap (α : Type) := List (Nat × α)

/-- Why a step stops. The model has one such stop. -/
inductive Fault where
  /-- Raised by every meaning when a command names something that the structure of R7 does not have (a link above 127,
  a layer above 17, a tag of more than 9 bits, ...), or whose operands do not fit their field. Safe: no such event
  exists on the stack. -/
  | badOperand
deriving DecidableEq, Repr

/-- Why a command has no meaning. -/
inductive Refusal where
  /-- Raised by the dispatcher for a row whose meaning has not been written. Safe. -/
  | notModelled (mnemonic : String)
deriving DecidableEq, Repr

/-- The variants of Table 1 of the scope chapter (R1). -/
inductive Variant where
  | axd6400 | axd4800 | axd3200
deriving DecidableEq, Repr

/-- Life-cycle states (R409). -/
inductive LcState where
  | mfg | field | ret | void
deriving DecidableEq, Repr

/-- The operating profiles (R21). -/
inductive Profile where
  | throughput | deterministic | economy
deriving DecidableEq, Repr

/-- Where the power-up sequence of Table 6 of the power chapter stands (R359, R298). -/
inductive Boot where
  | held            -- in reset: RESET_N low, rails or REFCLK not back, or a trip's temperature hold (R333)
  | sensing         -- Granary sensing runs
  | jointFailed     -- the joint's calibration failed; the sequence has stopped (R259)
  | qtRemap         -- quick test, remap SRAM phase
  | qtBase          -- quick test, base SRAM phase, in parallel with training
  | qtLoopback      -- quick test, coil loopback phase
  | qtSanity        -- quick test, layer sanity phase
  | qtFailed        -- the quick test failed globally or reached its limit (R300)
  | voidStop        -- VOID: the sequence has stopped at the end of sensing (R421)
  | up              -- the channel map is built
deriving DecidableEq, Repr

/-- Link states of Table 9 (R81). -/
inductive LinkState where
  | disabled | reset | detect | equalize | align | config | active | recover | laneSwitch | idle | failed
deriving DecidableEq, Repr

/-- The training parameters of a TRAIN LCF (Table 5, R67), as the partner last sent them. -/
structure Train where
  initReq : Nat := 0
  initRsp : Nat := 0
  initMgmt : Nat := 0
  initQdat : Nat := 0
  protoVer : Nat := 0
  role : Nat := 0
  keep : Bool := false
  step : Nat := 0
  rxLanesOk : Nat := 0
deriving DecidableEq, Repr

/-- A stored sequenced frame: its number and its four flits (R76). -/
structure StoredFrame where
  seq : Nat
  flits : List Flit
deriving DecidableEq, Repr

/-- A completion slot of the response buffer, in issue order (R113). `chans` are the channels whose order it keeps;
`need` is how many executions it waits for; it may be sent once `need` is 0 and no earlier slot shares a channel with
it. `flits` are its data flits. -/
structure Resp where
  tag : Nat
  opc : Nat
  chans : List Nat := []
  need : Nat := 0
  status : Nat := 0
  flitPsn : Nat := 0
  value : BitVec 32 := 0
  packets : Nat := 0
  cells : Nat := 0
  flits : List Flit := []
  first : List Flit := []
  entered : Nat := 0
  cls : Option Nat := none
deriving DecidableEq, Repr

/-- A DEQ_RSP waiting in the QDAT output buffer (R103). -/
structure DeqOut where
  tag : Nat
  status : Nat
  len : Nat := 0
  label : Nat := 0
  queue : Nat := 0
  cellPsn : BitVec 64 := 0
  flits : List Flit := []
deriving DecidableEq, Repr

/-- A queue command waiting at its port (R117). -/
structure QCmd where
  tag : Nat
  opc : Nat
  queue : Nat
  grp : Nat
deriving DecidableEq, Repr

/-- An accepted ENQ that has not been linked (R241, R242): the cells it took (local numbers, in packet order) and how many of
the cell writes issued for it have not yet executed. -/
structure EnqJob where
  tag : Nat
  label : Nat
  len : Nat
  queue : Nat
  cells : List Nat
  writesLeft : Nat
  psn : Bool := false
  silent : Bool := false               -- its link has been reset: no answer is sent (R93)
  id : Nat := 0                        -- names the job to its cell writes
  data : List Flit := []               -- data flits received and not yet put into a cell (R242)
  toCome : Nat := 0                    -- data flits still to arrive
  chained : Nat := 0                   -- leading cells whose link entries have been written
  order : Nat := 0                     -- its place among all ENQs by their last flits (R242)
deriving DecidableEq, Repr

/-- The in-flight entry of the ENQ that a link is receiving (R241): the job of an accepted one, else the status with which it
is answered once its last flit has been discarded; `refused` is an answer that nothing was executed (R118). -/
structure EnqIn where
  tag : Nat
  job : Option Nat := none
  status : Nat := 0
  refused : Bool := false
deriving DecidableEq, Repr

/-- A DEQ whose packet has left its queue and whose cells are being read (R243): the cells reached, in packet order, and for
each the block reads that have not executed. `give` says that the chain held, so that its cells return to the cache. -/
structure DeqJob where
  tag : Nat
  label : Nat
  len : Nat
  queue : Nat
  id : Nat                             -- names the job to its block reads
  cells : List Nat
  left : List Nat
  give : Bool
  cellPsn : Nat := 0
  blocks : SMap (BitVec 512) := []     -- the blocks read so far, by their place in the packet
  silent : Bool := false               -- its link has been reset: the packet is discarded (R93)
deriving DecidableEq, Repr

/-- A MGMT message waiting for the transmitter of its link (R52): header and value slots, as flits. -/
abbrev MgmtMsg := List Flit

/-- Transmit side of the link layer (R65, R70–R79). -/
structure LinkTx where
  nextSeq : Nat := 0
  stored : List StoredFrame := []
  replay : List StoredFrame := []      -- the stored frames that the replay in progress has still to resend
  replayHdr : Option Nat := none       -- a REPLAY frame is due, with this REPLAY_SEQ
  nulls : Nat := 0                     -- NULL frames still due before it (R65)
  replayCount : Nat := 0
  nakArmed : Bool := true
  sinceLcf : Nat := 0                  -- frames since the last LCF (R79)
  msg : List Flit := []                -- flits of the message being sent
  qdatMsg : Bool := false              -- it is a DEQ_RSP
  msgTags : List Nat := []             -- tags that it answers, outstanding until its last flit is sent (R105)
  credRsp : Nat := 0
  credMgmt : Nat := 0
  credQdat : Nat := 0
  usedRsp : BitVec 16 := 0             -- last applied counter values of the partner (R73)
  usedMgmt : BitVec 16 := 0
  usedQdat : BitVec 16 := 0
  vcPtr : Nat := 0                     -- tie-break pointers (R70, R385)
  mgmtPtr : Nat := 0
  eventPtr : Nat := 0
  step2 : Nat := 0                     -- frames of step 0x02 sent (R83)
  prbs : Nat := 0x1FFF                 -- PRBS registers of lanes a and b in DETECT (R82)
  prbsB : Nat := 0x0AAA
  lcfDue : Bool := false               -- NAK has changed since the last LCF (R79)
  eqPhase : Nat := 0                   -- what EQUALIZE has sent: 0 nothing, 1 PRBS, 2 TRAIN frames (R81)
  pins : List (Nat × List Level) := [] -- what was last put on the lanes: each lane driven, with its levels in order (R63)
deriving DecidableEq, Repr

/-- Receive side of the link layer (R65, R73, R77). -/
structure LinkRx where
  expected : Nat := 0
  lastAck : Nat := 0
  ackValid : Bool := false
  discarding : Bool := false
  nak : Bool := false
  skip : Nat := 0
  failStreak : Nat := 0
  goodStreak : Nat := 0                -- frames not failed in a row while the receiver searches for lock (R65)
  locked : Bool := false
  msg : List Flit := []                -- flits of the message being received
  retReq : BitVec 16 := 0              -- cumulative credits returned (Table 4 of the link chapter)
  retRsp : BitVec 16 := 0
  retMgmt : BitVec 16 := 0
  retQdat : BitVec 16 := 0
  owedReq : Nat := 0                   -- credits withheld while a profile change drains (R26, R72)
  owedQdat : Nat := 0
  hostLanes : Nat := 3                 -- RX_LANES_OK as the host last sent it
  partner : Train := {}
deriving DecidableEq, Repr

/-- One Ictan link (R54–R96). -/
structure Link where
  st : LinkState := .detect
  cause : Nat := 0                     -- LAST_CAUSE (Table 14)
  rxLanes : Nat := 0
  txLanes : Nat := 0
  rxFailed : Nat := 0
  txFailed : Nat := 0
  rxSet : Nat := 0                     -- lanes settled on at the last full training, less those LANE_MASK has removed since
  txSet : Nat := 0                     -- (R83, R91), for each direction
  withheld : Bool := false             -- the parameters offered in this training withhold REQ and QDAT credits (R72)
  phase : Nat := 0                     -- where RECOVER stands: 0 EQUALIZE, 1 ALIGN, 2 CONFIG (R86)
  polInv : Nat := 0
  swap : Bool := false
  halfRate : Bool := false             -- RATE (Table 14)
  trained : Bool := false              -- link-layer state is held from a full training
  idled : Bool := false                -- the transmitters are idled by another chapter (R88)
  qtHeld : Bool := false               -- held in RESET by the quick test (R299)
  winA : Nat := 0                      -- corrected symbols of the open 1 ms window (R89)
  winB : Nat := 0
  wasMgmt : Bool := false              -- MGMT credits granted (R96)
  tx : LinkTx := {}
  rx : LinkRx := {}
  resp : List Resp := []
  qout : List DeqOut := []
  enqs : List EnqJob := []
  enqIn : Option EnqIn := none
  deqs : List DeqJob := []
  mgmtOut : List MgmtMsg := []
  mgmtBy : List Nat := []              -- MTAGs of commands answered when their action completes
  events : List Nat := []              -- pending EVENT codes (R385)
  sidePtr : Nat := 0                   -- REQ/QDAT side tie-break (R245)
deriving DecidableEq, Repr

/-- A request held in a port's holding queue (R137, R144); `engine` names the link whose ENQ or DEQ an access of the engine
serves. Of an engine access `grp` is the job, and `word` is the number of QDAT flits whose credits a write owes or the place
in the packet of the block that a read reads. -/
structure Held where
  tag : Nat
  opc : Nat
  cls : Nat
  block : Nat
  psn : Bool := false
  word : Nat := 0
  mask : BitVec 64 := 0
  operand : BitVec 32 := 0
  data : BitVec 512 := 0
  entered : Nat := 0
  grp : Nat := 0
  engine : Option Nat := none
deriving DecidableEq, Repr

/-- A port of the regulator (R140): ports 0–127 are the links, 128 + s the slices (R149). -/
structure Port where
  held : List Held := []
  qcmds : List QCmd := []
deriving DecidableEq, Repr

/-- The three token counters of one port and class, in bytes (R142) (DEDUCED, log entry 52). -/
structure Tok where
  u : Rat := 0
  g : Rat := 0
  e : Rat := 0
deriving DecidableEq, Repr

/-- An entry of a channel queue (R145): `h2` is the second block of a same-channel RD128, `half` is 0 for a request of
one channel and 1 or 2 for the halves of an RD128 of two channels. -/
structure QEntry where
  port : Nat
  req : Held
  h : Nat
  h2 : Option Nat := none
  half : Nat := 0
  admitted : Nat := 0
deriving DecidableEq, Repr

/-- CHAN_STATE of Table 6 of the channel chapter (R181). -/
inductive ChanState where
  | serving | entering | inSr | exiting | steep | blockReset | retired
deriving DecidableEq, Repr

/-- A bank's activate table and spill values (R194). -/
structure ActTab where
  rows : List (Option (Nat × Nat)) := List.replicate 24 none
  spillPrev : Nat := 0
  spillCur : Nat := 0
deriving DecidableEq, Repr

/-- An entry of the correctable-row table (R226). `seen`: a correctable decode fell in the open pass. -/
structure CeRow where
  bank : Nat
  row : Nat
  count : Nat
  cand : Bool := false
  seen : Bool := true
deriving DecidableEq, Repr

/-- A Sparge slice in progress (R305): the next entry, and the first confirmed failure. -/
structure Slice where
  entry : Nat := 0
  bank : Nat := 0
  row : Nat := 0
  fail : Option BitAt := none
deriving DecidableEq, Repr

/-- The array, the metadata subarray and the region map of a channel (R202, R208, R212). `arr` holds the 576 stored bits
of each block (S0 lowest) and `arrT` those on the target of an evacuation; `valid` and `poison` hold the 64 data bits of
the metadata words, whose check bits are always those of the code; an unlisted entry is the zero codeword, an all-zero
word, or a region bit of 0. `fills` are the regions marked for a fill (DESIGN CHOICE, log entry 9). -/
structure ChanMem where
  arr : SMap Nat := []
  arrT : SMap Nat := []
  valid : SMap Nat := []
  poison : SMap Nat := []
  rmap : SMap Bool := []
  fills : List Nat := []
  lost : SMap Nat := []                -- blocks whose contents a self-refresh has lost (R176), each with the number of a free
                                       -- value, plus 1
deriving DecidableEq, Repr

/-- Refresh and disturbance state of a channel (R182–R200). -/
structure ChanRef where
  debt : Nat := 0
  nextBank : Nat := 0
  ptr : SMap Nat := []                 -- refresh pointer of each bank
  fast : Bool := false                 -- 2× in force at this channel
  quantum : Nat := 0                   -- phase of the refresh timer (R184)
  running : Bool := false              -- the timer runs from the end of training
  tabs : SMap ActTab := []
  burst : List Nat := []               -- banks of the open burst whose commands have not issued, in rotation order (R189)
  pending : List (Nat × Nat) := []     -- rows pending, as bank and row, in the order marked
  forced : Bool := false               -- forced neighbour service (R199)
deriving DecidableEq, Repr

/-- Column state of a channel (R254–R275). -/
structure ChanVl where
  home : Option Nat := none            -- `none`: the layer of the physical number
  hops : Nat := 0                      -- hops trained
  sites : SMap Nat := []               -- Table 7 words that differ from the untouched site
  weak : List Nat := []                -- logical coils marked WEAK (R269)
  coilCe : List Nat := List.replicate 36 0
  early : Bool := false                -- a Steep window is brought forward
  waiting : List (Site × Nat) := []    -- failed sites that await the substitution window, with their functions
  dead : List Nat := []                -- logical data coils erased
  degraded : Bool := false
  coilRetired : Bool := false
  refFallback : Bool := false
  extHops : Nat := 0                   -- hops added for an evacuation
  measured : Nat := 0                  -- number of the free values that the margins last measured have (R267)
  extSlices : Nat := 0
  writes : List (Nat × Nat) := []      -- the last 32 column writes: block and the codeword (R263)
deriving DecidableEq, Repr

/-- Repair and self-test state of a channel (R277–R313). `remap` maps bank × 32768 + row to a spare row. -/
structure ChanRep where
  remap : SMap Nat := []
  usedRows : SMap Nat := []            -- repair spare rows taken in each bank
  usedCols : SMap Nat := []
  cols : List (Nat × Nat × Nat) := []  -- columns repaired: bank, block column, symbol
  migr : Option (Nat × Nat × Nat × Nat) := none  -- bank, column, symbol, next row
  evac : Nat := 0                      -- 0 none, 1 extending, 2 dual writing and copying
  copyAt : Nat := 0                    -- channel-local address of the next copy step
  slice : Option Slice := none
  tally : List (Nat × Nat × Nat × Nat) := []
  lastDefer : Nat := 0
  fullTest : Bool := false             -- the sweep of R398 runs
deriving DecidableEq, Repr

/-- One physical channel and its controller (R161–R181). -/
structure Chan where
  st : ChanState := .serving
  forced : Bool := false
  queue : List QEntry := []
  openRows : SMap Nat := []            -- bank to open row
  sinceMaint : Nat := 7                -- queue entries served since the last maintenance entry (R161)
  srSince : Nat := 0                   -- the instant of SRE; while entering, the commit point to come
  exitFrom : Nat := 0
  srTime : Nat := 0                    -- time in the self-refresh that an exit ends, until SR_TIME takes it (R172)
  retained : Nat := 0xFF
  fullExit : Bool := false             -- the exit runs a full Steep window (R175, R263)
  stopped : Bool := false              -- stopped by a layer relock or by the interim of R272
  forcedFill : Bool := false
  rakePassCe : Nat := 0
  ceRows : List (Option CeRow) := List.replicate 32 none
  wasForced : Bool := false            -- was in forced self-refresh when its layer lost lock
  mem : ChanMem := {}
  ref : ChanRef := {}
  vl : ChanVl := {}
  rep : ChanRep := {}
deriving DecidableEq, Repr

/-- One DRAM layer: its PLL, clocks and supplies (R260–R263, R344–R346). -/
structure Layer where
  st : Nat := 0                        -- STATE of Table 6 of the vertical chapter
  was : Nat := 0                       -- the state that a relock returns to
  relocks : Nat := 0
  refSlot : Nat := 0
  locked : Bool := false
  attempts : Nat := 0
  supply : Nat := 0                    -- 0 off, 1 soft-start, 2 regulating, 3 faulted
  light : Bool := false
  phases : Nat := 0                    -- VDD_REP phases working
  failed : Bool := false
deriving DecidableEq, Repr

/-- The regulator's own state (R137–R160); `rates` are the shares in bytes per ns. -/
structure Regulator where
  tok : SMap Tok := []
  rates : SMap Tok := []
  ptr : SMap Nat := []                 -- tie-break pointer of each channel's admission
  urgSync : BitVec 16 := 0             -- synchronized pins
  urgLevel : BitVec 16 := 0            -- filtered levels
  urgStuck : BitVec 16 := 0
  winFrom : Nat := 0                   -- the instant at which the open accounting window began (R157)
  winBytes : SMap Nat := []            -- bytes delivered per class in the open window
  winHeld : SMap Nat := []             -- cycles of the open window with a covered request held
  nextBytes : SMap Nat := []           -- the same for the next window, which the last quarter of the open one begins
  nextHeld : SMap Nat := []
  missRun : SMap Nat := []             -- consecutive missed windows
  shortfall : Nat := 0
  deliverable : Option Nat := none     -- D as last recomputed
  minCut : SMap Nat := []              -- what the shortfall takes from each guarantee part
  urgCut : SMap Nat := []
  nextGrp : Nat := 0
deriving DecidableEq, Repr

/-- A queue's state (Table 2 of the queue chapter, R240) and its reserved cells (R241). -/
structure Queue where
  head : Nat := 0
  tail : Nat := 0
  cells : Nat := 0
  packets : Nat := 0
  broken : Bool := false
  lockPtr : Nat := 0
  reserved : Nat := 0
deriving DecidableEq, Repr

/-- A link block in a slice's write-back cache (R246, R250): block address, eight entries, which entries have been
written since it was read, whether it was read poisoned, and whether it is dirty. -/
structure LinkBlk where
  addr : Nat
  entries : List (BitVec 64)
  written : Nat := 0
  poisoned : Bool := false
  dirty : Bool := false
deriving DecidableEq, Repr

/-- A slice of the queue engine (R238, R239): the cache has its newest pointer first. -/
structure QSlice where
  cache : List Nat := []
  backlog : List Nat := []             -- cells returned while the cache is full, oldest first
  stack : Nat := 0                     -- pointers on the stack, 16 to a block
  fresh : Nat := 0
  linked : Nat := 0
  reserved : Nat := 0
  awaiting : Nat := 0
  lost : Nat := 0
  blocks : List LinkBlk := []          -- most recently used first
deriving DecidableEq, Repr

/-- A running QFLUSH (R244): the slice, the next cell (global number) and the cells still to return. -/
structure Flush where
  slice : Nat
  cell : Nat
  left : Nat
deriving DecidableEq, Repr

/-- The queue engine (R232–R253). -/
structure Engine where
  queues : SMap Queue := []
  slices : SMap QSlice := []
  flush : Option Flush := none
  limitStage : SMap Nat := []
  limitAct : SMap Nat := []
  failed : Bool := false               -- the quick test failed its state (R299)
  due : Bool := false                  -- cells have returned since the ENQs that wait for one last looked (R242)
deriving DecidableEq, Repr

/-- The state word of a CMD entry (Table 4 of the dictionary chapter). -/
structure CmdState where
  last : Nat := 0
  refused : Bool := false
  running : Bool := false
deriving DecidableEq, Repr

/-- A commit in the applying state (R42, R46): the entries of its set with their values, the queues of its set, the
blocks that have not applied, who is answered, and when it was accepted. -/
structure CommitRun where
  set : List (Nat × Nat)
  limits : List (Nat × Nat)
  left : List Block
  answer : Option Master
  since : Nat
deriving DecidableEq, Repr

/-- A RAW_WRITE or RAW_READ that waits for its maintenance entry (R161, R228): who is answered, the key of its command, the block
it names, and for a write the codeword and the two bits. -/
structure RawJob where
  by_ : Master
  key : Nat
  chan : Nat
  addr : Nat
  data : Nat := 0
  bits : Nat := 0
deriving DecidableEq, Repr

/-- Stage and commit, commands, and the pending answers of the dictionary (R33–R53). -/
structure Dict where
  stageGen : BitVec 32 := 0
  commitSeq : BitVec 32 := 0
  lastCommit : Nat := 0
  lastRefused : Nat := 0
  commitTime : Nat := 0
  commit : Option CommitRun := none
  cmds : SMap CmdState := []
  profileWait : Bool := false          -- PROFILE_PENDING (R27)
  draining : Bool := false             -- REQ and QDAT credits are withheld (R26, R354)
  mpDown : Bool := false               -- the management processor is in block reset
  raw : List RawJob := []              -- raw accesses that wait for their entries (R228)
  held : List (Nat × Instr) := []      -- MGMT_READ and MGMT_WRITE accesses that wait behind a write of their link (R51)
  accPtr : Nat := 0                    -- tie-break pointer of dictionary access (R51, R149)
deriving DecidableEq, Repr

/-- The repair list, evacuation and quick-test records (R279, R289, R298). -/
structure Repair where
  list : List (BitVec 64) := []        -- Table 2 entries, oldest first
  asked : List (BitVec 64) := []       -- locations that REPAIR_REQUEST has named and that are not yet repaired (R281)
  evacState : Nat := 0                 -- STATE of Table 9
  evacSrc : Nat := 0
  evacDst : Nat := 0
  switched : Nat := 0
  evacAns : Bool := false              -- the running evacuation was started by EVACUATE
  retired : List Nat := []             -- channels retired since power-up (always-on, R134)
  rebuilt : List Nat := []             -- those retired since the last map build
  unhardened : List (BitVec 32) := []  -- records HARDEN has still to write, in the order of events
  assign16 : Option Nat := none        -- LAYER_ASSIGN (always-on, R294)
  assign17 : Option Nat := none
  ignored : Nat := 0
  mapEver : Bool := false              -- a map has been built since the power-on reset (always-on, R131)
deriving DecidableEq, Repr

/-- The quick test's results (Table 3 of the self-test chapter). -/
structure QuickTest where
  result : Nat := 0
  timeLimit : Bool := false
  layerLoss : Bool := false
  loopback : Bool := false
  globalSram : Bool := false
  rmapSram : Bool := false
  groups : Nat := 0
  us : Nat := 0
  chanLost : BitVec 128 := 0
  linkLost : BitVec 128 := 0
  rows : Nat := 0
  trainUs : Nat := 0
  nextHop : Nat := 0
  baseDone : Bool := false
  trainDone : Bool := false
deriving DecidableEq, Repr

/-- A sensor group (R319, R324): its value in 1/1024 °C, its number of samples since numbering started, and the last four
samples, newest first. -/
structure Group where
  value : Int := -524288
  count : Nat := 0
  recent : List Int := []
  window : List Int := []              -- the latest closed window
  tier : Nat := 0                      -- tier served: 0 S, 1 M, 2 F
deriving DecidableEq, Repr

/-- The thermal evaluator, the orderly stop and the fans (R314–R340). -/
structure Therm where
  sample : SMap Int := []              -- latest sample of each sensor
  diodeBad : BitVec 80 := 0            -- suspect diodes
  groupBad : BitVec 20 := 0
  groups : SMap Group := []
  acts : SMap (List Nat) := []         -- activations of each layer's channels in each of the last 8 ms, newest first (R319)
  actNow : SMap Nat := []              -- those of the open ms
  minor : Nat := 0                     -- minor cycles of converter A in the open ms
  hotHold : Bool := false              -- RESET_N was released with TJ at 83 °C or above (R333)
  tj : Int := 0
  tjFrom : Nat := 0
  hottest : Int := 0
  zone : Nat := 0
  step : Nat := 0
  held : Bool := false
  limit : Bool := false                -- a zone change occurred less than 10 ms ago (R325)
  stop : Nat := 0                      -- STOP_STATE
  causeSense : Bool := false
  causePower : Bool := false
  causeThermal : Bool := false
  projection : Nat := 0
  trip : Bool := false
  thermN : Bool := false               -- THERM_N asserted
  testHeld : Bool := false
  demotePtr : SMap Nat := []
  integral : Int := 0                  -- of the fan loop, in 1/10240 of 0.1 %
  fwLate : Bool := true                -- no duty for 500 ms
  fanBad : Nat := 0                    -- failed fans
  convBad : Nat := 0                   -- converters without a valid sample for 16 ms (R334)
  boardRun : SMap Nat := []            -- consecutive samples at the limit per board input
deriving DecidableEq, Repr

/-- Rails, PMBus and power states (R341–R361). -/
structure Power where
  st : Nat := 0
  target : Nat := 0
  changing : Bool := false
  since : Nat := 0                     -- the instant at which the change began
  wakeLater : Bool := false            -- WAKE_N met the entry into P4 (R357)
  coreOk : Bool := false
  phyOk : Bool := false
  memOk : Bool := false
  vauxOk : Bool := true
  vprogOk : Bool := false
  pwrwarn : Bool := false
  p0Target : Nat := 75000              -- VIN_CORE target of P0, in 10 µV
  slots : List (Nat × Nat) := []       -- address and role of each slot, as the latest poll took them (R347)
  avsMode : Option Nat := none         -- exponent of VOUT_MODE when it is linear
  avsHeld : Bool := false              -- VOUT_MODE is not linear
  confirmed : Nat := 75000             -- the target that READ_VOUT last confirmed (R351)
  avsCode : Nat := 0                   -- last VOUT_COMMAND
  lowSlack : Nat := 0                  -- consecutive ms below the lower level while AVS is held
  stuck : Bool := false
  railLost : Option Rail := none       -- the rail whose loss holds the reset
deriving DecidableEq, Repr

/-- Clocks, resets and crossings (R362–R375). -/
structure Clocks where
  holdover : Bool := false
  refclkOk : Bool := true
  locks : Nat := 0                     -- bits 4:0 of CLK_STATUS
  resets : List (Nat × Nat) := []      -- block resets in progress: code and instance
  nrLink : BitVec 128 := 0
  nrChan : BitVec 128 := 0
  nrLayer : BitVec 128 := 0            -- the same for each channel's queues to its layer, which a relock resets (R263, R369)
  nrOther : Nat := 0
  resetN : Bool := false               -- level of RESET_N
  count : Nat := 0                     -- RESET_COUNT
  cause : Nat := 0
  source : Nat := 0xFF
  maddr : Nat := 0
deriving DecidableEq, Repr

/-- The fault collector (R376–R389). -/
structure Faults where
  sticky : BitVec 128 := 0
  wire : BitVec 128 := 0
  now : BitVec 128 := 0                -- level sources that report
  equal : BitVec 128 := 0              -- pairs whose rails read equal
  disarmed : BitVec 128 := 0           -- always-on (R382)
  nmi : List Nat := []                 -- traps taken, newest first
  nmiWait : List Nat := []             -- traps pending until the processor restarts (R383)
  jointPin : Bool := false             -- FAULT_N by a failed joint calibration
  chipReq : List Nat := []             -- sources whose CHIPRST waits to act, within its 1 µs (R381, R382)
  blockReq : List (Nat × Nat) := []    -- block resets that wait to act: code and instance (R381)
deriving DecidableEq, Repr

/-- The Granary (R390–R408). `c0` and `c1` are the programmed bits of the two copies of each word. -/
structure Granary where
  c0 : SMap (BitVec 32) := []
  c1 : SMap (BitVec 32) := []
  shadow : SMap (BitVec 32) := []
  normal : SMap (BitVec 32) := []      -- latest normal sense of each word
  margin : SMap (BitVec 32) := []      -- latest margin sense of each word
  marginal : List Nat := []
  changed : List Nat := []
  crcChecked : Nat := 0
  crcFail : Nat := 0
  policy : Nat := 0
  senseState : Nat := 0
  alarm : Bool := false
  ident : List (BitVec 32) := []       -- words 0–6 of G-ID as the latest chip reset found them (R423)
  wlock : Nat := 0                     -- WLOCK and RLOCK bits that act on commands (R406)
  rlock : Nat := 0
deriving DecidableEq, Repr

/-- The life cycle (R409–R424). -/
structure LifeCycle where
  st : LcState := .field
  refusals : Nat := 0
  nonce : BitVec 128 := 0
  wipeUs : Nat := 0
deriving DecidableEq, Repr

/-- An access that the bus target holds (R435). -/
structure BusAcc where
  read : Bool
  key : Nat
  val : List Byte
  told : Bool := false                 -- its frame was returned with STATE pending
  waits : Bool := false                -- it has reached the processor and waits for its command to complete
deriving DecidableEq, Repr

/-- The management-bus target (R425–R449). -/
structure Bus where
  state : Nat := 2                     -- STATE of the result frame
  seq : BitVec 8 := 0
  status : Nat := 0
  value : List Byte := []
  acc : Option BusAcc := none
  flags : BitVec 16 := 0
  reasons : Nat := 0
  out : List Byte := []                -- the bytes last returned to the host
  ptr : Nat := 0                       -- window pointer
  retry : Bool := false                -- an attention request waits for its retry
deriving DecidableEq, Repr

/-- The register that the TAP's instruction selects (R301). -/
inductive TapReg where
  | bypass | idcode | boundary | wrapper | layer | vendor
deriving DecidableEq, Repr

/-- The IEEE 1149.1 TAP (R301, R371). -/
structure Tap where
  ir : Nat := 0x01
  sel : TapReg := .idcode
  cells : Nat := 0
  captured : Nat := 0
  drive : Nat := 0                     -- 0 functional, 1 EXTEST, 2 CLAMP, 3 HIGHZ
  wir0 : Nat := 0
  wir1 : Nat := 0
  layerSel : Nat := 0
  layerCfg : Nat := 0
  test : Nat := 0                      -- what the selected test register captured
deriving DecidableEq, Repr

/-- THE STATE of the stack, and the queue of commands that wait. -/
structure State where
  pending : List Instr := []
  now : Nat := 0
  free : Nat := 0                      -- the model's counter of free values
  boot : Boot := .held
  variant : Variant := .axd6400
  gradeFs : Bool := false
  profile : Profile := .throughput
  regs : SMap Nat := []
  map : List Nat := []                 -- the channel map (R130)
  mapBuilt : Bool := false
  links : SMap Link := []
  ports : SMap Port := []
  chans : SMap Chan := []
  layers : SMap Layer := []
  reg : Regulator := {}
  qe : Engine := {}
  dict : Dict := {}
  repair : Repair := {}
  qt : QuickTest := {}
  therm : Therm := {}
  power : Power := {}
  clk : Clocks := {}
  faults : Faults := {}
  gran : Granary := {}
  lc : LifeCycle := {}
  bus : Bus := {}
  tap : Tap := {}
deriving DecidableEq, Repr

/-- The antifuses of the part that the model starts from (DESIGN CHOICE, log entry 3): G-VARIANT names an AXD6400-FB (word 80, R400) and
the FIELD mark of G-LIFECYCLE is programmed (word 88, R409); every other word is blank. -/
def partFuses : SMap (BitVec 32) := [(80, 0x101#32), (88, 0xFFFF#32)]

/-- Right after a power-on reset: every domain is reset, RESET_N is still low, and nothing is kept (R342, R371). -/
def State.reset : State :=
  { gran := { c0 := partFuses, c1 := partFuses } }

end Sys2Proof.Machine
end

