-- ==== Sys2Proof/Machine/Entries.lean ====
section
/-!
DEFINITION. Entries: the object dictionary as a table (R33, R53), one row for each row of the chapters' entry tables: the
subindices, type, access right, life-cycle gate, default, length, the encodings that a write may carry, and where the
committed copy of a staged entry is kept. It holds no meaning; the families give each entry its effect.
-/

namespace Sys2Proof.Machine

/-- Entry types (R35, Table 1). -/
inductive ETy where
  | bool | u8 | u16 | u20 | i20 | u32 | u64 | str | blob | cmd
deriving DecidableEq, Repr

/-- Access rights (R37, Table 2). -/
inductive ERight where
  | ro | rw | wo | rws
deriving DecidableEq, Repr

/-- Gates (R38, Table 3). -/
inductive EGate where
  | identity | field | ret | mfg
deriving DecidableEq, Repr

/-- Which values of an entry are encodings that its chapter defines (R11, R35). -/
inductive ECheck where
  | any
  | counter               -- a write of zero clears; any other value is invalid
  | range (lo hi : Nat)
  | zeroOr (lo hi : Nat)  -- zero, or a value of the range
  | laneMask              -- LANE_MASK: bits 1:0 not zero
  | ffe                   -- Table 15 of the link chapter
  | classOrFF             -- a class, or 0xFF
  | window                -- ACCT_WINDOW
  | chanBank              -- RH_SELECT: an enabled channel
  | channel               -- an enabled channel
  | coilSel               -- COIL_SELECT
  | subCells              -- POOL_SUB_CELLS
  | alpha                 -- LS_ALPHA
  | pmbAddr               -- PMB_ADDR
  | role                  -- PMB_ROLE: Table 3 codes, VIN_CORE in one slot at most (R347)
deriving DecidableEq, Repr

/-- One row of the dictionary. `dflt` is `none` where the chapter states no number; `len` is the length of the value, the
largest length of a STR or BLOB, and the argument length of a CMD; `mask` keeps the defined bits of a value (R11); `act`
is what is added to the key of an RWS entry to reach its committed copy. -/
structure EntryRow where
  lo : Nat
  hi : Nat
  ty : ETy
  right : ERight
  gate : EGate
  len : Nat
  dflt : Option Nat := some 0
  chk : ECheck := .any
  mask : Option Nat := none
  act : Nat := 0
deriving DecidableEq, Repr

/-- R53, Table 11: dictionary metadata. -/
def metaRows : List EntryRow :=
  [{ lo := 0x01, hi := 0x01, ty := .u16, right := .ro, gate := .identity, len := 2, dflt := some 0x100 },  -- DICT_VERSION
   { lo := 0x02, hi := 0x02, ty := .u16, right := .ro, gate := .identity, len := 2, dflt := none },  -- ENTRY_COUNT
   { lo := 0x03, hi := 0x03, ty := .u8, right := .ro, gate := .identity, len := 1, dflt := some 0xF0 },  -- MAX_VALUE_LEN
   { lo := 0x10, hi := 0x10, ty := .u32, right := .rw, gate := .identity, len := 4, chk := .range 0 0xFFFFFF },  -- DESC_SELECT
   { lo := 0x11, hi := 0x11, ty := .u32, right := .ro, gate := .identity, len := 4, dflt := none },  -- DESC_INFO
   { lo := 0x12, hi := 0x12, ty := .blob, right := .ro, gate := .identity, len := 240, dflt := none },  -- DESC_DEFAULT
   { lo := 0x13, hi := 0x13, ty := .u32, right := .ro, gate := .identity, len := 4, dflt := none }  -- DESC_MIRROR
  ]

/-- R423: identity. -/
def identityRows : List EntryRow :=
  [{ lo := 0x01, hi := 0x01, ty := .str, right := .ro, gate := .identity, len := 64, dflt := none },  -- PART_NAME
   { lo := 0x02, hi := 0x02, ty := .u8, right := .ro, gate := .identity, len := 1, dflt := none },  -- VARIANT
   { lo := 0x03, hi := 0x03, ty := .u8, right := .ro, gate := .identity, len := 1, dflt := none },  -- GRADE
   { lo := 0x04, hi := 0x04, ty := .bool, right := .ro, gate := .identity, len := 1, dflt := none },  -- QE_PRESENT
   { lo := 0x05, hi := 0x05, ty := .bool, right := .ro, gate := .identity, len := 1, dflt := none },  -- IDENTITY_VALID
   { lo := 0x06, hi := 0x06, ty := .u8, right := .ro, gate := .identity, len := 1, dflt := none },  -- DIE_REV
   { lo := 0x07, hi := 0x07, ty := .u8, right := .ro, gate := .identity, len := 1, dflt := none },  -- BASEA_REV
   { lo := 0x08, hi := 0x08, ty := .u16, right := .ro, gate := .identity, len := 2, dflt := none },  -- MFR_CODE
   { lo := 0x09, hi := 0x09, ty := .blob, right := .ro, gate := .identity, len := 16, dflt := none },  -- DEVICE_ID
   { lo := 0x0A, hi := 0x0A, ty := .u32, right := .ro, gate := .identity, len := 4, dflt := none },  -- LOT
   { lo := 0x0B, hi := 0x0B, ty := .u32, right := .ro, gate := .identity, len := 4, dflt := none }  -- DIE_POS
  ]

/-- R424: life cycle and access. -/
def lifeRows : List EntryRow :=
  [{ lo := 0x01, hi := 0x01, ty := .u8, right := .ro, gate := .identity, len := 1, dflt := none },  -- LC_STATE
   { lo := 0x02, hi := 0x02, ty := .u32, right := .ro, gate := .identity, len := 4, dflt := none },  -- LC_STATUS
   { lo := 0x03, hi := 0x03, ty := .blob, right := .ro, gate := .field, len := 16, dflt := none },  -- LC_NONCE
   { lo := 0x04, hi := 0x04, ty := .blob, right := .rw, gate := .field, len := 192 },  -- LC_AUTH
   { lo := 0x05, hi := 0x05, ty := .cmd, right := .wo, gate := .mfg, len := 0, dflt := none },  -- LC_TO_FIELD
   { lo := 0x06, hi := 0x06, ty := .cmd, right := .wo, gate := .field, len := 0, dflt := none },  -- LC_RETURN
   { lo := 0x07, hi := 0x07, ty := .cmd, right := .wo, gate := .ret, len := 4, dflt := none },  -- LC_VOID
   { lo := 0x08, hi := 0x08, ty := .u8, right := .ro, gate := .field, len := 1 },  -- LC_REFUSALS
   { lo := 0x09, hi := 0x09, ty := .u32, right := .ro, gate := .field, len := 4 }  -- LC_WIPE_TIME
  ]

/-- R24 and R361: profile, power and rails. -/
def powerRows : List EntryRow :=
  [{ lo := 0x01, hi := 0x01, ty := .u8, right := .rws, gate := .field, len := 1, chk := .range 0 2, act := 0x1 },  -- PROFILE
   { lo := 0x02, hi := 0x02, ty := .u8, right := .ro, gate := .field, len := 1 },  -- PROFILE_ACTIVE
   { lo := 0x03, hi := 0x03, ty := .bool, right := .ro, gate := .field, len := 1 },  -- PROFILE_PENDING
   { lo := 0x10, hi := 0x10, ty := .cmd, right := .wo, gate := .field, len := 1, dflt := none },  -- POWER_STATE_REQ
   { lo := 0x11, hi := 0x11, ty := .u8, right := .ro, gate := .field, len := 1 },  -- POWER_STATE
   { lo := 0x12, hi := 0x12, ty := .u32, right := .ro, gate := .field, len := 4 },  -- POWER_STATUS
   { lo := 0x13, hi := 0x13, ty := .u16, right := .rw, gate := .field, len := 2, dflt := some 0xA, chk := .range 1 1000 },  -- PWRWARN_HOLD
   { lo := 0x14, hi := 0x14, ty := .u8, right := .rw, gate := .field, len := 1, dflt := some 0x3, mask := some 0x3 },  -- WAKE_SRC
   { lo := 0x15, hi := 0x15, ty := .u8, right := .ro, gate := .field, len := 1 },  -- LAST_WAKE
   { lo := 0x16, hi := 0x16, ty := .u8, right := .ro, gate := .field, len := 1 },  -- LAST_POWER_EVENT
   { lo := 0x17, hi := 0x17, ty := .u32, right := .rw, gate := .field, len := 4, chk := .counter },  -- STATE_CHANGES
   { lo := 0x18, hi := 0x18, ty := .u8, right := .ro, gate := .field, len := 1, dflt := some 0xFF },  -- LAST_WAKE_LINK
   { lo := 0x20, hi := 0x20, ty := .bool, right := .rw, gate := .field, len := 1, dflt := some 0x1 },  -- AVS_ENABLE
   { lo := 0x21, hi := 0x21, ty := .u20, right := .ro, gate := .field, len := 3, dflt := some 0x124F8 },  -- VIN_CORE_TARGET
   { lo := 0x22, hi := 0x22, ty := .u32, right := .rw, gate := .field, len := 4, chk := .counter },  -- AVS_STEPS
   { lo := 0x30, hi := 0x30, ty := .u32, right := .ro, gate := .field, len := 4 },  -- STACK_POWER
   { lo := 0x40, hi := 0x43, ty := .u8, right := .rw, gate := .field, len := 1, chk := .pmbAddr },  -- PMB_ADDR0–3
   { lo := 0x44, hi := 0x47, ty := .u8, right := .rw, gate := .field, len := 1, chk := .role },  -- PMB_ROLE0–3
   { lo := 0x48, hi := 0x48, ty := .u8, right := .rw, gate := .field, len := 1, dflt := some 0x1, chk := .range 0 2 },  -- PMB_SPEED
   { lo := 0x49, hi := 0x49, ty := .u8, right := .rw, gate := .field, len := 1, dflt := some 0xF, mask := some 0xF },  -- PMB_PEC
   { lo := 0x4A, hi := 0x4A, ty := .u32, right := .ro, gate := .field, len := 4 },  -- PMB_STATUS
   { lo := 0x50, hi := 0x53, ty := .u16, right := .ro, gate := .field, len := 2 },  -- PMB_STATUS_WORD0–3
   { lo := 0x54, hi := 0x57, ty := .u20, right := .ro, gate := .field, len := 3 },  -- PMB_VOUT0–3
   { lo := 0x58, hi := 0x5B, ty := .u20, right := .ro, gate := .field, len := 3 },  -- PMB_IOUT0–3
   { lo := 0x5C, hi := 0x5F, ty := .i20, right := .ro, gate := .field, len := 3 },  -- PMB_TEMP0–3
   { lo := 0x60, hi := 0x60, ty := .u32, right := .rw, gate := .field, len := 4, chk := .counter },  -- PMB_RECOVERIES
   { lo := 0x61, hi := 0x61, ty := .u32, right := .rw, gate := .field, len := 4, chk := .counter },  -- PMB_ERRORS
   { lo := 0x70, hi := 0x70, ty := .blob, right := .ro, gate := .field, len := 18 },  -- LAYER_REG_STATE
   { lo := 0x71, hi := 0x71, ty := .u32, right := .rw, gate := .field, len := 4, chk := .counter }  -- LAYER_REG_FAULTS
  ]

/-- R340: thermal, zones and cooling. -/
def thermRows : List EntryRow :=
  [{ lo := 0x01, hi := 0x01, ty := .u8, right := .ro, gate := .field, len := 1 },  -- ZONE
   { lo := 0x02, hi := 0x02, ty := .u32, right := .ro, gate := .field, len := 4 },  -- THERM_STATUS
   { lo := 0x03, hi := 0x03, ty := .i20, right := .ro, gate := .field, len := 3 },  -- TJ
   { lo := 0x04, hi := 0x04, ty := .i20, right := .ro, gate := .field, len := 3 },  -- HOTTEST_LAYER
   { lo := 0x05, hi := 0x05, ty := .u32, right := .ro, gate := .field, len := 4 },  -- STOP_PROJECTION
   { lo := 0x06, hi := 0x06, ty := .u32, right := .rw, gate := .field, len := 4, chk := .counter },  -- ZONE_CHANGES
   { lo := 0x07, hi := 0x07, ty := .u32, right := .rw, gate := .field, len := 4, chk := .counter },  -- ZONE_DEFERRED
   { lo := 0x08, hi := 0x08, ty := .u32, right := .rw, gate := .field, len := 4, chk := .counter },  -- STOPS
   { lo := 0x09, hi := 0x09, ty := .u8, right := .ro, gate := .field, len := 1 },  -- LAST_TRIP
   { lo := 0x0A, hi := 0x0A, ty := .i20, right := .ro, gate := .field, len := 3 },  -- TRIP_TJ
   { lo := 0x10, hi := 0x10, ty := .cmd, right := .wo, gate := .field, len := 0, dflt := none },  -- RESUME
   { lo := 0x11, hi := 0x11, ty := .bool, right := .rw, gate := .field, len := 1 },  -- AUTO_RESUME
   { lo := 0x12, hi := 0x12, ty := .cmd, right := .wo, gate := .field, len := 1, dflt := none },  -- GROUP_CLEAR
   { lo := 0x13, hi := 0x13, ty := .u16, right := .rw, gate := .field, len := 2, dflt := some 0x40 },  -- MODEL_GAIN
   { lo := 0x14, hi := 0x14, ty := .u16, right := .rw, gate := .field, len := 2, dflt := some 0x14, chk := .range 5 1000 },  -- Z2_STEP_PERIOD
   { lo := 0x15, hi := 0x15, ty := .blob, right := .ro, gate := .field, len := 10 },  -- DIODE_SUSPECT
   { lo := 0x16, hi := 0x16, ty := .u32, right := .ro, gate := .field, len := 4 },  -- GROUP_SUSPECT
   { lo := 0x17, hi := 0x17, ty := .u64, right := .rw, gate := .field, len := 8, chk := .counter },  -- SAMPLE_DEMOTED
   { lo := 0x20, hi := 0x20, ty := .u8, right := .rw, gate := .field, len := 1, chk := .range 0 1 },  -- FAN_MODE
   { lo := 0x21, hi := 0x21, ty := .i20, right := .rw, gate := .field, len := 3, dflt := some 0x14000 },  -- FAN_SETPOINT
   { lo := 0x22, hi := 0x22, ty := .u16, right := .rw, gate := .field, len := 2, dflt := some 0x32 },  -- FAN_KP
   { lo := 0x23, hi := 0x23, ty := .u16, right := .rw, gate := .field, len := 2, dflt := some 0xA },  -- FAN_KI
   { lo := 0x24, hi := 0x24, ty := .u16, right := .rw, gate := .field, len := 2, dflt := some 0xC8, chk := .range 0 1000 },  -- FAN_DUTY_MIN
   { lo := 0x25, hi := 0x25, ty := .u16, right := .rw, gate := .field, len := 2, dflt := some 0x3E8, chk := .range 0 1000 },  -- FAN_DUTY_MANUAL
   { lo := 0x26, hi := 0x27, ty := .u16, right := .ro, gate := .field, len := 2, dflt := some 0x3E8 },  -- FAN_DUTY0–1
   { lo := 0x28, hi := 0x29, ty := .u16, right := .ro, gate := .field, len := 2 },  -- FAN_RPM0–1
   { lo := 0x2A, hi := 0x2A, ty := .u8, right := .rw, gate := .field, len := 1, dflt := some 0x2, chk := .range 1 4 },  -- FAN_PULSES
   { lo := 0x2B, hi := 0x2C, ty := .u16, right := .rw, gate := .field, len := 2 },  -- FAN_MIN_RPM0–1
   { lo := 0x2D, hi := 0x2D, ty := .u8, right := .ro, gate := .field, len := 1, dflt := some 0x4 },  -- FAN_STATUS
   { lo := 0x30, hi := 0x30, ty := .u8, right := .rw, gate := .field, len := 1 }  -- BOARD_SENSOR_EN
  ] ++
  [{ lo := 0x31, hi := 0x34, ty := .i20, right := .rw, gate := .field, len := 3, dflt := some 0x19000 },  -- TD_LIMIT0–3
   { lo := 0x35, hi := 0x38, ty := .i20, right := .rw, gate := .field, len := 3, dflt := some 0x19000 },  -- TH_LIMIT0–3
   { lo := 0x39, hi := 0x3C, ty := .u16, right := .rw, gate := .field, len := 2, dflt := some 0x2760, chk := .range 9000 11000 },  -- TD_IDEALITY0–3
   { lo := 0x3D, hi := 0x40, ty := .u16, right := .rw, gate := .field, len := 2, dflt := some 0xD6B, chk := .range 2000 6000 }  -- TH_BETA0–3
  ]

/-- R375: clocks and resets. -/
def clockRows : List EntryRow :=
  [{ lo := 0x01, hi := 0x01, ty := .u32, right := .ro, gate := .field, len := 4 },  -- CLK_STATUS
   { lo := 0x02, hi := 0x02, ty := .u32, right := .rw, gate := .field, len := 4, chk := .counter },  -- REFCLK_LOSSES
   { lo := 0x03, hi := 0x03, ty := .u32, right := .rw, gate := .field, len := 4, chk := .counter },  -- HOLDOVER_MAX
   { lo := 0x10, hi := 0x10, ty := .u16, right := .ro, gate := .identity, len := 2, dflt := some 0xFF00 },  -- LAST_RESET
   { lo := 0x11, hi := 0x11, ty := .u32, right := .ro, gate := .identity, len := 4 },  -- RESET_COUNT
   { lo := 0x12, hi := 0x12, ty := .cmd, right := .wo, gate := .field, len := 2, dflt := none },  -- CHIP_RESET
   { lo := 0x13, hi := 0x13, ty := .cmd, right := .wo, gate := .field, len := 2, dflt := none },  -- BLOCK_RESET
   { lo := 0x14, hi := 0x14, ty := .u8, right := .ro, gate := .field, len := 1 },  -- BLOCK_RESET_STATE
   { lo := 0x15, hi := 0x15, ty := .u32, right := .rw, gate := .field, len := 4, chk := .counter },  -- BLOCK_RESETS
   { lo := 0x20, hi := 0x25, ty := .i20, right := .ro, gate := .field, len := 3 },  -- CLK_FREQ_ERR0–5
   { lo := 0x30, hi := 0x30, ty := .blob, right := .ro, gate := .field, len := 16 },  -- CDC_NR_LINK
   { lo := 0x31, hi := 0x31, ty := .blob, right := .ro, gate := .field, len := 16 },  -- CDC_NR_CHAN
   { lo := 0x32, hi := 0x32, ty := .u8, right := .ro, gate := .field, len := 1 }  -- CDC_NR_OTHER
  ]

/-- R95: one index per link. -/
def linkRows : List EntryRow :=
  [{ lo := 0x01, hi := 0x01, ty := .bool, right := .rws, gate := .field, len := 1, dflt := some 0x1, act := 0x20 },  -- LINK_ENABLE
   { lo := 0x02, hi := 0x02, ty := .bool, right := .rws, gate := .field, len := 1, dflt := some 0x1, act := 0x20 },  -- MGMT_ENABLE
   { lo := 0x03, hi := 0x03, ty := .u8, right := .rws, gate := .field, len := 1, dflt := some 0x3, chk := .laneMask, mask := some 0x3, act := 0x20 },  -- LANE_MASK
   { lo := 0x04, hi := 0x04, ty := .u32, right := .rws, gate := .field, len := 4, dflt := some 0x204050, chk := .ffe, mask := some 0xF0F0FF, act := 0x20 },  -- TX_FFE_A
   { lo := 0x05, hi := 0x05, ty := .u32, right := .rws, gate := .field, len := 4, dflt := some 0x204050, chk := .ffe, mask := some 0xF0F0FF, act := 0x20 },  -- TX_FFE_B
   { lo := 0x06, hi := 0x06, ty := .cmd, right := .wo, gate := .field, len := 0, dflt := none },  -- LINK_RESET
   { lo := 0x07, hi := 0x07, ty := .u8, right := .ro, gate := .field, len := 1, dflt := some 0x2 },  -- LINK_STATE
   { lo := 0x08, hi := 0x08, ty := .u32, right := .ro, gate := .field, len := 4 },  -- LINK_STATUS
   { lo := 0x09, hi := 0x09, ty := .u64, right := .ro, gate := .field, len := 8 },  -- PARTNER_CREDITS
   { lo := 0x0A, hi := 0x0A, ty := .u32, right := .rw, gate := .field, len := 4, dflt := some 0x10000 },  -- LANE_SER_LIMIT
   { lo := 0x10, hi := 0x10, ty := .u32, right := .rw, gate := .field, len := 4, chk := .counter },  -- TRAIN_COUNT
   { lo := 0x11, hi := 0x11, ty := .u32, right := .rw, gate := .field, len := 4, chk := .counter },  -- TRAIN_FAIL_COUNT
   { lo := 0x12, hi := 0x12, ty := .u32, right := .rw, gate := .field, len := 4, chk := .counter },  -- RECOVER_COUNT
   { lo := 0x13, hi := 0x13, ty := .u32, right := .rw, gate := .field, len := 4, chk := .counter },  -- LANE_FAIL_COUNT
   { lo := 0x14, hi := 0x14, ty := .u64, right := .rw, gate := .field, len := 8, chk := .counter },  -- FEC_SYM_CORR_A
   { lo := 0x15, hi := 0x15, ty := .u64, right := .rw, gate := .field, len := 8, chk := .counter },  -- FEC_SYM_CORR_B
   { lo := 0x16, hi := 0x16, ty := .u64, right := .rw, gate := .field, len := 8, chk := .counter },  -- FEC_FRAME_CORR
   { lo := 0x17, hi := 0x17, ty := .u64, right := .rw, gate := .field, len := 8, chk := .counter },  -- FEC_FRAME_UNCORR
   { lo := 0x18, hi := 0x18, ty := .u64, right := .rw, gate := .field, len := 8, chk := .counter },  -- CRC_FAIL
   { lo := 0x19, hi := 0x19, ty := .u32, right := .rw, gate := .field, len := 4, chk := .counter },  -- NAK_SENT
   { lo := 0x1A, hi := 0x1A, ty := .u32, right := .rw, gate := .field, len := 4, chk := .counter },  -- REPLAY_SENT
   { lo := 0x1B, hi := 0x1B, ty := .u64, right := .rw, gate := .field, len := 8, chk := .counter },  -- REPLAY_FRAMES
   { lo := 0x1C, hi := 0x1C, ty := .u32, right := .rw, gate := .field, len := 4, chk := .counter },  -- PROTOCOL_ERRORS
   { lo := 0x1D, hi := 0x1D, ty := .u64, right := .rw, gate := .field, len := 8, chk := .counter },  -- FRAMES_RX
   { lo := 0x1E, hi := 0x1E, ty := .u64, right := .rw, gate := .field, len := 8, chk := .counter },  -- FRAMES_TX
   { lo := 0x21, hi := 0x21, ty := .bool, right := .ro, gate := .field, len := 1, dflt := some 0x1 },  -- LINK_ENABLE_ACT
   { lo := 0x22, hi := 0x22, ty := .bool, right := .ro, gate := .field, len := 1, dflt := some 0x1 },  -- MGMT_ENABLE_ACT
   { lo := 0x23, hi := 0x23, ty := .u8, right := .ro, gate := .field, len := 1, dflt := some 0x3 },  -- LANE_MASK_ACT
   { lo := 0x24, hi := 0x24, ty := .u32, right := .ro, gate := .field, len := 4, dflt := some 0x204050 },  -- TX_FFE_A_ACT
   { lo := 0x25, hi := 0x25, ty := .u32, right := .ro, gate := .field, len := 4, dflt := some 0x204050 }  -- TX_FFE_B_ACT
  ]

/-- R136, R181, R201, R231, R276, R297, R313: one index per channel. -/
def chanRows : List EntryRow :=
  [{ lo := 0x01, hi := 0x01, ty := .u32, right := .rws, gate := .field, len := 4, dflt := some 0xFA0, chk := .zeroOr 256 1000000, act := 0x20 },  -- IDLE_SR_TIME
   { lo := 0x02, hi := 0x02, ty := .u8, right := .rws, gate := .field, len := 1, dflt := some 0xFF, act := 0x20 },  -- PASR_MASK
   { lo := 0x03, hi := 0x03, ty := .u16, right := .rws, gate := .field, len := 2, dflt := some 0x8, chk := .range 1 64, act := 0x20 },  -- STEEP_INTERVAL
   { lo := 0x21, hi := 0x21, ty := .u32, right := .ro, gate := .field, len := 4, dflt := some 0xFA0 },  -- IDLE_SR_TIME_ACT
   { lo := 0x22, hi := 0x22, ty := .u8, right := .ro, gate := .field, len := 1, dflt := some 0xFF },  -- PASR_MASK_ACT
   { lo := 0x23, hi := 0x23, ty := .u16, right := .ro, gate := .field, len := 2, dflt := some 0x8 },  -- STEEP_INTERVAL_ACT
   { lo := 0x30, hi := 0x30, ty := .u8, right := .ro, gate := .field, len := 1 },  -- CHAN_STATE
   { lo := 0x31, hi := 0x31, ty := .u32, right := .ro, gate := .field, len := 4, dflt := some 0xFF },  -- CHAN_STATUS
   { lo := 0x32, hi := 0x32, ty := .u8, right := .ro, gate := .field, len := 1 },  -- QUEUE_DEPTH
   { lo := 0x40, hi := 0x40, ty := .u16, right := .ro, gate := .field, len := 2, dflt := some 0x22 },  -- T_RCD
   { lo := 0x41, hi := 0x41, ty := .u16, right := .ro, gate := .field, len := 2, dflt := some 0x22 },  -- T_RP
   { lo := 0x42, hi := 0x42, ty := .u16, right := .ro, gate := .field, len := 2, dflt := some 0x44 },  -- T_RAS
   { lo := 0x43, hi := 0x43, ty := .u16, right := .ro, gate := .field, len := 2, dflt := some 0x66 },  -- T_RC
   { lo := 0x44, hi := 0x44, ty := .u16, right := .ro, gate := .field, len := 2, dflt := some 0x22 },  -- T_CL
   { lo := 0x45, hi := 0x45, ty := .u16, right := .ro, gate := .field, len := 2, dflt := some 0x18 },  -- T_CWL
   { lo := 0x46, hi := 0x46, ty := .u16, right := .ro, gate := .field, len := 2, dflt := some 0x4 },  -- T_BURST
   { lo := 0x47, hi := 0x47, ty := .u16, right := .ro, gate := .field, len := 2, dflt := some 0x4 },  -- T_CCD_S
   { lo := 0x48, hi := 0x48, ty := .u16, right := .ro, gate := .field, len := 2, dflt := some 0x6 },  -- T_CCD_L
   { lo := 0x49, hi := 0x49, ty := .u16, right := .ro, gate := .field, len := 2, dflt := some 0x4 },  -- T_RRD_S
   { lo := 0x4A, hi := 0x4A, ty := .u16, right := .ro, gate := .field, len := 2, dflt := some 0x6 },  -- T_RRD_L
   { lo := 0x4B, hi := 0x4B, ty := .u16, right := .ro, gate := .field, len := 2, dflt := some 0x10 },  -- T_FAW
   { lo := 0x4C, hi := 0x4C, ty := .u16, right := .ro, gate := .field, len := 2, dflt := some 0x24 },  -- T_WR
   { lo := 0x4D, hi := 0x4D, ty := .u16, right := .ro, gate := .field, len := 2, dflt := some 0x12 },  -- T_RTP
   { lo := 0x4E, hi := 0x4E, ty := .u16, right := .ro, gate := .field, len := 2, dflt := some 0x6 },  -- T_WTR_S
   { lo := 0x4F, hi := 0x4F, ty := .u16, right := .ro, gate := .field, len := 2, dflt := some 0x12 },  -- T_WTR_L
   { lo := 0x50, hi := 0x50, ty := .u16, right := .ro, gate := .field, len := 2, dflt := some 0x2 },  -- T_RTW
   { lo := 0x51, hi := 0x51, ty := .u16, right := .ro, gate := .field, len := 2, dflt := some 0xD8 },  -- T_RFCPB
   { lo := 0x52, hi := 0x52, ty := .u16, right := .ro, gate := .field, len := 2, dflt := some 0x120 },  -- T_XS
   { lo := 0x53, hi := 0x53, ty := .u16, right := .ro, gate := .field, len := 2, dflt := some 0x18 },  -- T_SR_MIN
   { lo := 0x60, hi := 0x60, ty := .u64, right := .rw, gate := .field, len := 8, chk := .counter }  -- REQ_SERVED
  ] ++
  [{ lo := 0x61, hi := 0x61, ty := .u64, right := .rw, gate := .field, len := 8, chk := .counter },  -- ROW_HITS
   { lo := 0x62, hi := 0x62, ty := .u64, right := .rw, gate := .field, len := 8, chk := .counter },  -- ROW_MISSES
   { lo := 0x63, hi := 0x63, ty := .u64, right := .rw, gate := .field, len := 8, chk := .counter },  -- ROW_CONFLICTS
   { lo := 0x64, hi := 0x64, ty := .u64, right := .rw, gate := .field, len := 8, chk := .counter },  -- ZERO_READS
   { lo := 0x65, hi := 0x65, ty := .u64, right := .rw, gate := .field, len := 8, chk := .counter },  -- MAINT_ENTRIES
   { lo := 0x66, hi := 0x66, ty := .u8, right := .rw, gate := .field, len := 1, chk := .counter },  -- QUEUE_PEAK
   { lo := 0x67, hi := 0x67, ty := .u32, right := .rw, gate := .field, len := 4, chk := .counter },  -- SR_ENTRIES
   { lo := 0x68, hi := 0x68, ty := .u32, right := .rw, gate := .field, len := 4, chk := .counter },  -- SR_CANCELS
   { lo := 0x69, hi := 0x69, ty := .u32, right := .rw, gate := .field, len := 4, chk := .counter },  -- SR_WAKES
   { lo := 0x6A, hi := 0x6A, ty := .u64, right := .rw, gate := .field, len := 8, chk := .counter },  -- SR_TIME
   { lo := 0x6B, hi := 0x6B, ty := .u16, right := .rw, gate := .field, len := 2, chk := .counter },  -- SR_EXIT_MAX
   { lo := 0x6C, hi := 0x6C, ty := .u32, right := .rw, gate := .field, len := 4, chk := .counter },  -- STEEP_COUNT
   { lo := 0x6D, hi := 0x6D, ty := .u32, right := .rw, gate := .field, len := 4, chk := .counter },  -- STEEP_EXTENDED
   { lo := 0x6E, hi := 0x6E, ty := .u16, right := .rw, gate := .field, len := 2, chk := .counter },  -- STEEP_MAX
   { lo := 0x6F, hi := 0x6F, ty := .u16, right := .rw, gate := .field, len := 2, chk := .counter },  -- CHAN_LAT_MAX
   { lo := 0x80, hi := 0x80, ty := .u8, right := .ro, gate := .field, len := 1, dflt := some 0x1 },  -- REF_RATE
   { lo := 0x81, hi := 0x81, ty := .u8, right := .ro, gate := .field, len := 1 },  -- NEXT_BANK
   { lo := 0x82, hi := 0x82, ty := .u16, right := .ro, gate := .field, len := 2 },  -- REF_DEBT
   { lo := 0x83, hi := 0x83, ty := .u16, right := .rw, gate := .field, len := 2, chk := .counter },  -- REF_DEBT_PEAK
   { lo := 0x84, hi := 0x84, ty := .u64, right := .rw, gate := .field, len := 8, chk := .counter },  -- REF_ISSUED
   { lo := 0x85, hi := 0x85, ty := .u64, right := .rw, gate := .field, len := 8, chk := .counter },  -- REF_POSTPONED
   { lo := 0x86, hi := 0x86, ty := .u64, right := .rw, gate := .field, len := 8, chk := .counter },  -- REF_URGENT
   { lo := 0x87, hi := 0x87, ty := .u32, right := .rw, gate := .field, len := 4, chk := .counter },  -- REF_BURSTS
   { lo := 0x88, hi := 0x88, ty := .u64, right := .rw, gate := .field, len := 8, chk := .counter },  -- RH_TRIGGERS
   { lo := 0x89, hi := 0x89, ty := .u64, right := .rw, gate := .field, len := 8, chk := .counter },  -- RH_NEIGHBOUR_ROWS
   { lo := 0x8A, hi := 0x8A, ty := .u64, right := .rw, gate := .field, len := 8, chk := .counter },  -- RH_REPLACEMENTS
   { lo := 0x8B, hi := 0x8B, ty := .u8, right := .ro, gate := .field, len := 1 },  -- RH_PENDING
   { lo := 0x8C, hi := 0x8C, ty := .u32, right := .rw, gate := .field, len := 4, chk := .counter },  -- RH_FORCED
   { lo := 0x8D, hi := 0x8D, ty := .u16, right := .rw, gate := .field, len := 2, chk := .counter },  -- RH_COUNT_MAX
   { lo := 0xA0, hi := 0xA0, ty := .u64, right := .rw, gate := .field, len := 8, chk := .counter }  -- ECC_CE
  ] ++
  [{ lo := 0xA1, hi := 0xA1, ty := .u64, right := .rw, gate := .field, len := 8, chk := .counter },  -- ECC_CE_SYMBOLS
   { lo := 0xA2, hi := 0xA2, ty := .u64, right := .rw, gate := .field, len := 8, chk := .counter },  -- ECC_UE
   { lo := 0xA3, hi := 0xA3, ty := .u64, right := .rw, gate := .field, len := 8, chk := .counter },  -- POISON_READS
   { lo := 0xA4, hi := 0xA4, ty := .u64, right := .rw, gate := .field, len := 8, chk := .counter },  -- POISON_WRITES
   { lo := 0xA5, hi := 0xA5, ty := .u32, right := .rw, gate := .field, len := 4, chk := .counter },  -- META_CE
   { lo := 0xA6, hi := 0xA6, ty := .u32, right := .rw, gate := .field, len := 4, chk := .counter },  -- META_UE
   { lo := 0xA7, hi := 0xA7, ty := .u32, right := .rw, gate := .field, len := 4, chk := .counter },  -- RMAP_PARITY_ERR
   { lo := 0xA8, hi := 0xA8, ty := .u32, right := .rw, gate := .field, len := 4, chk := .counter },  -- REGION_INITS
   { lo := 0xA9, hi := 0xA9, ty := .u16, right := .ro, gate := .field, len := 2 },  -- REGIONS_WRITTEN
   { lo := 0xAA, hi := 0xAA, ty := .u64, right := .rw, gate := .field, len := 8, chk := .counter },  -- RAKE_STEPS
   { lo := 0xAB, hi := 0xAB, ty := .u64, right := .rw, gate := .field, len := 8, chk := .counter },  -- RAKE_WRITEBACKS
   { lo := 0xAC, hi := 0xAC, ty := .u32, right := .ro, gate := .field, len := 4 },  -- RAKE_POSITION
   { lo := 0xAD, hi := 0xAD, ty := .u32, right := .rw, gate := .field, len := 4, chk := .counter },  -- RAKE_PASSES
   { lo := 0xAE, hi := 0xAE, ty := .u32, right := .ro, gate := .field, len := 4 },  -- UE_LAST
   { lo := 0xAF, hi := 0xAF, ty := .u32, right := .ro, gate := .field, len := 4 },  -- INTEG_STATUS
   { lo := 0xB0, hi := 0xB0, ty := .u32, right := .rw, gate := .field, len := 4, chk := .counter },  -- CE_ROW_OVERFLOW
   { lo := 0xB1, hi := 0xB1, ty := .u32, right := .ro, gate := .field, len := 4 },  -- RAKE_LAST_PASS_CE
   { lo := 0xB2, hi := 0xB2, ty := .u8, right := .ro, gate := .field, len := 1 },  -- FILL_PENDING
   { lo := 0xC0, hi := 0xC0, ty := .u8, right := .ro, gate := .field, len := 1, dflt := none },  -- HOME_LAYER
   { lo := 0xC1, hi := 0xC1, ty := .u32, right := .ro, gate := .field, len := 4, dflt := none },  -- VL_STATUS
   { lo := 0xC2, hi := 0xC2, ty := .u32, right := .rw, gate := .field, len := 4, chk := .counter },  -- COIL_FAILS
   { lo := 0xC3, hi := 0xC3, ty := .u32, right := .rw, gate := .field, len := 4, chk := .counter },  -- SPARE_SWAPS
   { lo := 0xC4, hi := 0xC4, ty := .u32, right := .rw, gate := .field, len := 4, chk := .counter },  -- COIL_SER_TRIPS
   { lo := 0xC5, hi := 0xC5, ty := .u64, right := .rw, gate := .field, len := 8, chk := .counter },  -- CA_CORR
   { lo := 0xC6, hi := 0xC6, ty := .u32, right := .rw, gate := .field, len := 4, chk := .counter },  -- CA_REISSUE
   { lo := 0xC7, hi := 0xC7, ty := .u32, right := .rw, gate := .field, len := 4, chk := .counter },  -- RELOCK_WAIT_MAX
   { lo := 0xD0, hi := 0xD0, ty := .u8, right := .ro, gate := .field, len := 1, dflt := none },  -- SPARE_ROWS_MIN
   { lo := 0xD1, hi := 0xD1, ty := .blob, right := .ro, gate := .field, len := 16, dflt := none },  -- SPARE_ROWS
   { lo := 0xD2, hi := 0xD2, ty := .blob, right := .ro, gate := .field, len := 16, dflt := none },  -- SPARE_COLS
   { lo := 0xD3, hi := 0xD3, ty := .u16, right := .ro, gate := .field, len := 2 }  -- SOFT_REPAIRS
  ] ++
  [{ lo := 0xD4, hi := 0xD4, ty := .u16, right := .ro, gate := .field, len := 2, dflt := none },  -- HARD_REPAIRS
   { lo := 0xD5, hi := 0xD5, ty := .u8, right := .ro, gate := .field, len := 1 },  -- RETIRE_CAUSE
   { lo := 0xD6, hi := 0xD6, ty := .u32, right := .ro, gate := .field, len := 4 },  -- MIGRATION
   { lo := 0xD7, hi := 0xD7, ty := .u32, right := .ro, gate := .field, len := 4 },  -- EVAC_ROWS_LEFT
   { lo := 0xE0, hi := 0xE0, ty := .u8, right := .ro, gate := .field, len := 1, dflt := none },  -- LOGICAL_NUM
   { lo := 0xE1, hi := 0xE1, ty := .u8, right := .ro, gate := .field, len := 1 },  -- MAP_STATE
   { lo := 0xE2, hi := 0xE2, ty := .bool, right := .rws, gate := .field, len := 1, act := 0x1 },  -- EXCLUDE
   { lo := 0xE3, hi := 0xE3, ty := .bool, right := .ro, gate := .field, len := 1 },  -- EXCLUDE_ACT
   { lo := 0xF0, hi := 0xF0, ty := .u32, right := .ro, gate := .field, len := 4 },  -- SPARGE_POSITION
   { lo := 0xF1, hi := 0xF1, ty := .u64, right := .rw, gate := .field, len := 8, chk := .counter },  -- SPARGE_SLICES
   { lo := 0xF2, hi := 0xF2, ty := .u32, right := .rw, gate := .field, len := 4, chk := .counter },  -- SPARGE_DEFERRED
   { lo := 0xF3, hi := 0xF3, ty := .u32, right := .rw, gate := .field, len := 4, chk := .counter },  -- SPARGE_ABORTED
   { lo := 0xF4, hi := 0xF4, ty := .u32, right := .rw, gate := .field, len := 4, chk := .counter },  -- SPARGE_FAILS
   { lo := 0xF5, hi := 0xF5, ty := .u32, right := .rw, gate := .field, len := 4, chk := .counter },  -- SPARGE_NO_SPARE
   { lo := 0xF6, hi := 0xF6, ty := .u32, right := .rw, gate := .field, len := 4, chk := .counter },  -- SPARGE_SWEEPS
   { lo := 0xF7, hi := 0xF7, ty := .u32, right := .ro, gate := .field, len := 4 }  -- SPARGE_STATUS
  ]

/-- R201: refresh and disturbance. -/
def refreshRows : List EntryRow :=
  [{ lo := 0x01, hi := 0x01, ty := .u8, right := .rws, gate := .field, len := 1, chk := .range 0 2, act := 0x20 },  -- REFRESH_MODE
   { lo := 0x02, hi := 0x02, ty := .u16, right := .rws, gate := .field, len := 2, dflt := some 0x1000, chk := .range 0x200 0x8000, act := 0x20 },  -- RH_THRESHOLD
   { lo := 0x03, hi := 0x03, ty := .u8, right := .rws, gate := .field, len := 1, dflt := some 0x1, chk := .range 1 2, act := 0x20 },  -- RH_RADIUS
   { lo := 0x21, hi := 0x21, ty := .u8, right := .ro, gate := .field, len := 1 },  -- REFRESH_MODE_ACT
   { lo := 0x22, hi := 0x22, ty := .u16, right := .ro, gate := .field, len := 2, dflt := some 0x1000 },  -- RH_THRESHOLD_ACT
   { lo := 0x23, hi := 0x23, ty := .u8, right := .ro, gate := .field, len := 1, dflt := some 0x1 },  -- RH_RADIUS_ACT
   { lo := 0x30, hi := 0x30, ty := .u8, right := .ro, gate := .field, len := 1, dflt := some 0x1 },  -- REFRESH_RATE
   { lo := 0x31, hi := 0x31, ty := .u32, right := .rw, gate := .field, len := 4, chk := .counter },  -- RATE_CHANGES
   { lo := 0x32, hi := 0x32, ty := .bool, right := .ro, gate := .field, len := 1 },  -- FORCE_1X_OVERRIDDEN
   { lo := 0x40, hi := 0x40, ty := .u16, right := .rw, gate := .field, len := 2, chk := .chanBank, mask := some 0x7FF },  -- RH_SELECT
   { lo := 0x41, hi := 0x41, ty := .blob, right := .ro, gate := .field, len := 96, dflt := none },  -- RH_TABLE
   { lo := 0x42, hi := 0x42, ty := .u32, right := .ro, gate := .field, len := 4 },  -- RH_SPILL
   { lo := 0x43, hi := 0x43, ty := .u16, right := .ro, gate := .field, len := 2 }  -- REF_POINTER
  ]

/-- R231: integrity. -/
def integRows : List EntryRow :=
  [{ lo := 0x01, hi := 0x01, ty := .u8, right := .rws, gate := .field, len := 1, chk := .range 0 1, act := 0x20 },  -- ECC_MODE
   { lo := 0x02, hi := 0x02, ty := .u32, right := .rws, gate := .field, len := 4, dflt := some 0xA8C0, chk := .range 3600 604800, act := 0x20 },  -- RAKE_PASS_TIME
   { lo := 0x03, hi := 0x03, ty := .u8, right := .rws, gate := .field, len := 1, dflt := some 0x4, chk := .range 1 255, act := 0x20 },  -- CE_ROW_LIMIT
   { lo := 0x21, hi := 0x21, ty := .u8, right := .ro, gate := .field, len := 1 },  -- ECC_MODE_ACT
   { lo := 0x22, hi := 0x22, ty := .u32, right := .ro, gate := .field, len := 4, dflt := some 0xA8C0 },  -- RAKE_PASS_TIME_ACT
   { lo := 0x23, hi := 0x23, ty := .u8, right := .ro, gate := .field, len := 1, dflt := some 0x4 },  -- CE_ROW_LIMIT_ACT
   { lo := 0x30, hi := 0x30, ty := .u32, right := .rw, gate := .field, len := 4, chk := .counter },  -- SRAM_PARITY_ERR
   { lo := 0x40, hi := 0x40, ty := .u8, right := .rw, gate := .field, len := 1, chk := .channel },  -- CE_ROW_SELECT
   { lo := 0x41, hi := 0x41, ty := .blob, right := .ro, gate := .field, len := 128, dflt := none },  -- CE_ROW_TABLE
   { lo := 0x60, hi := 0x66, ty := .u64, right := .rw, gate := .field, len := 8 },  -- INJ_CTRL0–6
   { lo := 0x70, hi := 0x76, ty := .u16, right := .ro, gate := .field, len := 2 },  -- INJ_LEFT0–6
   { lo := 0x80, hi := 0x80, ty := .u32, right := .rw, gate := .ret, len := 4, mask := some 0x3FFFFFFF },  -- RAW_SELECT
   { lo := 0x81, hi := 0x81, ty := .blob, right := .rw, gate := .ret, len := 72 },  -- RAW_DATA
   { lo := 0x82, hi := 0x82, ty := .u8, right := .rw, gate := .ret, len := 1, mask := some 0x3 },  -- RAW_META
   { lo := 0x83, hi := 0x83, ty := .u16, right := .ro, gate := .ret, len := 2 },  -- RAW_META_CHECK
   { lo := 0x84, hi := 0x84, ty := .bool, right := .ro, gate := .ret, len := 1 },  -- RAW_REGION
   { lo := 0x85, hi := 0x85, ty := .cmd, right := .wo, gate := .ret, len := 0, dflt := none },  -- RAW_WRITE
   { lo := 0x86, hi := 0x86, ty := .cmd, right := .wo, gate := .ret, len := 0, dflt := none }  -- RAW_READ
  ]

/-- R136, R276, R297: repair, layers, columns and the address map. A write of DECODE_SELECT with one of bits 31:30 set is refused
with INVALID_VALUE (DESIGN CHOICE, log entry 170). -/
def repairRows : List EntryRow :=
  [{ lo := 0x01, hi := 0x01, ty := .bool, right := .rw, gate := .field, len := 1, dflt := some 0x1 },  -- REPAIR_AUTO
   { lo := 0x02, hi := 0x02, ty := .bool, right := .rw, gate := .field, len := 1 },  -- HARDEN_AUTO
   { lo := 0x03, hi := 0x03, ty := .bool, right := .rw, gate := .field, len := 1, dflt := some 0x1 },  -- EVAC_AUTO
   { lo := 0x04, hi := 0x04, ty := .u32, right := .rws, gate := .field, len := 4, dflt := some 0x7D0, chk := .range 200 1000000, act := 0x20 },  -- EVAC_STEP_INTERVAL
   { lo := 0x08, hi := 0x08, ty := .u8, right := .rw, gate := .field, len := 1 },  -- REPAIR_SELECT
   { lo := 0x09, hi := 0x09, ty := .u64, right := .ro, gate := .field, len := 8 },  -- REPAIR_ENTRY
   { lo := 0x0A, hi := 0x0A, ty := .u16, right := .ro, gate := .field, len := 2 },  -- REPAIR_LIST_COUNT
   { lo := 0x0B, hi := 0x0B, ty := .u16, right := .ro, gate := .field, len := 2 },  -- REPAIR_PENDING
   { lo := 0x0C, hi := 0x0C, ty := .u32, right := .rw, gate := .field, len := 4, chk := .counter },  -- REPAIR_LIST_OVERFLOW
   { lo := 0x0D, hi := 0x0D, ty := .cmd, right := .wo, gate := .field, len := 8, dflt := none },  -- REPAIR_REQUEST
   { lo := 0x0E, hi := 0x0E, ty := .cmd, right := .wo, gate := .field, len := 0, dflt := none },  -- HARDEN
   { lo := 0x0F, hi := 0x0F, ty := .u16, right := .ro, gate := .field, len := 2, dflt := none },  -- FIELD_RECORDS_FREE
   { lo := 0x10, hi := 0x10, ty := .cmd, right := .wo, gate := .field, len := 1, dflt := none },  -- EVACUATE
   { lo := 0x11, hi := 0x11, ty := .u32, right := .ro, gate := .field, len := 4 },  -- EVAC_STATE
   { lo := 0x12, hi := 0x12, ty := .u16, right := .ro, gate := .field, len := 2, dflt := some 0xFFFF },  -- LAYER_ASSIGN
   { lo := 0x13, hi := 0x13, ty := .u16, right := .ro, gate := .field, len := 2 },  -- HARD_RECORD_IGNORED
   { lo := 0x24, hi := 0x24, ty := .u32, right := .ro, gate := .field, len := 4, dflt := some 0x7D0 },  -- EVAC_STEP_INTERVAL_ACT
   { lo := 0x40, hi := 0x51, ty := .u32, right := .ro, gate := .field, len := 4 },  -- LAYER_STATUS0–17
   { lo := 0x60, hi := 0x71, ty := .i20, right := .ro, gate := .field, len := 3 },  -- LAYER_FREQ_ERR0–17
   { lo := 0x78, hi := 0x78, ty := .u16, right := .rw, gate := .field, len := 2, chk := .coilSel, mask := some 0xFFF },  -- COIL_SELECT
   { lo := 0x79, hi := 0x79, ty := .blob, right := .ro, gate := .field, len := 100, dflt := none },  -- COIL_MAP
   { lo := 0x7A, hi := 0x7A, ty := .blob, right := .ro, gate := .field, len := 50, dflt := none },  -- COIL_MARGIN
   { lo := 0x7B, hi := 0x7B, ty := .u32, right := .ro, gate := .field, len := 4 },  -- JOINT_STATUS
   { lo := 0x7C, hi := 0x7C, ty := .u64, right := .rw, gate := .field, len := 8, chk := .counter },  -- JOINT_RETRIES
   { lo := 0x7D, hi := 0x7D, ty := .u32, right := .ro, gate := .field, len := 4 },  -- VL_TRAIN_TIME
   { lo := 0x7E, hi := 0x7E, ty := .u32, right := .rws, gate := .field, len := 4, dflt := some 0x400, act := 0x1 },  -- COIL_SER_LIMIT
   { lo := 0x7F, hi := 0x7F, ty := .u32, right := .ro, gate := .field, len := 4, dflt := some 0x400 },  -- COIL_SER_LIMIT_ACT
   { lo := 0xC0, hi := 0xC0, ty := .u8, right := .ro, gate := .field, len := 1, dflt := none },  -- LOGICAL_CHANNELS
   { lo := 0xC1, hi := 0xC1, ty := .u32, right := .ro, gate := .field, len := 4, dflt := none },  -- BLOCK_LIMIT
   { lo := 0xC2, hi := 0xC2, ty := .u64, right := .ro, gate := .field, len := 8, dflt := none }  -- CAPACITY_BYTES
  ] ++
  [{ lo := 0xC3, hi := 0xC3, ty := .u32, right := .ro, gate := .field, len := 4 },  -- MAP_GEN
   { lo := 0xC4, hi := 0xC4, ty := .u8, right := .ro, gate := .field, len := 1 },  -- RETIRED_PENDING
   { lo := 0xC5, hi := 0xC5, ty := .u64, right := .ro, gate := .field, len := 8, dflt := none },  -- CAPACITY_NEXT
   { lo := 0xC6, hi := 0xC6, ty := .u32, right := .rw, gate := .field, len := 4, chk := .range 0 0x3FFFFFFF },  -- DECODE_SELECT
   { lo := 0xC7, hi := 0xC7, ty := .u32, right := .ro, gate := .field, len := 4, dflt := none }  -- DECODE_RESULT
  ]

/-- R160: one index per class. -/
def classRows : List EntryRow :=
  [{ lo := 0x01, hi := 0x01, ty := .u8, right := .rws, gate := .field, len := 1, dflt := some 0x2, chk := .range 0 2, act := 0x20 },  -- SCc_TYPE
   { lo := 0x02, hi := 0x02, ty := .u8, right := .rws, gate := .field, len := 1, chk := .range 0 15, act := 0x20 },  -- SCc_PRIORITY
   { lo := 0x03, hi := 0x03, ty := .u16, right := .rws, gate := .field, len := 2, act := 0x20 },  -- SCc_MIN_BW
   { lo := 0x04, hi := 0x04, ty := .u16, right := .rws, gate := .field, len := 2, dflt := some 0xFFFF, act := 0x20 },  -- SCc_MAX_BW
   { lo := 0x05, hi := 0x05, ty := .u16, right := .rws, gate := .field, len := 2, act := 0x20 },  -- SCc_LAT_TARGET
   { lo := 0x06, hi := 0x06, ty := .u8, right := .rws, gate := .field, len := 1, dflt := some 0xFF, act := 0x20 },  -- SCc_HG_MASK
   { lo := 0x07, hi := 0x07, ty := .u16, right := .rws, gate := .field, len := 2, act := 0x20 },  -- SCc_URG_CEIL
   { lo := 0x08, hi := 0x08, ty := .u16, right := .rws, gate := .field, len := 2, dflt := some 0x3E8, chk := .range 64 65535, act := 0x20 },  -- SCc_BURST
   { lo := 0x09, hi := 0x09, ty := .u8, right := .rws, gate := .field, len := 1, dflt := some 0x4, act := 0x20 },  -- SCc_MISS_LIMIT
   { lo := 0x21, hi := 0x21, ty := .u8, right := .ro, gate := .field, len := 1, dflt := some 0x2 },  -- SCc_ACT
   { lo := 0x22, hi := 0x22, ty := .u8, right := .ro, gate := .field, len := 1 },  -- SCc_ACT
   { lo := 0x23, hi := 0x23, ty := .u16, right := .ro, gate := .field, len := 2 },  -- SCc_ACT
   { lo := 0x24, hi := 0x24, ty := .u16, right := .ro, gate := .field, len := 2, dflt := some 0xFFFF },  -- SCc_ACT
   { lo := 0x25, hi := 0x25, ty := .u16, right := .ro, gate := .field, len := 2 },  -- SCc_ACT
   { lo := 0x26, hi := 0x26, ty := .u8, right := .ro, gate := .field, len := 1, dflt := some 0xFF },  -- SCc_ACT
   { lo := 0x27, hi := 0x27, ty := .u16, right := .ro, gate := .field, len := 2 },  -- SCc_ACT
   { lo := 0x28, hi := 0x28, ty := .u16, right := .ro, gate := .field, len := 2, dflt := some 0x3E8 },  -- SCc_ACT
   { lo := 0x29, hi := 0x29, ty := .u8, right := .ro, gate := .field, len := 1, dflt := some 0x4 },  -- SCc_ACT
   { lo := 0x30, hi := 0x30, ty := .u16, right := .ro, gate := .field, len := 2 },  -- SCc_MIN_EFF
   { lo := 0x31, hi := 0x31, ty := .u16, right := .ro, gate := .field, len := 2 },  -- SCc_URG_CEIL_EFF
   { lo := 0x32, hi := 0x32, ty := .bool, right := .ro, gate := .field, len := 1 },  -- SCc_URGENT
   { lo := 0x33, hi := 0x33, ty := .u64, right := .rw, gate := .field, len := 8, chk := .counter },  -- SCc_DELIVERED
   { lo := 0x34, hi := 0x34, ty := .u32, right := .ro, gate := .field, len := 4 },  -- SCc_LAST_WIN_BYTES
   { lo := 0x35, hi := 0x35, ty := .u64, right := .rw, gate := .field, len := 8, chk := .counter },  -- SCc_LAT_MISS
   { lo := 0x36, hi := 0x36, ty := .u32, right := .rw, gate := .field, len := 4, chk := .counter },  -- SCc_GUAR_MISS_WIN
   { lo := 0x40, hi := 0x47, ty := .u64, right := .rw, gate := .field, len := 8, chk := .counter }  -- SCc_LAT_BIN0–7
  ]

/-- R160: the label table. -/
def labelRows : List EntryRow :=
  [{ lo := 0x00, hi := 0xFF, ty := .u8, right := .rws, gate := .field, len := 1, chk := .range 0 15, act := 0x100 }  -- LABEL_CLASS
  ]

/-- R160: one index per port. -/
def portRows : List EntryRow :=
  [{ lo := 0x01, hi := 0x01, ty := .u8, right := .rws, gate := .field, len := 1, chk := .range 0 7, act := 0x20 },  -- HOST_GROUP
   { lo := 0x02, hi := 0x02, ty := .u16, right := .ro, gate := .field, len := 2 },  -- PORT_RATE
   { lo := 0x03, hi := 0x03, ty := .u16, right := .ro, gate := .field, len := 2 },  -- HELD_FLITS
   { lo := 0x04, hi := 0x04, ty := .u16, right := .rw, gate := .field, len := 2, chk := .counter },  -- HELD_PEAK
   { lo := 0x21, hi := 0x21, ty := .u8, right := .ro, gate := .field, len := 1 },  -- HOST_GROUP_ACT
   { lo := 0x30, hi := 0x3F, ty := .u64, right := .rw, gate := .field, len := 8, chk := .counter }  -- PC_BYTES0–15
  ]

/-- R160: urgency pins and the regulator. -/
def urgRows : List EntryRow :=
  [{ lo := 0x00, hi := 0x0F, ty := .u8, right := .rws, gate := .field, len := 1, dflt := some 0xFF, chk := .classOrFF, act := 0x10 },  -- URG_CLASS0–15
   { lo := 0x10, hi := 0x1F, ty := .u8, right := .ro, gate := .field, len := 1, dflt := some 0xFF },  -- URG_CLASS0–15_ACT
   { lo := 0x20, hi := 0x2F, ty := .u32, right := .rw, gate := .field, len := 4, chk := .counter },  -- URG_EDGES0–15
   { lo := 0x30, hi := 0x30, ty := .u16, right := .ro, gate := .field, len := 2 },  -- URG_LEVEL
   { lo := 0x31, hi := 0x31, ty := .u16, right := .ro, gate := .field, len := 2 },  -- URG_STUCK
   { lo := 0x32, hi := 0x32, ty := .u32, right := .rw, gate := .field, len := 4, dflt := some 0xF4240, chk := .zeroOr 1000 1000000000 },  -- URG_STUCK_TIME
   { lo := 0x40, hi := 0x40, ty := .u32, right := .rws, gate := .field, len := 4, dflt := some 0x3E8, chk := .window, act := 0x1 },  -- ACCT_WINDOW
   { lo := 0x41, hi := 0x41, ty := .u32, right := .ro, gate := .field, len := 4, dflt := some 0x3E8 },  -- ACCT_WINDOW_ACT
   { lo := 0x50, hi := 0x50, ty := .u16, right := .ro, gate := .field, len := 2, dflt := none },  -- DELIVERABLE
   { lo := 0x51, hi := 0x51, ty := .u16, right := .ro, gate := .field, len := 2 },  -- RESERVED_SUM
   { lo := 0x52, hi := 0x52, ty := .u16, right := .ro, gate := .field, len := 2, dflt := some 0x23 },  -- DERATE
   { lo := 0x53, hi := 0x53, ty := .u8, right := .ro, gate := .field, len := 1, dflt := none },  -- HEALTHY_CHANNELS
   { lo := 0x54, hi := 0x54, ty := .u16, right := .ro, gate := .field, len := 2 },  -- SHORTFALL
   { lo := 0x55, hi := 0x55, ty := .u32, right := .rw, gate := .field, len := 4, chk := .counter },  -- SHORTFALL_COUNT
   { lo := 0x60, hi := 0x67, ty := .u8, right := .ro, gate := .field, len := 1 },  -- HG_ACTIVE_PORTS0–7
   { lo := 0xF0, hi := 0xF0, ty := .blob, right := .ro, gate := .field, len := 128 },  -- LABEL_TABLE_ACT_LO
   { lo := 0xF1, hi := 0xF1, ty := .blob, right := .ro, gate := .field, len := 128 }  -- LABEL_TABLE_ACT_HI
  ]

/-- R253: the queue engine. -/
def engineRows : List EntryRow :=
  [{ lo := 0x01, hi := 0x01, ty := .bool, right := .rws, gate := .field, len := 1, act := 0x20 },  -- QE_ENABLE
   { lo := 0x02, hi := 0x02, ty := .u32, right := .rws, gate := .field, len := 4, chk := .range 0 0x3FFFFFFF, act := 0x20 },  -- POOL_BASE
   { lo := 0x03, hi := 0x03, ty := .u32, right := .rws, gate := .field, len := 4, chk := .subCells, act := 0x20 },  -- POOL_SUB_CELLS
   { lo := 0x04, hi := 0x04, ty := .u8, right := .rws, gate := .field, len := 1, chk := .range 0 15, act := 0x20 },  -- ENGINE_CLASS
   { lo := 0x21, hi := 0x21, ty := .bool, right := .ro, gate := .field, len := 1 },  -- ENGINE_ACT
   { lo := 0x22, hi := 0x22, ty := .u32, right := .ro, gate := .field, len := 4 },  -- ENGINE_ACT
   { lo := 0x23, hi := 0x23, ty := .u32, right := .ro, gate := .field, len := 4 },  -- ENGINE_ACT
   { lo := 0x24, hi := 0x24, ty := .u8, right := .ro, gate := .field, len := 1 },  -- ENGINE_ACT
   { lo := 0x30, hi := 0x3F, ty := .u32, right := .rws, gate := .field, len := 4, dflt := some 0x10000000, chk := .range 0 0x10000000, act := 0x20 },  -- LS_LIMIT0–15
   { lo := 0x40, hi := 0x4F, ty := .u8, right := .rws, gate := .field, len := 1, dflt := some 0x4, chk := .alpha, act := 0x20 },  -- LS_ALPHA0–15
   { lo := 0x50, hi := 0x5F, ty := .u32, right := .ro, gate := .field, len := 4, dflt := some 0x10000000 },  -- LS_LIMIT0–15_ACT
   { lo := 0x60, hi := 0x6F, ty := .u8, right := .ro, gate := .field, len := 1, dflt := some 0x4 },  -- LS_ALPHA0–15_ACT
   { lo := 0x70, hi := 0x70, ty := .u32, right := .ro, gate := .field, len := 4 },  -- POOL_BLOCKS
   { lo := 0x71, hi := 0x71, ty := .u8, right := .ro, gate := .field, len := 1, dflt := none },  -- SLICES
   { lo := 0x72, hi := 0x72, ty := .cmd, right := .wo, gate := .field, len := 0, dflt := none },  -- POOL_RESET
   { lo := 0x73, hi := 0x73, ty := .cmd, right := .wo, gate := .field, len := 2, dflt := none },  -- QFLUSH
   { lo := 0x74, hi := 0x74, ty := .cmd, right := .wo, gate := .field, len := 5, dflt := none },  -- LS_FILL
   { lo := 0x75, hi := 0x75, ty := .u8, right := .ro, gate := .field, len := 1, dflt := some 0x3 },  -- QE_STATE
   { lo := 0x80, hi := 0x87, ty := .u32, right := .ro, gate := .field, len := 4 },  -- SLICE_FREE0–7
   { lo := 0x88, hi := 0x8F, ty := .u32, right := .ro, gate := .field, len := 4 },  -- SLICE_LOST0–7
   { lo := 0x90, hi := 0x90, ty := .u64, right := .rw, gate := .field, len := 8, chk := .counter },  -- ENQ_OK
   { lo := 0x91, hi := 0x91, ty := .u64, right := .rw, gate := .field, len := 8, chk := .counter },  -- ENQ_DROP_LIMIT
   { lo := 0x92, hi := 0x92, ty := .u64, right := .rw, gate := .field, len := 8, chk := .counter },  -- ENQ_DROP_POOL
   { lo := 0x93, hi := 0x93, ty := .u64, right := .rw, gate := .field, len := 8, chk := .counter },  -- DEQ_PACKETS
   { lo := 0x94, hi := 0x94, ty := .u64, right := .rw, gate := .field, len := 8, chk := .counter },  -- DEQ_EMPTY
   { lo := 0x95, hi := 0x95, ty := .u64, right := .rw, gate := .field, len := 8, chk := .counter },  -- CELLS_PSN_OUT
   { lo := 0x96, hi := 0x96, ty := .u32, right := .rw, gate := .field, len := 4, chk := .counter },  -- BROKEN_QUEUES
   { lo := 0x97, hi := 0x97, ty := .u32, right := .ro, gate := .field, len := 4 },  -- FLUSH_BACKLOG
   { lo := 0x98, hi := 0x98, ty := .u64, right := .rw, gate := .field, len := 8, chk := .counter },  -- LINK_MISSES
   { lo := 0x99, hi := 0x99, ty := .u64, right := .rw, gate := .field, len := 8, chk := .counter }  -- LINK_WRITEBACKS
  ] ++
  [{ lo := 0x9A, hi := 0x9A, ty := .u64, right := .rw, gate := .field, len := 8, chk := .counter },  -- STACK_READS
   { lo := 0x9B, hi := 0x9B, ty := .u64, right := .rw, gate := .field, len := 8, chk := .counter },  -- STACK_WRITES
   { lo := 0x9C, hi := 0x9C, ty := .u64, right := .rw, gate := .field, len := 8, chk := .counter }  -- RESET_LOST_PACKETS
  ]

/-- R253: the queue window. -/
def queueRows : List EntryRow :=
  [{ lo := 0x01, hi := 0x01, ty := .u16, right := .rw, gate := .field, len := 2 },  -- QSEL
   { lo := 0x02, hi := 0x02, ty := .u8, right := .rws, gate := .field, len := 1, chk := .range 0 15, act := 0x1 },  -- Q_LIMIT_SET
   { lo := 0x03, hi := 0x03, ty := .u8, right := .ro, gate := .field, len := 1 },  -- Q_LIMIT_SET_ACT
   { lo := 0x04, hi := 0x04, ty := .blob, right := .ro, gate := .field, len := 16 },  -- Q_STATE
   { lo := 0x05, hi := 0x05, ty := .u32, right := .ro, gate := .field, len := 4 }  -- Q_HEAD_INFO
  ]

/-- R389, Table 5: one index per fault source. -/
def sourceRows : List EntryRow :=
  [{ lo := 0x01, hi := 0x01, ty := .bool, right := .rw, gate := .field, len := 1 },  -- STICKY
   { lo := 0x02, hi := 0x02, ty := .bool, right := .rw, gate := .field, len := 1 },  -- WIRE
   { lo := 0x03, hi := 0x03, ty := .u8, right := .rw, gate := .field, len := 1, dflt := none, mask := some 0x1F },  -- REACTION
   { lo := 0x04, hi := 0x04, ty := .u8, right := .ro, gate := .field, len := 1 },  -- SRC_STATE
   { lo := 0x05, hi := 0x05, ty := .u16, right := .ro, gate := .identity, len := 2, dflt := none }  -- SRC_INFO
  ]

/-- R389, Table 6: the collector, at index 0x4000 only. -/
def collectorRows : List EntryRow :=
  [{ lo := 0x80, hi := 0x80, ty := .blob, right := .ro, gate := .field, len := 16 },  -- STICKY_MAP
   { lo := 0x81, hi := 0x81, ty := .blob, right := .ro, gate := .field, len := 16 },  -- WIRE_MAP
   { lo := 0x82, hi := 0x82, ty := .blob, right := .wo, gate := .field, len := 16, dflt := none },  -- STICKY_CLEAR
   { lo := 0x83, hi := 0x83, ty := .blob, right := .wo, gate := .field, len := 16, dflt := none },  -- WIRE_CLEAR
   { lo := 0x84, hi := 0x84, ty := .u8, right := .rw, gate := .field, len := 1, dflt := some 0x11, mask := some 0x1F },  -- WIRE_REACTION
   { lo := 0x85, hi := 0x85, ty := .u8, right := .ro, gate := .field, len := 1 },  -- PIN_STATUS
   { lo := 0x86, hi := 0x86, ty := .u16, right := .rw, gate := .field, len := 2, dflt := some 0x64, chk := .range 10 10000 },  -- MGMT_WDT_PERIOD
   { lo := 0x87, hi := 0x87, ty := .blob, right := .ro, gate := .field, len := 16 }  -- CHIPRST_DISARMED
  ]

/-- R313: self-test. -/
def testRows : List EntryRow :=
  [{ lo := 0x01, hi := 0x01, ty := .u32, right := .ro, gate := .field, len := 4 },  -- QT_STATUS
   { lo := 0x02, hi := 0x02, ty := .u32, right := .ro, gate := .field, len := 4 },  -- QT_TIME
   { lo := 0x03, hi := 0x03, ty := .blob, right := .ro, gate := .field, len := 16 },  -- QT_CHAN_LOST
   { lo := 0x04, hi := 0x04, ty := .blob, right := .ro, gate := .field, len := 16 },  -- QT_LINK_LOST
   { lo := 0x05, hi := 0x05, ty := .u16, right := .ro, gate := .field, len := 2 },  -- QT_ROWS_FAILED
   { lo := 0x10, hi := 0x10, ty := .cmd, right := .wo, gate := .ret, len := 0, dflt := none },  -- TEST_HOLD
   { lo := 0x11, hi := 0x11, ty := .bool, right := .ro, gate := .identity, len := 1 },  -- TEST_HELD
   { lo := 0x12, hi := 0x12, ty := .u32, right := .rw, gate := .field, len := 4, chk := .counter },  -- TAP_REFUSED
   { lo := 0x20, hi := 0x20, ty := .bool, right := .rws, gate := .field, len := 1, dflt := some 0x1, act := 0x10 },  -- SPARGE_ENABLE
   { lo := 0x21, hi := 0x21, ty := .u16, right := .rws, gate := .field, len := 2, dflt := some 0xA, chk := .range 2 1000, act := 0x10 },  -- SPARGE_INTERVAL
   { lo := 0x30, hi := 0x30, ty := .bool, right := .ro, gate := .field, len := 1, dflt := some 0x1 },  -- SPARGE_ENABLE_ACT
   { lo := 0x31, hi := 0x31, ty := .u16, right := .ro, gate := .field, len := 2, dflt := some 0xA },  -- SPARGE_INTERVAL_ACT
   { lo := 0x40, hi := 0x40, ty := .u64, right := .ro, gate := .field, len := 8 }  -- SPARGE_LAST_FAIL
  ]

/-- R408: the Granary. -/
def granRows : List EntryRow :=
  [{ lo := 0x01, hi := 0x01, ty := .u32, right := .ro, gate := .identity, len := 4 },  -- GRAN_STATUS
   { lo := 0x02, hi := 0x02, ty := .u16, right := .rw, gate := .field, len := 2, chk := .range 0 1023 },  -- GRAN_SELECT
   { lo := 0x03, hi := 0x03, ty := .u32, right := .ro, gate := .field, len := 4, dflt := none },  -- GRAN_WORD
   { lo := 0x04, hi := 0x04, ty := .u8, right := .ro, gate := .field, len := 1 },  -- GRAN_WORD_INFO
   { lo := 0x05, hi := 0x05, ty := .blob, right := .ro, gate := .field, len := 64, dflt := none },  -- GRAN_BLOCK
   { lo := 0x06, hi := 0x06, ty := .cmd, right := .wo, gate := .field, len := 6, dflt := none },  -- GRAN_PROGRAM
   { lo := 0x07, hi := 0x07, ty := .cmd, right := .wo, gate := .field, len := 2, dflt := none },  -- GRAN_LOCK
   { lo := 0x08, hi := 0x08, ty := .cmd, right := .wo, gate := .field, len := 0, dflt := none },  -- GRAN_RESENSE
   { lo := 0x09, hi := 0x09, ty := .u32, right := .rw, gate := .field, len := 4, chk := .counter },  -- GRAN_PROG_WORDS
   { lo := 0x0A, hi := 0x0A, ty := .u64, right := .rw, gate := .field, len := 8, chk := .counter },  -- GRAN_PULSES
   { lo := 0x0B, hi := 0x0B, ty := .u32, right := .rw, gate := .field, len := 4, chk := .counter },  -- RESENSE_COUNT
   { lo := 0x0C, hi := 0x0C, ty := .u16, right := .ro, gate := .field, len := 2 },  -- MARGINAL_WORDS
   { lo := 0x0D, hi := 0x0D, ty := .u16, right := .ro, gate := .field, len := 2 },  -- CHANGED_WORDS
   { lo := 0x0E, hi := 0x0E, ty := .i20, right := .ro, gate := .field, len := 3 },  -- SENSE_TEMP
   { lo := 0x20, hi := 0x28, ty := .u16, right := .ro, gate := .field, len := 2 }  -- REGION_STATUS0–8
  ]

/-- R449: the management bus. -/
def busRows : List EntryRow :=
  [{ lo := 0x01, hi := 0x01, ty := .u8, right := .ro, gate := .identity, len := 1, dflt := none },  -- MB_ADDRESS
   { lo := 0x02, hi := 0x02, ty := .u16, right := .rw, gate := .field, len := 2 },  -- MB_FLAGS
   { lo := 0x03, hi := 0x03, ty := .bool, right := .rw, gate := .field, len := 1 },  -- MB_PEC_REQUIRED
   { lo := 0x04, hi := 0x04, ty := .bool, right := .rw, gate := .field, len := 1 },  -- MB_ATTN_ENABLE
   { lo := 0x05, hi := 0x05, ty := .u16, right := .rw, gate := .field, len := 2, dflt := some 0x64, chk := .range 10 10000 },  -- MB_ATTN_RETRY
   { lo := 0x06, hi := 0x06, ty := .u8, right := .ro, gate := .field, len := 1 },  -- MB_ATTN_PENDING
   { lo := 0x07, hi := 0x07, ty := .blob, right := .rw, gate := .field, len := 128 },  -- MB_SCRATCH
   { lo := 0x10, hi := 0x10, ty := .u32, right := .rw, gate := .field, len := 4, chk := .counter },  -- MB_TRANSACTIONS
   { lo := 0x11, hi := 0x11, ty := .u32, right := .rw, gate := .field, len := 4, chk := .counter },  -- MB_ABORTS
   { lo := 0x12, hi := 0x12, ty := .u32, right := .rw, gate := .field, len := 4, chk := .counter },  -- MB_BUSY_NACKS
   { lo := 0x13, hi := 0x13, ty := .u32, right := .rw, gate := .field, len := 4, chk := .counter },  -- MB_ATTN_SENT
   { lo := 0x14, hi := 0x14, ty := .u16, right := .rw, gate := .field, len := 2, chk := .counter }  -- MB_STRETCH_PEAK
  ]

/-- R340, R361: telemetry. -/
def teleRows : List EntryRow :=
  [{ lo := 0x00, hi := 0x57, ty := .i20, right := .ro, gate := .field, len := 3, dflt := some 0xF80000 },  -- SAMPLE0–87
   { lo := 0x60, hi := 0x73, ty := .i20, right := .ro, gate := .field, len := 3, dflt := some 0xF80000 },  -- GROUP0–19
   { lo := 0x80, hi := 0x80, ty := .u20, right := .ro, gate := .field, len := 3 },  -- VIN_CORE_V, VIN_PHY_V, VIN_MEM_V
   { lo := 0x81, hi := 0x81, ty := .u20, right := .ro, gate := .field, len := 3 },  -- VIN_CORE_I, VIN_PHY_I
   { lo := 0x82, hi := 0x82, ty := .u20, right := .ro, gate := .field, len := 3 },  -- VIN_CORE_V, VIN_PHY_V, VIN_MEM_V
   { lo := 0x83, hi := 0x83, ty := .u20, right := .ro, gate := .field, len := 3 },  -- VIN_CORE_I, VIN_PHY_I
   { lo := 0x84, hi := 0x84, ty := .u20, right := .ro, gate := .field, len := 3 },  -- VIN_CORE_V, VIN_PHY_V, VIN_MEM_V
   { lo := 0x85, hi := 0x85, ty := .u20, right := .ro, gate := .field, len := 3 },  -- VIN_MEM_I
   { lo := 0x86, hi := 0x86, ty := .u20, right := .ro, gate := .field, len := 3 },  -- VAUX_V, VPROG_V
   { lo := 0x87, hi := 0x87, ty := .u20, right := .ro, gate := .field, len := 3 },  -- VAUX_V, VPROG_V
   { lo := 0x90, hi := 0xA1, ty := .u20, right := .ro, gate := .field, len := 3 },  -- VDD_ARR0–17
   { lo := 0xA2, hi := 0xB3, ty := .u20, right := .ro, gate := .field, len := 3 },  -- VDD_PERI0–17
   { lo := 0xB4, hi := 0xC5, ty := .u20, right := .ro, gate := .field, len := 3 },  -- VPP0–17
   { lo := 0xC6, hi := 0xD7, ty := .u20, right := .ro, gate := .field, len := 3 }  -- LAYER_I0–17
  ]

/-- R42, Table 7: stage and commit. -/
def stageRows : List EntryRow :=
  [{ lo := 0x01, hi := 0x01, ty := .cmd, right := .wo, gate := .field, len := 4, dflt := none },  -- COMMIT
   { lo := 0x02, hi := 0x02, ty := .cmd, right := .wo, gate := .field, len := 0, dflt := none },  -- DISCARD
   { lo := 0x03, hi := 0x03, ty := .u32, right := .ro, gate := .field, len := 4 },  -- STAGE_GEN
   { lo := 0x04, hi := 0x04, ty := .u16, right := .ro, gate := .field, len := 2 },  -- STAGED_COUNT
   { lo := 0x05, hi := 0x05, ty := .u8, right := .ro, gate := .field, len := 1 },  -- COMMIT_STATE
   { lo := 0x06, hi := 0x06, ty := .u32, right := .ro, gate := .field, len := 4 },  -- COMMIT_SEQ
   { lo := 0x07, hi := 0x07, ty := .u16, right := .ro, gate := .field, len := 2 },  -- LAST_COMMIT_STATUS
   { lo := 0x08, hi := 0x08, ty := .u32, right := .ro, gate := .field, len := 4 },  -- LAST_REFUSED_ENTRY
   { lo := 0x09, hi := 0x09, ty := .u32, right := .ro, gate := .field, len := 4 }  -- COMMIT_TIME
  ]

/-- The rows of an index (R53, Table 13); `none` for an index outside every range. -/
def rowsOf (index : Nat) : Option (List EntryRow) :=
  if index < 0x0600 then
    if index = 0x0000 then some metaRows else if index = 0x0100 then some identityRows
    else if index = 0x0200 then some lifeRows else if index = 0x0300 then some powerRows
    else if index = 0x0400 then some thermRows else if index = 0x0500 then some clockRows else none
  else if index < 0x2000 then
    if 0x0800 ≤ index ∧ index ≤ 0x087F then some linkRows
    else if 0x1000 ≤ index ∧ index ≤ 0x107F then some chanRows
    else if index = 0x1400 then some refreshRows else if index = 0x1800 then some integRows
    else if index = 0x1C00 then some repairRows else none
  else if index < 0x4000 then
    if index ≤ 0x200F then some classRows else if index = 0x2100 then some labelRows
    else if 0x2200 ≤ index ∧ index ≤ 0x227F then some portRows
    else if index = 0x2300 then some urgRows else if index = 0x3000 then some engineRows
    else if index = 0x3100 then some queueRows else none
  else if index ≤ 0x407F then
    if index = 0x4000 then some (sourceRows ++ collectorRows) else some sourceRows
  else if index = 0x4800 then some testRows else if index = 0x5000 then some granRows
  else if index = 0x5800 then some busRows else if index = 0x6000 then some teleRows
  else if index = 0x7000 then some stageRows else if index = 0xF000 then some [] else none

/-- The row of a subindex. -/
def findRow (sub : Nat) : List EntryRow → Option EntryRow
  | [] => none
  | r :: rest => if r.lo ≤ sub ∧ sub ≤ r.hi then some r else findRow sub rest

/-- The row of an entry, where a chapter defines one. -/
def entryRow (k : Nat) : Option EntryRow :=
  match rowsOf (k / 256) with
  | none => none
  | some rows => findRow (k % 256) rows

/-- Default reaction mask of source `n` (R388, Table 7). -/
def reactionDefault (n : Nat) : Nat :=
  if n ∈ [18, 19, 20, 27, 50, 51, 52, 53, 56, 64] then 0x11
  else if n = 80 then 0x02 else if n = 81 ∨ n = 82 then 0x15
  else if n ∈ [0, 1, 2, 3, 8, 9, 10, 11, 16, 17, 21, 24, 25, 26, 32, 33, 34, 40, 41, 48, 49, 54, 57, 58, 59, 72, 88]
  then 0x01 else 0

/-- The default that the chapters state for an entry, where they state a number: the row's, the mask of a source, the
number of a channel (R136) and its home layer (R276). -/
def statedDefault (k : Nat) : Option Nat :=
  let idx := k / 256
  let sub := k % 256
  if 0x4000 ≤ idx ∧ idx ≤ 0x407F ∧ sub = 3 then some (reactionDefault (idx - 0x4000))
  else if 0x1000 ≤ idx ∧ idx ≤ 0x107F ∧ sub = 0xE0 then some (idx - 0x1000)
  else if 0x1000 ≤ idx ∧ idx ≤ 0x107F ∧ sub = 0xC0 then some ((idx - 0x1000) / 8)
  else match entryRow k with
    | some r => r.dflt
    | none => some 0

/-- The value of a stored register before anything has been written to it: its default, and for the committed labels,
which have no row of their own and are kept at index 0x2101, the default class 0. -/
def regDefault (k : Nat) : Nat := (statedDefault k).getD 0

end Sys2Proof.Machine
end

