-- ==== Sys2Proof/Machine/Ops.lean ====
section
/-!
DEFINITION. Ops: the named operations that every family uses: sparse maps, bits, the accessors of the structured state,
the dictionary registers with their counters, and the report of a fault to the collector.
-/

namespace Sys2Proof.Machine

/-! ### Sparse maps -/

/-- The entry of a key. -/
def mfind {α : Type} : SMap α → Nat → Option α
  | [], _ => none
  | (k, v) :: r, q => if k = q then some v else mfind r q

/-- The value at a key, where an unlisted key reads as `d`. -/
def mget {α : Type} (d : α) (m : SMap α) (q : Nat) : α := (mfind m q).getD d

/-- Put an entry in its place. -/
def mput {α : Type} : SMap α → Nat → α → SMap α
  | [], q, v => [(q, v)]
  | (k, w) :: r, q, v =>
    if q < k then (q, v) :: (k, w) :: r
    else if q = k then (q, v) :: r else (k, w) :: mput r q v

/-- Remove a key. -/
def mdel {α : Type} : SMap α → Nat → SMap α
  | [], _ => []
  | (k, w) :: r, q => if k = q then mdel r q else (k, w) :: mdel r q

/-- Write a key of a map whose unlisted keys read as `d`: the default itself is never listed. -/
def mset {α : Type} [DecidableEq α] (d : α) (m : SMap α) (q : Nat) (v : α) : SMap α :=
  if v = d then mdel m q else mput m q v

/-- The keys rise strictly from `lo` on. -/
def mrises {α : Type} : Nat → SMap α → Bool
  | _, [] => true
  | lo, (k, _) :: r => decide (lo ≤ k) && mrises (k + 1) r

/-- The canonical form of a map: rising keys, and no entry equal to the default. -/
def mwf {α : Type} [DecidableEq α] (d : Nat → α) (m : SMap α) : Bool :=
  mrises 0 m && m.all (fun e => decide (e.2 ≠ d e.1))

/-! ### Bits -/

/-- Bit `i` of a number. -/
def nbit (w i : Nat) : Bool := w.testBit i

/-- Set bit `i` of a number to `b`. -/
def nset (w i : Nat) (b : Bool) : Nat :=
  if b then w ||| (1 <<< i) else if w.testBit i then w - (1 <<< i) else w

/-- Bits `hi` down to `lo` of a number. -/
def nfield (w hi lo : Nat) : Nat := (w / 2 ^ lo) % 2 ^ (hi + 1 - lo)

/-- Set bit `i` of a bit vector to `b`. -/
def vset {n : Nat} (w : BitVec n) (i : Nat) (b : Bool) : BitVec n :=
  if b then w ||| BitVec.ofNat n (2 ^ i) else w &&& ~~~ (BitVec.ofNat n (2 ^ i))

/-- 1 for true, 0 for false. -/
def b2n (b : Bool) : Nat := if b then 1 else 0

/-- The number of a sequence of bytes, the first one lowest (R9). -/
def bytesNat : List Byte → Nat
  | [] => 0
  | b :: r => b.toNat + 256 * bytesNat r

/-- The `n` low bytes of a number, the lowest first (R9). -/
def natBytes : Nat → Nat → List Byte
  | 0, _ => []
  | n + 1, v => BitVec.ofNat 8 v :: natBytes n (v / 256)

/-- An I20 on the wire: 24 bits, bits 23:20 repeating bit 19 (R35). -/
def i20 (v : Int) : Nat := (v % 16777216).toNat

/-- The value of an I20 on the wire. -/
def i20Val (w : Nat) : Int := if w % 1048576 < 524288 then (w % 1048576 : Nat) else ((w % 1048576 : Nat) : Int) - 1048576

/-- Put a number into a rising list without repeats. -/
def insertOnce : List Nat → Nat → List Nat
  | [], x => [x]
  | y :: r, x => if x < y then x :: y :: r else if x = y then y :: r else y :: insertOnce r x

/-- The first contender at or after `p` in ascending order, with wrap (R148); `none` without contenders. -/
def tieBreak (p : Nat) (cs : List Nat) : Option Nat :=
  match cs.filter (fun c => decide (p ≤ c)) with
  | c :: r => some (r.foldl Nat.min c)
  | [] => match cs with
    | c :: r => some (r.foldl Nat.min c)
    | [] => none

/-! ### What the variant enables (R1, R2, R29–R31) -/

/-- Links enabled; also channels enabled. -/
def enabled : Variant → Nat
  | .axd6400 => 128
  | .axd4800 => 96
  | .axd3200 => 64

/-- Slices of the queue engine: one per 16 channels, none on the AXD3200 (R16, R31). -/
def slices : Variant → Nat
  | .axd6400 => 8
  | .axd4800 => 6
  | .axd3200 => 0

/-- In-service layers (R1). -/
def layerCount (v : Variant) : Nat := enabled v / 8

/-- The links that the variant enables. -/
def linkNums (s : State) : List Nat := List.range (enabled s.variant)

/-- The channels that the variant enables. -/
def chanNums (s : State) : List Nat := List.range (enabled s.variant)

/-! ### Accessors of the structured state -/

def State.link (s : State) (n : Nat) : Link := mget {} s.links n
def State.setLink (s : State) (n : Nat) (l : Link) : State := { s with links := mset {} s.links n l }
def State.modLink (s : State) (n : Nat) (f : Link → Link) : State := s.setLink n (f (s.link n))

def State.port (s : State) (p : Nat) : Port := mget {} s.ports p
def State.setPort (s : State) (p : Nat) (x : Port) : State := { s with ports := mset {} s.ports p x }
def State.modPort (s : State) (p : Nat) (f : Port → Port) : State := s.setPort p (f (s.port p))

def State.chan (s : State) (m : Nat) : Chan := mget {} s.chans m
def State.setChan (s : State) (m : Nat) (c : Chan) : State := { s with chans := mset {} s.chans m c }
def State.modChan (s : State) (m : Nat) (f : Chan → Chan) : State := s.setChan m (f (s.chan m))

def State.layer (s : State) (k : Nat) : Layer := mget {} s.layers k
def State.setLayer (s : State) (k : Nat) (x : Layer) : State := { s with layers := mset {} s.layers k x }
def State.modLayer (s : State) (k : Nat) (f : Layer → Layer) : State := s.setLayer k (f (s.layer k))

def State.queue (s : State) (q : Nat) : Queue := mget {} s.qe.queues q
def State.setQueue (s : State) (q : Nat) (x : Queue) : State :=
  { s with qe := { s.qe with queues := mset {} s.qe.queues q x } }

def State.slice (s : State) (i : Nat) : QSlice := mget {} s.qe.slices i
def State.setSlice (s : State) (i : Nat) (x : QSlice) : State :=
  { s with qe := { s.qe with slices := mset {} s.qe.slices i x } }

/-- Apply an operation for each number of a list, in order. -/
def State.each (s : State) (ns : List Nat) (f : State → Nat → State) : State := ns.foldl f s

/-- The counter of free values, and the state after one has been taken
(DESIGN CHOICE, log entry 6; DESIGN CHOICE, log entry 28). -/
def State.tick (s : State) : State := { s with free := s.free + 1 }

/-! ### Dictionary registers -/

/-- The key of an entry (R33). -/
def ekey (index sub : Nat) : Nat := index * 256 + sub

/-- Keys of the families that have one index per item (R53). -/
def linkKey (n sub : Nat) : Nat := ekey (0x0800 + n) sub
def chanKey (m sub : Nat) : Nat := ekey (0x1000 + m) sub
def classKey (c sub : Nat) : Nat := ekey (0x2000 + c) sub
def portKey (p sub : Nat) : Nat := ekey (0x2200 + p) sub
def sourceKey (n sub : Nat) : Nat := ekey (0x4000 + n) sub

/-- The stored value of a register. -/
def State.rget (s : State) (k : Nat) : Nat := mget (regDefault k) s.regs k

/-- Store a register. -/
def State.rset (s : State) (k v : Nat) : State := { s with regs := mset (regDefault k) s.regs k v }

/-- The bits of the value of a type. -/
def ETy.bits : ETy → Nat
  | .bool => 1
  | .u8 => 8
  | .u16 => 16
  | .u20 => 20
  | .i20 => 24
  | .u32 => 32
  | .u64 => 64
  | _ => 64

/-- Add to a counter. What a counter holds after it has passed the largest value of its type is not stated; it is a free
value then (DESIGN CHOICE, log entry 12). -/
def State.count (s : State) (k n : Nat) : State :=
  let v := s.rget k + n
  if v < 256 then s.rset k v
  else
    let w := match entryRow k with
      | some r => r.ty.bits
      | none => 64
    if v < 2 ^ w then s.rset k v else (s.rset k (Config.counterPast s.free k % 2 ^ w)).tick

/-- Raise a register to a value, saturating at `top`: the form of every "largest since cleared". -/
def State.peak (s : State) (k v top : Nat) : State := s.rset k (Nat.max (s.rget k) (Nat.min v top))

/-- Whether a register that holds a flag is set. -/
def State.flag (s : State) (k : Nat) : Bool := decide (s.rget k ≠ 0)

/-! ### Settings in force (R6) -/

/-- A committed link setting: 1 LINK_ENABLE, 2 MGMT_ENABLE, 3 LANE_MASK, 4 and 5 TX_FFE. -/
def State.linkAct (s : State) (n i : Nat) : Nat := s.rget (linkKey n (0x20 + i))

/-- A committed class parameter: 1 TYPE, 2 PRIORITY, 3 MIN_BW, 4 MAX_BW, 5 LAT_TARGET, 6 HG_MASK, 7 URG_CEIL, 8 BURST,
9 MISS_LIMIT. -/
def State.classAct (s : State) (c i : Nat) : Nat := s.rget (classKey c (0x20 + i))

/-- The committed class of a label; kept at index 0x2101, shown through LABEL_TABLE_ACT. -/
def State.labelClass (s : State) (l : Nat) : Nat := s.rget (ekey 0x2101 l)

/-- The committed host group of a port. -/
def State.hostGroup (s : State) (p : Nat) : Nat := s.rget (portKey p 0x21)

/-! ### The fault collector (R376–R389) -/

/-- The block that BLOCKRST resets for a source: `none` where Table 7 shows none, 0xFE by group (R388). -/
def sourceBlock (n : Nat) : Option Nat :=
  if n ≤ 3 then some 0x00
  else if n = 11 then some 0xFE
  else if n ∈ [8, 9, 10, 16, 17, 18, 26] then some 0x01
  else if n ∈ [32, 33, 34] then some 0x03
  else if n = 40 then some 0x02
  else if n ∈ [48, 49, 52] then some 0x04
  else if n ∈ [80, 81, 82] then some 0x05
  else none

/-- Level sources (R378, R388). -/
def isLevel (n : Nat) : Bool := decide (n ∈ [34, 52, 53, 57, 59])

/-- The sources of Table 7 (R388). -/
def isSource (n : Nat) : Bool :=
  decide (n ∈ [0, 1, 2, 3, 8, 9, 10, 11, 16, 17, 18, 19, 20, 21, 24, 25, 26, 27, 32, 33, 34, 40, 41, 48, 49, 50, 51, 52,
    53, 54, 56, 57, 58, 59, 64, 72, 80, 81, 82, 83, 88])

/-- The reaction mask of a source (R381). -/
def State.reaction (s : State) (n : Nat) : Nat := s.rget (sourceKey n 3)

/-- WIRE_REACTION (R381). -/
def State.wireReaction (s : State) : Nat := s.rget (ekey 0x4000 0x84)

/-- Link `n` is ACTIVE and management-enabled: MGMT_ACTIVE of Table 14 of the link chapter, R96. -/
def State.mgmtActive (s : State) (n : Nat) : Bool :=
  decide ((s.link n).st = .active) && decide (s.linkAct n 1 = 1) && decide (s.linkAct n 2 = 1)

/-- The management processor runs: outside a chip reset and P4, and not in block reset. -/
def State.mpRuns (s : State) : Bool :=
  decide (s.boot ≠ .held) && decide (s.power.st ≠ 4) && !s.dict.mpDown

/-- A reason bit of the attention request is set (R442): 0 FAULT, 1 RESULT, 2 READY. -/
def State.reason (s : State) (i : Nat) : State := { s with bus := { s.bus with reasons := nset s.bus.reasons i true } }

/-- A STICKY or WIRE bit with IRQ goes from 0 to 1: an EVENT is queued on every link that is MGMT_ACTIVE, where a code
already pending adds nothing (R385), and the FAULT reason is set (R442). -/
def State.queueEvent (s : State) (code : Nat) : State :=
  (s.each (s.links.map Prod.fst) (fun t n =>
    if t.mgmtActive n then t.modLink n (fun l => { l with events := insertOnce l.events code }) else t)).reason 0

/-- A trap to the management processor, held pending while it cannot be taken (R381, R383). -/
def State.trap (s : State) (n : Nat) (wait : Bool) : State :=
  if s.mpRuns && !wait then { s with faults := { s.faults with nmi := n :: s.faults.nmi } }
  else { s with faults := { s.faults with nmiWait := insertOnce s.faults.nmiWait n } }

/-- What a STICKY bit does on its change from 0 to 1, CHIPRST and BLOCKRST apart (R381, R385). -/
def State.onset (s : State) (n mask : Nat) (wait : Bool) : State :=
  let s := if nbit mask 0 then s.queueEvent n else s
  if nbit mask 1 then s.trap n wait else s

/-- A report of source `n` that reaches the collector, with the block and the instance that raised it: the sticky bit and
the reactions of the mask (R378, R381, R382, R468). A level source triggers only on the change of its bit. -/
def State.reportAt (s : State) (n code inst : Nat) : State :=
  if s.boot = .held ∨ s.faults.equal.getLsbD n then s
  else
    let mask := s.reaction n
    let was := s.faults.sticky.getLsbD n
    let s1 := { s with faults := { s.faults with sticky := vset s.faults.sticky n true } }
    if isLevel n && was then s1
    else if nbit mask 3 && !s.faults.disarmed.getLsbD n then
      { s1 with faults := { s1.faults with chipReq := insertOnce s1.faults.chipReq n } }
    else
      let rst := nbit mask 2 && (sourceBlock n).isSome
      let s2 := if was then s1 else s1.onset n mask (rst && decide (code = 5))
      if rst then { s2 with faults := { s2.faults with blockReq := s2.faults.blockReq ++ [(code, inst)] } } else s2

/-- A report of a source whose block is in Table 7; `inst` is the instance. -/
def State.report (s : State) (n : Nat) (inst : Nat := 0) : State := s.reportAt n ((sourceBlock n).getD 0xFF) inst

/-- A level source begins or ends to report (R378). -/
def State.setLevel (s : State) (n : Nat) (on : Bool) : State :=
  let s1 := { s with faults := { s.faults with now := vset s.faults.now n on } }
  if on then s1.report n else s1

/-- IRQ_N is asserted (R384). -/
def State.irqN (s : State) : Bool :=
  decide (s.boot ≠ .held) && decide (s.power.st ≠ 4) &&
    (List.range 128).any (fun n => (s.faults.sticky.getLsbD n && nbit (s.reaction n) 0) ||
      (s.faults.wire.getLsbD n && nbit s.wireReaction 0))

/-- FAULT_N is asserted (R384). -/
def State.faultN (s : State) : Bool :=
  s.therm.trip ||
    (decide (s.boot ≠ .held) && decide (s.power.st ≠ 4) &&
      (s.faults.jointPin ||
        (List.range 128).any (fun n => (s.faults.sticky.getLsbD n && nbit (s.reaction n) 4) ||
          (s.faults.wire.getLsbD n && nbit s.wireReaction 4))))

end Sys2Proof.Machine
end

