-- ==== Sys2Proof/Machine/Codec.lean ====
section
/-!
DEFINITION. Codec: the codes of the stack. Arithmetic of GF(2^m), the Reed-Solomon encoder and bounded-distance decoder
that the link frame (R61) and the stored block (R202) share, the frame's CRC (R60), scrambler (R62) and symbol layout
(R59, R63), and the SEC-DED code of the metadata words (R209). Polynomials are lists with the lowest coefficient first.
-/

namespace Sys2Proof.Machine

/-! ### GF(2^m) -/

/-- Multiply, bit by bit. -/
def gfMulGo (m p : Nat) : Nat → Nat → Nat → Nat → Nat
  | 0, _, _, acc => acc
  | k + 1, a, b, acc =>
    let a2 := a * 2
    gfMulGo m p k (if 2 ^ m ≤ a2 then a2 ^^^ p else a2) (b / 2) (if b % 2 = 1 then acc ^^^ a else acc)

/-- The product of two elements of the field of primitive polynomial `p` and degree `m`. -/
def gfMul (m p a b : Nat) : Nat := if a = 0 then 0 else if b = 0 then 0 else gfMulGo m p m a b 0

/-- A power, by squaring; the first argument bounds the bits of the exponent. -/
def gfPowGo (m p : Nat) : Nat → Nat → Nat → Nat
  | 0, _, _ => 1
  | k + 1, b, e =>
    let h := gfPowGo m p k (gfMul m p b b) (e / 2)
    if e % 2 = 1 then gfMul m p b h else h

/-- A power of an element. -/
def gfPow (m p b e : Nat) : Nat := gfPowGo m p m b (e % (2 ^ m - 1))

/-- α^e, where α is the residue of x. -/
def gfAlpha (m p e : Nat) : Nat := gfPow m p 2 e

/-- The inverse of an element that is not zero. -/
def gfInv (m p a : Nat) : Nat := gfPow m p a (2 ^ m - 2)

/-- The value of a polynomial. -/
def polyEval (m p : Nat) (f : List Nat) (x : Nat) : Nat := f.foldr (fun c acc => gfMul m p acc x ^^^ c) 0

/-- Sum of two polynomials. -/
def polyAdd : List Nat → List Nat → List Nat
  | [], g => g
  | f, [] => f
  | a :: f, b :: g => (a ^^^ b) :: polyAdd f g

/-- A polynomial times a constant. -/
def polyScale (m p : Nat) (c : Nat) (f : List Nat) : List Nat := f.map (gfMul m p c)

/-- Product of two polynomials. -/
def polyMul (m p : Nat) (f g : List Nat) : List Nat :=
  f.foldr (fun c acc => polyAdd (polyScale m p c g) (0 :: acc)) []

/-- The formal derivative over a field of characteristic 2. -/
def polyDeriv (f : List Nat) : List Nat :=
  ((List.range f.length).zip f).tail.map (fun e => if e.1 % 2 = 1 then e.2 else 0)

/-- The degree, with 0 for the zero polynomial. -/
def polyDeg (f : List Nat) : Nat := ((List.range f.length).zip f).foldl (fun d e => if e.2 = 0 then d else e.1) 0

/-! ### Reed-Solomon codes with roots α^0 to α^(r-1) (R61, R202) -/

/-- The generator polynomial. -/
def rsGen (m p r : Nat) : List Nat :=
  (List.range r).foldl (fun g j => polyMul m p g [gfAlpha m p j, 1]) [1]

/-- The check symbols of data symbols, S(k) first. -/
def rsCheck (m p r : Nat) (data : List Nat) : List Nat :=
  let g := ((rsGen m p r).take r).reverse
  data.foldl (fun reg s =>
    let fb := s ^^^ reg.headD 0
    if fb = 0 then reg.tail ++ [0]
    else (reg.tail ++ [0]).zipWith (fun a b => a ^^^ b) (polyScale m p fb g)) (List.replicate r 0)

/-- The syndromes of a received word, S0 first. -/
def rsSyndromes (m p r : Nat) (w : List Nat) : List Nat :=
  (List.range r).map (fun j => let x := gfAlpha m p j; w.foldl (fun s c => gfMul m p s x ^^^ c) 0)

/-- The locator polynomial of a list of positions, given as powers of x in the codeword polynomial. -/
def rsLocator (m p : Nat) (pos : List Nat) : List Nat :=
  pos.foldl (fun g e => polyMul m p g [1, gfAlpha m p e]) [1]

/-- One turn of the Berlekamp-Massey iteration: the locator, the auxiliary polynomial and the length. -/
def rsTurn (m p : Nat) (syn : List Nat) (nu : Nat) (st : List Nat × List Nat × Nat) (k : Nat) :
    List Nat × List Nat × Nat :=
  let (lam, aux, len) := st
  let delta := ((List.range lam.length).zip lam).foldl
    (fun d e => if e.1 < k then d ^^^ gfMul m p e.2 (syn.getD (k - 1 - e.1) 0) else d) 0
  let aux1 := 0 :: aux
  if delta = 0 then (lam, aux1, len)
  else
    let lam1 := polyAdd lam (polyScale m p delta aux1)
    if 2 * len ≤ k + nu - 1 then (lam1, polyScale m p (gfInv m p delta) lam, k + nu - len) else (lam1, aux1, len)

/-- Bounded-distance decoding of a word of `n` symbols with `r` check symbols: at most `t` symbol errors besides the
erased positions (indices from S0). The corrected word, or `none` where no codeword lies so near. -/
def rsDecode (m p n r t : Nat) (erased : List Nat) (w : List Nat) : Option (List Nat) :=
  let syn := rsSyndromes m p r w
  if syn.all (fun s => decide (s = 0)) then some w
  else
    let epos := erased.map (fun i => n - 1 - i)
    let nu := epos.length
    let gam := rsLocator m p epos
    let turns := (List.range r).filterMap (fun i => if nu ≤ i then some (i + 1) else none)
    let (lam, _, _) := turns.foldl (rsTurn m p syn nu) (gam, gam, nu)
    let deg := polyDeg lam
    let roots := (List.range n).filter (fun e => polyEval m p lam (gfAlpha m p (2 ^ m - 1 - e)) = 0)
    if deg ≠ roots.length ∨ t + nu < deg then none
    else
      let om := (polyMul m p syn lam).take r
      let dl := polyDeriv lam
      let fixed := (List.range n).zipWith (fun i s =>
        let e := n - 1 - i
        if e ∈ roots then
          let xi := gfAlpha m p (2 ^ m - 1 - e)
          s ^^^ gfMul m p (gfAlpha m p e) (gfMul m p (polyEval m p om xi) (gfInv m p (polyEval m p dl xi)))
        else s) w
      if (rsSyndromes m p r fixed).all (fun s => decide (s = 0)) then some fixed else none

/-- Positions at which two words differ. -/
def diffPositions (a b : List Nat) : List Nat :=
  ((List.range a.length).zip (a.zip b)).filterMap (fun e => if e.2.1 = e.2.2 then none else some e.1)

/-! ### The stored block: RS(72,64) over GF(2^8) (R202–R206) -/

/-- The 72 symbols of a stored word, S0 in its low byte. -/
def symbols72 : Nat → Nat → List Nat
  | 0, _ => []
  | k + 1, w => w % 256 :: symbols72 k (w / 256)

/-- A word from its symbols, S0 lowest. -/
def ofSymbols : List Nat → Nat
  | [] => 0
  | s :: r => s + 256 * ofSymbols r

/-- The codeword of a block of 512 bits. -/
def encodeBlock (d : Nat) : Nat :=
  if d = 0 then 0
  else d % 2 ^ 512 + 2 ^ 512 * ofSymbols (rsCheck 8 0x11D 8 (symbols72 64 d))

/-- Whether a word of 576 bits is a codeword. -/
def isCodeword (w : Nat) : Bool :=
  decide (w = 0) || (rsSyndromes 8 0x11D 8 (symbols72 72 w)).all (fun s => decide (s = 0))

/-- The result of a codeword decode (R207): the data, and how many symbols were corrected, erasures apart. -/
inductive Decoded where
  | clean (d : Nat)
  | corrected (d symbols : Nat)
  | failed (d : Nat)
deriving DecidableEq, Repr

/-- Beside the erased symbols, the word has at most the symbol errors that CORR3 detects as uncorrectable: two further
positions taken as erased leave a word that decodes (five errors without an erased coil, four with one; Table 1). -/
def withinDetected (erased w : List Nat) : Bool :=
  (List.range 72).any (fun i => (List.range i).any (fun j =>
    (rsDecode 8 0x11D 72 8 (3 - erased.length / 2) ([j, i] ++ erased) w).isSome))

/-- The outcome at a point that the spec leaves open (R204): the free value decides, within what the spec allows. -/
def beyond (n w : Nat) (erased : List Nat) : Decoded :=
  match Config.rsBeyond n w with
  | none => .failed (w % 2 ^ 512)
  | some v =>
    if isCodeword v && decide (v < 2 ^ 576) then
      .corrected (v % 2 ^ 512)
        (((diffPositions (symbols72 72 w) (symbols72 72 v)).filter (fun i => !erased.contains i)).length)
    else .failed (w % 2 ^ 512)

/-- A codeword decode: the word `w0` that the array holds, seen by the decoder with the bits of `noise` inverted, in a
correction mode (0 CORR3, 1 CORR4), with the two symbols of `coil` erased where it is not `none` (R204, Table 1; R206).
Symbols in error are counted against the word in the array where that is a codeword, and against the nearest codeword
where raw access has stored another word. -/
def decodeBlock (n mode : Nat) (coil : Option Nat) (w0 noise : Nat) : Decoded :=
  let w := w0 ^^^ noise
  let erased := match coil with
    | some k => [2 * k, 2 * k + 1]
    | none => []
  let t := 3 + mode - erased.length / 2
  let seen := symbols72 72 w
  if isCodeword w0 then
    let bad := (diffPositions (symbols72 72 w0) seen).filter (fun i => !erased.contains i)
    if bad.length = 0 then .clean (w0 % 2 ^ 512)
    else if bad.length ≤ t then .corrected (w0 % 2 ^ 512) bad.length
    else if mode = 0 ∧ bad.length ≤ t + 2 then .failed (w % 2 ^ 512)
    else beyond n w erased
  else
    match rsDecode 8 0x11D 72 8 (4 - erased.length / 2) erased seen with
    | some c =>
      let bad := (diffPositions c seen).filter (fun i => !erased.contains i)
      let d := ofSymbols (c.take 64)
      if bad.length = 0 then .clean d
      else if bad.length ≤ t then .corrected d bad.length else .failed (w % 2 ^ 512)
    | none =>
      if mode = 0 ∧ withinDetected erased seen then .failed (w % 2 ^ 512) else beyond n w erased

/-! ### SEC-DED words of the metadata subarray (R209) -/

/-- The positions of the data bits: the integers from 3 upward that are not powers of two. -/
def secPositions : List Nat := (List.range 72).filter (fun i => decide (3 ≤ i) && decide (i &&& (i - 1) ≠ 0))

/-- Parity of a number of at most 2^`k` bits. -/
def parityGo : Nat → Nat → Bool
  | 0, _ => false
  | k + 1, w => xor (decide (w % 2 = 1)) (parityGo k (w / 2))

/-- The eight check bits of a 64-bit word. -/
def secCheck (d : Nat) : Nat :=
  let at' := ((List.range 64).zip secPositions).filter (fun e => nbit d e.1)
  let low := at'.foldl (fun acc e => acc ^^^ e.2) 0
  low % 128 + 128 * b2n (xor (parityGo 64 d) (parityGo 7 (low % 128)))

/-- How many bits of a mask are set. -/
def weightGo : Nat → Nat → Nat
  | 0, _ => 0
  | k + 1, w => w % 2 + weightGo k (w / 2)

/-- The result of a metadata decode. -/
inductive MetaDecoded where
  | clean (w : Nat)
  | corrected (w : Nat)
  | failed
deriving DecidableEq, Repr

/-- Decode a word that the subarray holds, seen with the 72 bits of `noise` inverted (check bits above the data). -/
def decodeMeta (n w0 noise : Nat) : MetaDecoded :=
  match weightGo 72 noise with
  | 0 => .clean w0
  | 1 => .corrected w0
  | 2 => .failed
  | _ =>
    let seen := (w0 + 2 ^ 64 * secCheck w0) ^^^ noise
    match Config.secdedBeyond n seen with
    | none => .failed
    | some v => if v = seen then .clean (seen % 2 ^ 64) else .corrected (v % 2 ^ 64)

/-! ### The link frame (R59–R64) -/

/-- The bits of a number, lowest first. -/
def bitsOf : Nat → Nat → List Bool
  | 0, _ => []
  | k + 1, w => decide (w % 2 = 1) :: bitsOf k (w / 2)

/-- The number of a list of bits, lowest first. -/
def ofBits : List Bool → Nat
  | [] => 0
  | b :: r => b2n b + 2 * ofBits r

/-- Bit-serial CRC with polynomial x^16 + x^12 + x^5 + 1 (R60). -/
def crc16 (start : Nat) (bits : List Bool) : Nat :=
  bits.foldl (fun c b =>
    let fb := xor (nbit c 15) b
    let c2 := (c * 2) % 65536
    if fb then c2 ^^^ 0x1021 else c2) start

/-- `n` bits of the additive sequence of x^31 + x^28 + 1 (R62), and the register after them. The register holds the last
31 bits of the sequence, the newest lowest (DEDUCED, log entry 30). -/
def scramble : Nat → Nat → List Bool × Nat
  | 0, reg => ([], reg)
  | n + 1, reg =>
    let b := xor (nbit reg 30) (nbit reg 27)
    let r := scramble n ((reg * 2) % 2147483648 + b2n b)
    (b :: r.1, r.2)

/-- The seed of a lane (R62): 0 lane a, 1 lane b. -/
def laneSeed (lane : Nat) : Nat := if lane = 0 then 0x7FFFFFFF else 0x55555555

/-- Consecutive chunks of ten bits, as numbers. -/
def tens : Nat → List Bool → List Nat
  | 0, _ => []
  | k + 1, bs => ofBits (bs.take 10) :: tens k (bs.drop 10)

/-- XOR the symbols of one lane with its sequence, in the order in which the lane carries them. -/
def scrambleLane (lane : Nat) (ss : List Nat) : List Nat :=
  let seq := tens ss.length (scramble (10 * ss.length) (laneSeed lane)).1
  ss.zipWith (fun a b => a ^^^ b) seq

/-- Every second symbol, from the first. -/
def evens : List Nat → List Nat
  | [] => []
  | [a] => [a]
  | a :: _ :: r => a :: evens r

/-- Two lanes in symbol order. -/
def interleave : List Nat → List Nat → List Nat
  | a :: as, b :: bs => a :: b :: interleave as bs
  | as, [] => as
  | [], bs => bs

/-- Scramble or descramble the 116 symbols of a frame: `mapping` is 2 for two lanes, else the lane in use (R62, R63). -/
def scrambleFrame (mapping : Nat) (ss : List Nat) : List Nat :=
  if mapping = 2 then interleave (scrambleLane 0 (evens ss)) (scrambleLane 1 (evens ss.tail))
  else scrambleLane mapping ss

/-- The 1,024 payload bits of four flits (R59). -/
def payloadBits (fs : List Flit) : List Bool :=
  (fs.map (fun f => bitsOf 64 f.s0.toNat ++ bitsOf 64 f.s1.toNat ++ bitsOf 64 f.s2.toNat ++ bitsOf 64 f.s3.toNat)).flatten

/-- A flit from its 256 bits. -/
def flitOf (bs : List Bool) : Flit :=
  let sl := fun k => BitVec.ofNat 64 (ofBits ((bs.drop (64 * k)).take 64))
  { s0 := sl 0, s1 := sl 1, s2 := sl 2, s3 := sl 3 }

/-- The four flits of the payload. -/
def flitsOf (bs : List Bool) : List Flit :=
  [flitOf (bs.take 256), flitOf ((bs.drop 256).take 256), flitOf ((bs.drop 512).take 256), flitOf ((bs.drop 768).take 256)]

/-- The PAM4 level of a bit pair (R63): a Gray code. -/
def grayLevel (pair : Nat) : Level :=
  if pair = 0 then 0 else if pair = 1 then 1 else if pair = 3 then 2 else 3

/-- The levels of `k` bit pairs of a number, the lowest pair first (R63). -/
def levelsOf : Nat → Nat → List Level
  | 0, _ => []
  | k + 1, w => grayLevel (w % 4) :: levelsOf k (w / 4)

/-- The levels that a lane carries for its symbols: five UIs each, bits 1:0 first (R63). -/
def laneLevels (ss : List Nat) : List Level := ss.flatMap (levelsOf 5)

/-- The lanes that carry the symbols of a frame, with their levels: `mapping` is 2 for two lanes, where lane a has the
even-numbered symbols, else the lane in use (R63). -/
def framePins (mapping : Nat) (ss : List Symbol) : List (Nat × List Level) :=
  let ns := ss.map BitVec.toNat
  if mapping = 2 then [(0, laneLevels (evens ns)), (1, laneLevels (evens ns.tail))] else [(mapping, laneLevels ns)]

/-- The symbols of a frame, scrambled; `control` chooses the start value of the CRC (R60, R64). -/
def encodeFrame (control : Bool) (mapping : Nat) (fs : List Flit) : List Symbol :=
  let bits := payloadBits fs
  let crc := crc16 (if control then 0 else 0xFFFF) bits
  let data := tens 104 (bits ++ bitsOf 16 crc)
  (scrambleFrame mapping (data ++ rsCheck 10 0x409 12 data)).map (BitVec.ofNat 10)

/-- How a received frame is classified (R64): its flits, and the symbols that the FEC corrected. -/
inductive Received where
  | sequenced (fs : List Flit) (fixed : List Nat)
  | control (fs : List Flit) (fixed : List Nat)
  | badCrc (fixed : List Nat)
  | uncorrectable
deriving DecidableEq, Repr

/-- The frame classified as failed at its CRC, which the FEC has passed (R229). -/
def Received.failCrc : Received → Received
  | .sequenced _ fixed => .badCrc fixed
  | .control _ fixed => .badCrc fixed
  | r => r

/-- Receive the 116 symbols of a frame, which the receiver has put together from the levels of its lanes by R63: `inject`
inverts that many check symbols in full as the FEC sees them, and `failCrc` classifies the frame as failed at the CRC (R229). -/
def receiveFrame (mapping inject : Nat) (failCrc : Bool) (ss : List Symbol) : Received :=
  let raw := scrambleFrame mapping (ss.map BitVec.toNat)
  let seen := (List.range 116).zipWith (fun i s => if 104 ≤ i ∧ i < 104 + inject then s ^^^ 0x3FF else s) raw
  match rsDecode 10 0x409 116 12 6 [] seen with
  | none => .uncorrectable
  | some w =>
    let fixed := diffPositions seen w
    let bits := ((w.take 104).map (bitsOf 10)).flatten
    let pay := bits.take 1024
    let crc := ofBits ((bits.drop 1024).take 16)
    if failCrc then .badCrc fixed
    else if crc = crc16 0xFFFF pay then .sequenced (flitsOf pay) fixed
    else if crc = crc16 0 pay then .control (flitsOf pay) fixed else .badCrc fixed

end Sys2Proof.Machine
end

