-- ==== Sys2Proof/Machine/Operands.lean ====
section
/-!
DEFINITION. Operands: the forms in which operands arrive and results leave. Block addresses and where they lie (R121–R130),
request and completion slots and message lengths (R97–R103), link control flits (R66, R67) and MGMT messages (R52).
-/

namespace Sys2Proof.Machine

/-! ### The address map (R121–R130) -/

/-- The fold of a channel-local address (R123). -/
def foldOf (h : Nat) : Nat := nfield h 6 0 ^^^ nfield h 13 7 ^^^ nfield h 20 14 ^^^ nfield h 22 21

/-- The physical channel and the channel-local address of a block; `none` at or beyond the capacity (R122, R123). -/
def decodeAddr (map : List Nat) (b : Nat) : Option (Nat × Nat) :=
  let n := map.length
  if n * 2 ^ 23 ≤ b then none
  else
    let h := b / n
    map[(b % n + foldOf h) % n]?.map (fun p => (p, h))

/-- Row, bank and column of a channel-local address (R126). -/
def rowOf (h : Nat) : Nat := nfield h 22 8
def bankOf (h : Nat) : Nat := 4 * (nfield h 5 4 ^^^ nfield h 9 8) + (nfield h 7 6 ^^^ nfield h 11 10)
def colOf (h : Nat) : Nat := nfield h 3 0

/-- The channel-local address of a bank, row and column (R129). -/
def localOf (k w c : Nat) : Nat :=
  w * 256 + (k % 4 ^^^ nfield w 3 2) * 64 + (k / 4 ^^^ nfield w 1 0) * 16 + c

/-- Region and eighth of a channel-local address (R127). -/
def regionOf (h : Nat) : Nat := nfield h 22 10
def eighthOf (h : Nat) : Nat := nfield h 22 20

/-- The logical number of a physical channel in a map (R130). -/
def logicalIn : List Nat → Nat → Option Nat
  | [], _ => none
  | p :: r, m => if p = m then some 0 else (logicalIn r m).map (· + 1)

/-- The block address of a location, for a channel of the map (R129). -/
def encodeAddr (map : List Nat) (m k w c : Nat) : Option Nat :=
  (logicalIn map m).map (fun l =>
    let n := map.length
    let h := localOf k w c
    h * n + (l + n - foldOf h % n) % n)

/-! ### Slots -/

/-- Bits `hi` down to `lo` of a slot. -/
def slotField (x : Slot) (hi lo : Nat) : Nat := nfield x.toNat hi lo

/-- The OPC of a header slot (R68). -/
def opcOf (x : Slot) : Nat := slotField x 63 56

/-- The four slots of a flit. -/
def Flit.slots (f : Flit) : List Slot := [f.s0, f.s1, f.s2, f.s3]

/-- A flit from at most four slots. -/
def flitOfSlots (xs : List Slot) : Flit :=
  { s0 := xs.getD 0 0, s1 := xs.getD 1 0, s2 := xs.getD 2 0, s3 := xs.getD 3 0 }

/-- The 256 bits of a data flit (R97). -/
def flitBits (f : Flit) : BitVec 256 := f.s3 ++ f.s2 ++ f.s1 ++ f.s0

/-- The two data flits of a block of 512 bits (R97). -/
def blockFlits (d : BitVec 512) : List Flit :=
  let sl := fun i => d.extractLsb' (64 * i) 64
  [{ s0 := sl 0, s1 := sl 1, s2 := sl 2, s3 := sl 3 }, { s0 := sl 4, s1 := sl 5, s2 := sl 6, s3 := sl 7 }]

/-- The block that two data flits carry (R97). -/
def flitsBlock (a b : Flit) : BitVec 512 := flitBits b ++ flitBits a

/-! ### Requests (R98–R100) -/

/-- A request as it stands in a request flit (R98): the header slot, and the second slot of the two-slot operations. -/
structure ReqSlot where
  head : Slot
  second : Slot := 0
deriving DecidableEq, Repr

/-- Whether an OPC of Table 1 on REQ takes two slots; `none` for an OPC that the table does not list there. -/
def reqSlots (opc : Nat) : Option Nat :=
  if opc ∈ [0x10, 0x11, 0x12, 0x18, 0x19, 0x1A] then some 1
  else if opc ∈ [0x13, 0x14, 0x15] then some 2 else none

/-- The data flits of a request (R98). -/
def reqData (opc : Nat) : Nat := if opc = 0x12 ∨ opc = 0x13 then 2 else 0

/-- The requests of a request flit (R98), or `none` where R100 makes the message one of an undefined OPC. -/
def parseReqs : List Slot → Option (List ReqSlot)
  | [] => some []
  | x :: r =>
    if x = 0 then if r.all (fun y => decide (y = 0)) then some [] else none
    else match reqSlots (opcOf x) with
      | none => none
      | some 1 => (parseReqs r).map (fun q => { head := x } :: q)
      | some _ => match r with
        | [] => none
        | y :: r2 => (parseReqs r2).map (fun q => { head := x, second := y } :: q)

/-- TAG and LABEL of a request header (R98, R99). -/
def tagOf (x : Slot) : Nat := slotField x 55 47
def labelOf (x : Slot) : Nat := slotField x 46 39

/-! ### Completions (R102, R103) -/

/-- Slots of a completion (Table 6). -/
def rspSlots (opc : Nat) : Nat := if opc = 0x99 then 2 else 1

/-- Slot 0 of a completion (Table 7). -/
def rspHead (r : Resp) : Slot :=
  BitVec.ofNat 64 (r.opc * 2 ^ 56 + r.tag * 2 ^ 47 + r.status * 2 ^ 43 + r.flitPsn * 2 ^ 39) + r.value.setWidth 64

/-- All slots of a completion; QLEN_RSP carries a second (Table 8). -/
def rspSlotList (r : Resp) : List Slot :=
  if r.opc = 0x99 then [rspHead r, BitVec.ofNat 64 (r.packets * 2 ^ 32 + r.cells)] else [rspHead r]

/-- The data flits of a completion. -/
def rspData (r : Resp) : List Flit := r.first ++ r.flits

/-- The header flit of a DEQ_RSP (Table 9). -/
def deqHead (d : DeqOut) : Flit :=
  { s0 := BitVec.ofNat 64 (0xC0 * 2 ^ 56 + d.tag * 2 ^ 47 + d.status * 2 ^ 43 + d.len * 2 ^ 24 + d.label * 2 ^ 16 + d.queue)
    s1 := d.cellPsn }

/-- Flits of a packet of `len` bytes (R99). -/
def packetFlits (len : Nat) : Nat := (len + 31) / 32

/-- Cells of a packet of `len` bytes (R99, the queue engine). -/
def packetCells (len : Nat) : Nat := (len + 255) / 256

/-! ### MGMT messages (R52, Table 10 of the dictionary chapter) -/

/-- Flits of a message with LEN value bytes; a LEN above 240 counts as 240 (R68). -/
def mgmtFlits (len : Nat) : Nat := (8 + Nat.min len 240 + 31) / 32

/-- Bytes of a flit. -/
def flitBytes (f : Flit) : List Byte := natBytes 32 (flitBits f).toNat

/-- Flits from bytes, the last one padded with zeros. -/
def bytesFlits : Nat → List Byte → List Flit
  | 0, _ => []
  | k + 1, bs => flitOfSlots ((List.range 4).map (fun i => BitVec.ofNat 64 (bytesNat ((bs.drop (8 * i)).take 8)))) ::
      bytesFlits k (bs.drop 32)

/-- A MGMT message of the stack: header and value. -/
def mgmtMessage (opc mtag key status : Nat) (val : List Byte) : List Flit :=
  let head := opc * 2 ^ 56 + mtag * 2 ^ 48 + (key % 256) * 2 ^ 40 + (key / 256) * 2 ^ 24 + val.length * 2 ^ 16 + status
  bytesFlits (mgmtFlits val.length) (natBytes 8 head ++ val)

/-! ### Link control flits (R66, R67) -/

/-- The fields of an LCF. -/
structure Lcf where
  kind : Nat := 0
  nak : Bool := false
  ackValid : Bool := false
  ackSeq : Nat := 0
  replaySeq : Nat := 0
  rxLanesOk : Nat := 0
  txLanes : Nat := 0
  crQdat : Nat := 0
  crMgmt : Nat := 0
  crRsp : Nat := 0
  crReq : Nat := 0
deriving DecidableEq, Repr

/-- Read an LCF (Tables 3 and 4 of the link chapter). -/
def parseLcf (f : Flit) : Lcf :=
  { kind := slotField f.s0 55 52, nak := nbit f.s0.toNat 51, ackValid := nbit f.s0.toNat 50,
    ackSeq := slotField f.s0 49 41, replaySeq := slotField f.s0 40 32, rxLanesOk := slotField f.s0 31 30,
    txLanes := slotField f.s0 29 28, crQdat := slotField f.s1 63 48, crMgmt := slotField f.s1 47 32,
    crRsp := slotField f.s1 31 16, crReq := slotField f.s1 15 0 }

/-- Slots 0 and 1 of an LCF. -/
def lcfFlit (c : Lcf) : Flit :=
  { s0 := BitVec.ofNat 64 (c.kind * 2 ^ 52 + b2n c.nak * 2 ^ 51 + b2n c.ackValid * 2 ^ 50 + c.ackSeq * 2 ^ 41 +
      c.replaySeq * 2 ^ 32 + c.rxLanesOk * 2 ^ 30 + c.txLanes * 2 ^ 28)
    s1 := BitVec.ofNat 64 (c.crQdat * 2 ^ 48 + c.crMgmt * 2 ^ 32 + c.crRsp * 2 ^ 16 + c.crReq) }

/-- The training parameters of a TRAIN LCF (Table 5), with the lane that carries the copy and the partner's
RX_LANES_OK. -/
def parseTrain (f : Flit) : Train :=
  { initQdat := slotField f.s2 63 48, initMgmt := slotField f.s2 47 32, initRsp := slotField f.s2 31 16,
    initReq := slotField f.s2 15 0, protoVer := slotField f.s3 63 56, role := slotField f.s3 55 55,
    keep := nbit f.s3.toNat 54, step := slotField f.s3 39 32, rxLanesOk := slotField f.s0 31 30 }

/-- Slots 2 and 3 of the stack's TRAIN LCF on link `n` and lane `lane` (Table 5). -/
def trainFlit (base : Flit) (t : Train) (n lane : Nat) (mgmt : Bool) : Flit :=
  { base with
    s2 := BitVec.ofNat 64 (t.initQdat * 2 ^ 48 + t.initMgmt * 2 ^ 32 + t.initRsp * 2 ^ 16 + t.initReq)
    s3 := BitVec.ofNat 64 (t.protoVer * 2 ^ 56 + t.role * 2 ^ 55 + b2n t.keep * 2 ^ 54 + lane * 2 ^ 53 +
      b2n mgmt * 2 ^ 52 + n * 2 ^ 40 + t.step * 2 ^ 32) }

end Sys2Proof.Machine
end

