-- ==== Sys2Proof/Machine/Spares.lean ====
section
/-!
DEFINITION. Spares: spare rows and columns, the repair list (R277–R280) and the start of a layer evacuation (R289, R290),
which a candidate without a spare may bring about.
-/

namespace Sys2Proof.Machine

/-- Home layer in force of a channel (R276). -/
def State.home (s : State) (m : Nat) : Nat := (s.chan m).vl.home.getD (m / 8)

/-- The channel is retired (R295). -/
def State.retired (s : State) (m : Nat) : Bool := decide ((s.chan m).st = .retired)

/-- The controllers of the channels homed on a layer issue commands that A_k counts (R319). -/
def State.countActs (s : State) (m n : Nat) : State :=
  let k := s.home m
  { s with therm := { s.therm with actNow := mset 0 s.therm.actNow k (mget 0 s.therm.actNow k + n) } }

/-- A setting that a channel's block holds: its committed value, or, while a commit is being applied, the new one once
that block has swapped its tables (R46, R47). -/
def State.blockSetting (s : State) (blk : Block) (staged act : Nat) : Nat :=
  match s.dict.commit with
  | none => s.rget act
  | some c =>
    if c.left.contains blk then s.rget act
    else match c.set.find? (fun e => decide (e.1 = staged)) with
      | some e => e.2
      | none => s.rget act

/-- Spare rows for repair still idle in a bank of the home location (R277, R278): 63, less those used. -/
def Chan.idleRows (c : Chan) (k : Nat) : Nat := 63 - mget 0 c.rep.usedRows k

/-- Spare columns still idle in a bank (R277). -/
def Chan.idleCols (c : Chan) (k : Nat) : Nat := 8 - mget 0 c.rep.usedCols k

/-- A repair-list entry in STATE pending (R279, Table 2). -/
def candidate (kind source layer ch bank row col sym bit : Nat) (known : Bool) : BitVec 64 :=
  BitVec.ofNat 64 (kind * 2 ^ 61 + source * 2 ^ 58 + layer * 2 ^ 51 + ch * 2 ^ 44 + bank * 2 ^ 40 + row * 2 ^ 25 +
    col * 2 ^ 21 + sym * 2 ^ 14 + bit * 2 ^ 11 + b2n known * 2 ^ 10)

/-- Fields of a repair-list entry (Table 2). -/
def rlKind (e : BitVec 64) : Nat := nfield e.toNat 63 61
def rlState (e : BitVec 64) : Nat := nfield e.toNat 57 56
def rlLayer (e : BitVec 64) : Nat := nfield e.toNat 55 51
def rlChan (e : BitVec 64) : Nat := nfield e.toNat 50 44
def rlBank (e : BitVec 64) : Nat := nfield e.toNat 43 40
def rlRow (e : BitVec 64) : Nat := nfield e.toNat 39 25
def rlCol (e : BitVec 64) : Nat := nfield e.toNat 24 21
def rlSym (e : BitVec 64) : Nat := nfield e.toNat 20 14

/-- An entry with another STATE. -/
def rlSetState (e : BitVec 64) (st : Nat) : BitVec 64 :=
  BitVec.ofNat 64 (e.toNat - rlState e * 2 ^ 56 + st * 2 ^ 56)

/-- Two entries name the same location: KIND, layer, slot, bank and row, or the symbol position of a column (R280). -/
def sameLocation (a b : BitVec 64) : Bool :=
  decide (rlKind a = rlKind b) && decide (rlLayer a = rlLayer b) && decide (rlChan a % 8 = rlChan b % 8) &&
    decide (rlBank a = rlBank b) &&
    (if rlKind a = 1 then decide (rlRow a = rlRow b) else decide (rlCol a = rlCol b) && decide (rlSym a = rlSym b))

/-- Remove the first entry that satisfies a test. -/
def dropFirst (f : BitVec 64 → Bool) : List (BitVec 64) → List (BitVec 64)
  | [] => []
  | e :: r => if f e then r else e :: dropFirst f r

/-- Change the first entry that satisfies a test. -/
def mapFirst (f : BitVec 64 → Bool) (g : BitVec 64 → BitVec 64) : List (BitVec 64) → List (BitVec 64)
  | [] => []
  | e :: r => if f e then g e :: r else e :: mapFirst f g r

/-- The spare layer that an evacuation takes: L16 if it is idle and not FAILED, else L17 (R289). -/
def State.evacTarget (s : State) : Option Nat := [16, 17].find? (fun k => decide ((s.layer k).st = 0))

/-- A layer takes another STATE of Table 6 of the vertical chapter; one that relocks takes it when it is in lock again. -/
def Layer.become (l : Layer) (st : Nat) : Layer := if l.st = 4 then { l with was := st } else { l with st := st }

/-- The STATE of a layer, a relock apart. -/
def Layer.role (l : Layer) : Nat := if l.st = 4 then l.was else l.st

/-- An evacuation runs (R289). -/
def State.evacRuns (s : State) : Bool := decide (s.repair.evacState ∈ [1, 2, 3, 4])

/-- The channels that an evacuation of a layer takes along (R290). -/
def State.homedOn (s : State) (k : Nat) : List Nat :=
  (chanNums s).filter (fun m => decide (s.home m = k) && !s.retired m)

/-- An evacuation is accepted: t = 0 of Table 4 (R290). -/
def State.evacStart (s : State) (src dst : Nat) (answered : Bool) : State :=
  let s := { s with repair := { s.repair with
    evacState := 1, evacSrc := src, evacDst := dst, switched := 0, evacAns := answered } }
  let s := s.modLayer src (fun l => l.become 6)
  let s := s.modLayer dst (fun l => l.become 7)
  let s := s.each (s.homedOn src) (fun t m => t.modChan m (fun c =>
    { c with rep := { c.rep with evac := 1, copyAt := 0 }, vl := { c.vl with extHops := 0, extSlices := 0 } }))
  s.report 25

/-- The bank of a candidate has an idle spare of its kind (R281). -/
def State.spareFor (s : State) (e : BitVec 64) : Bool :=
  let c := s.chan (rlChan e)
  if rlKind e = 1 then decide (0 < c.idleRows (rlBank e)) else decide (0 < c.idleCols (rlBank e))

/-- The power-up quick test runs: the repairs that it makes take the defaults of REPAIR_AUTO and EVAC_AUTO (R299). -/
def State.quickRuns (s : State) : Bool :=
  decide (s.boot = .qtRemap ∨ s.boot = .qtBase ∨ s.boot = .qtLoopback ∨ s.boot = .qtSanity)

/-- EVAC_AUTO, as R289 reads it. -/
def State.evacAuto (s : State) : Bool := s.quickRuns || s.flag (ekey 0x1C00 0x03)

/-- What follows when a pending candidate finds no idle spare of its kind (Table 6 of the repair chapter, R289, R293): it
is unrepairable, except a column candidate on a layer that is being evacuated, which is left pending; and an evacuation
may start. -/
def State.noSpare (s : State) (e : BitVec 64) : State :=
  let evacuating := s.evacRuns && decide (s.repair.evacSrc = rlLayer e)
  if evacuating && decide (rlKind e = 2) then s
  else
    let s1 := { s with repair := { s.repair with
      list := mapFirst (fun x => sameLocation x e && decide (rlState x = 0)) (fun x => rlSetState x 3) s.repair.list } }
    let s2 := s1.report 24
    if s2.evacAuto && decide (rlLayer e < layerCount s2.variant) && !s2.evacRuns then
      match s2.evacTarget with
      | some t => s2.evacStart (rlLayer e) t false
      | none => s2
    else s2

/-- Candidates of a channel are repaired automatically: REPAIR_AUTO, its default in the quick test, or the full power-up
repair test runs (R281, R299, R398). -/
def State.repairAuto (s : State) (m : Nat) : Bool :=
  s.quickRuns || s.flag (ekey 0x1C00 0x01) || (s.chan m).rep.fullTest

/-- A candidate is to be repaired: its repair is automatic, or REPAIR_REQUEST has named it (R281). -/
def State.wanted (s : State) (e : BitVec 64) : Bool := s.repairAuto (rlChan e) || s.repair.asked.any (fun x => sameLocation x e)

/-- The candidate is the column that its channel migrates: it has its spare. -/
def State.migrates (s : State) (e : BitVec 64) : Bool :=
  decide (rlKind e = 2) && (s.chan (rlChan e)).rep.migr.any (fun x => decide (x.1 = rlBank e ∧ x.2.1 = rlCol e ∧ x.2.2.1 = rlSym e))

/-- Pending candidates that are to be repaired and whose bank has no idle spare of their kind (any more) are judged
(Table 6 of the repair chapter, R281, R289). -/
def State.rejudge (s : State) : State :=
  (s.repair.list.filter (fun e => decide (rlState e = 0))).foldl (fun t e =>
    if t.wanted e && !t.spareFor e && !t.migrates e then t.noSpare e else t) s

/-- A candidate arrives (R279, R280). While REPAIR_AUTO is 0 it stays pending, whatever its bank holds (R281)
(DEDUCED, log entry 74). -/
def State.addCandidate (s : State) (e : BitVec 64) : State :=
  let l := s.repair.list
  let known := fun x => sameLocation x e && decide (rlState x ≤ 1)
  let put := fun (t : State) (l' : List (BitVec 64)) => { t with repair := { t.repair with list := l' } }
  let judge := fun (t : State) => if t.wanted e && !t.spareFor e && !t.migrates e then t.noSpare e else t
  if l.any known then judge (put s (mapFirst known (fun x => rlSetState x 0) l))
  else if l.length < 256 then judge (put s (l ++ [e]))
  else if l.any (fun x => decide (rlState x = 2)) then
    judge (put s (dropFirst (fun x => decide (rlState x = 2)) l ++ [e]))
  else if l.any (fun x => decide (rlState x = 1)) then
    judge (put s (dropFirst (fun x => decide (rlState x = 1)) l ++ [e]))
  else s.count (ekey 0x1C00 0x0C) 1

end Sys2Proof.Machine
end

