-- ==== Sys2Proof/Machine/Integrity.lean ====
section
/-!
DEFINITION. Integrity: how an entry of a channel reads and writes a block. The region map and its fills (R212–R216), the
metadata words (R208–R211), the decode and what it changes (R207, R217–R221, R226), check-bit injection (R229, R230), and
the activate tables that every activation updates (R194, R195, R199).
-/

namespace Sys2Proof.Machine

/-! ### Injection (R229, R230) -/

/-- The PATTERN that an injection feeds to a check of kind `k` at an instance and an address, or 0, and the state after
the check has been counted (DESIGN CHOICE, log entry 42). Of kind 4 the instance is the group and the address the link or
the channel; of the groups held neither per link nor per channel it is 0 (group 4) and the slice (group 6) (DESIGN CHOICE, log
entry 154). -/
def State.inject (s : State) (k inst : Nat) (addr : Nat) : Nat × State :=
  let ctrl := s.rget (ekey 0x1800 (0x60 + k))
  let mode := nfield ctrl 63 62
  let who := nfield ctrl 31 24
  let mtch := if k = 4 then nfield ctrl 6 0 else nfield ctrl 22 0
  if mode = 0 ∨ (who ≠ 0xFF ∧ who ≠ inst) ∨ (nbit ctrl 23 ∧ mtch ≠ addr) then (0, s)
  else if mode = 1 then
    let left := s.rget (ekey 0x1800 (0x70 + k))
    let s1 := s.rset (ekey 0x1800 (0x70 + k)) (left - 1)
    (nfield ctrl 55 48, if left ≤ 1 then s1.rset (ekey 0x1800 (0x60 + k)) (ctrl % 2 ^ 62) else s1)
  else (nfield ctrl 55 48, s)

/-- An SRAM parity error of a group: counted and reported with the block and instance that Table 7 of the faults chapter
gives for the group (R229, R388). -/
def State.sramError (s : State) (code inst : Nat) : State :=
  (s.count (ekey 0x1800 0x30) 1).reportAt 11 code inst

/-! ### Activate tables (R194–R199) -/

/-- The neighbour distance and the threshold in force at a channel. -/
def State.rhThreshold (s : State) (m : Nat) : Nat := s.blockSetting (.channel m) (ekey 0x1400 0x02) (ekey 0x1400 0x22)
def State.rhRadius (s : State) (m : Nat) : Nat := s.blockSetting (.channel m) (ekey 0x1400 0x03) (ekey 0x1400 0x23)

/-- Index of the entry that a table evicts: the smallest count, the lowest index on a tie (R195). -/
def minEntry : Nat → List (Option (Nat × Nat)) → Option (Nat × Nat)
  | _, [] => none
  | i, none :: r => minEntry (i + 1) r
  | i, some (_, n) :: r =>
    match minEntry (i + 1) r with
    | none => some (i, n)
    | some (j, k) => if n ≤ k then some (i, n) else some (j, k)

/-- The count of a row in a table. -/
def rowCount (w : Nat) : List (Option (Nat × Nat)) → Option Nat
  | [] => none
  | some (v, n) :: r => if v = w then some n else rowCount w r
  | none :: r => rowCount w r

/-- Set the count of a row that a table holds. -/
def setCount (w n : Nat) (t : List (Option (Nat × Nat))) : List (Option (Nat × Nat)) :=
  t.map (fun e => match e with
    | some (v, k) => if v = w then some (v, n) else some (v, k)
    | none => none)

/-- Put a row into the free entry of lowest index. -/
def putRow (w n : Nat) : List (Option (Nat × Nat)) → List (Option (Nat × Nat))
  | [] => []
  | none :: r => some (w, n) :: r
  | some e :: r => some e :: putRow w n r

/-- A table after an activation of row `w`, the new count of the row, and whether an entry was evicted (R195). A count
saturates at 65,535. -/
def ActTab.activate (t : ActTab) (w : Nat) : ActTab × Nat × Bool :=
  match rowCount w t.rows with
  | some n =>
    let k := Nat.min (n + 1) 65535
    ({ t with rows := setCount w k t.rows }, k, false)
  | none =>
    let full := t.rows.all Option.isSome
    let t1 :=
      if full then
        match minEntry 0 t.rows with
        | some (i, n) => { t with rows := t.rows.set i none, spillCur := Nat.max t.spillCur n }
        | none => t
      else t
    let k := Nat.min (Nat.max t1.spillPrev t1.spillCur + 1) 65535
    ({ t1 with rows := putRow w k t1.rows }, k, full)

/-- The controller activates a row of a bank (R194, R195); at 16 pending rows it enters forced neighbour service (R199). -/
def State.activate (s : State) (m k w : Nat) : State :=
  let s := s.countActs m 1
  let c := s.chan m
  let (t, n, evicted) := (mget {} c.ref.tabs k).activate w
  let marks := decide (s.rhThreshold m ≤ n) && !c.ref.pending.contains (k, w)
  let pend := if marks then c.ref.pending ++ [(k, w)] else c.ref.pending
  let force := marks && decide (16 ≤ pend.length) && !c.ref.forced
  let s := s.setChan m { c with ref := { c.ref with
    tabs := mset {} c.ref.tabs k t, pending := pend, forced := c.ref.forced || force } }
  let s := if evicted then s.count (chanKey m 0x8A) 1 else s
  let s := if marks then s.count (chanKey m 0x88) 1 else s
  let s := if force then s.count (chanKey m 0x8C) 1 else s
  s.peak (chanKey m 0x8D) n 65535

/-! ### The region map and the metadata (R208–R216) -/

/-- Change the memory of a channel. -/
def State.modMem (s : State) (m : Nat) (f : ChanMem → ChanMem) : State := s.modChan m (fun c => { c with mem := f c.mem })

/-- Set sixteen words of a plane from the word `w` on. -/
def setWords (pl : SMap Nat) (w v : Nat) : SMap Nat := (List.range 16).foldl (fun p i => mset 0 p (w + i) v) pl

/-- 64 ones. -/
def ones64 : Nat := 2 ^ 64 - 1

/-- Fill a region: all ones in both planes (R216). -/
def ChanMem.fill (c : ChanMem) (r : Nat) : ChanMem :=
  { c with valid := setWords c.valid (16 * r) ones64, poison := setWords c.poison (16 * r) ones64,
           fills := c.fills.filter (fun x => decide (x ≠ r)) }

/-- Look a region up (R213): a byte that fails parity sets its eight bits and marks its regions for a fill; a region
marked for a fill is filled first (R216). -/
def State.lookupRegion (s : State) (m r : Nat) (bad : Bool) : Bool × State :=
  let (hit, s) := s.inject 5 m r
  let s :=
    if bad || decide (hit ≠ 0) then
      let rs := (List.range 8).map (fun i => r / 8 * 8 + i)
      let s := s.modChan m (fun c =>
        let fills := rs.foldl insertOnce c.mem.fills
        { c with mem := { c.mem with rmap := rs.foldl (fun p i => mset false p i true) c.mem.rmap, fills := fills }
                 forcedFill := c.forcedFill || decide (48 < fills.length) })
      (s.count (chanKey m 0xA7) 1).report 10 m
    else s
  let s := if (s.chan m).mem.fills.contains r then s.modChan m (fun c =>
      let mm := c.mem.fill r
      { c with mem := mm, forcedFill := c.forcedFill && decide (48 < mm.fills.length) })
    else s
  (mget false (s.chan m).mem.rmap r, s)

/-- Decode the two metadata words of a block, write corrected words back, and rewrite a word found uncorrectable (R209,
R210, R211): the valid and the poison word that the entry goes on with. -/
def State.readMeta (s : State) (m h vNoise pNoise : Nat) : Nat × Nat × State :=
  let i := h / 64
  let one := fun (s : State) (plane noise : Nat) =>
    let ctrl := s.rget (ekey 0x1800 0x63)
    let (pat, s) := if nfield ctrl 52 52 = plane then s.inject 3 m h else (0, s)
    let inj := if pat % 4 = 1 then 2 ^ 64 else if pat % 4 = 2 then 2 ^ 64 + 2 ^ 65 else 0
    let w := mget 0 (if plane = 0 then (s.chan m).mem.valid else (s.chan m).mem.poison) i
    let r := decodeMeta s.free w (noise ^^^ inj)
    (r, if noise ^^^ inj = 0 then s else s.tick)
  let put := fun (s : State) (plane v : Nat) => s.modMem m (fun c =>
    if plane = 0 then { c with valid := mset 0 c.valid i v } else { c with poison := mset 0 c.poison i v })
  let fail := fun (s : State) => (s.count (chanKey m 0xA6) 1).report 9 m
  let (rp, s) := one s 1 pNoise
  let (p, s) := match rp with
    | .clean w => (w, s)
    | .corrected w => (w, (put s 1 w).count (chanKey m 0xA5) 1)
    | .failed => (ones64, fail (put s 1 ones64))
  let (rv, s) := one s 0 vNoise
  match rv with
  | .clean w => (w, p, s)
  | .corrected w => (w, p, (put s 0 w).count (chanKey m 0xA5) 1)
  | .failed => (ones64, ones64, fail (put (put s 0 ones64) 1 ones64))

/-- Set the two bits of a block. -/
def State.setMeta (s : State) (m h : Nat) (v p : Bool) : State :=
  s.modMem m (fun c => { c with
    valid := mset 0 c.valid (h / 64) (nset (mget 0 c.valid (h / 64)) (h % 64) v),
    poison := mset 0 c.poison (h / 64) (nset (mget 0 c.poison (h / 64)) (h % 64) p) })

/-! ### Decoding a block (R204–R207, R217, R226) -/

/-- The correction mode in force at a channel (R205). -/
def State.eccMode (s : State) (m : Nat) : Nat := s.blockSetting (.integrity m) (ekey 0x1800 0x01) (ekey 0x1800 0x21)

/-- CE_ROW_LIMIT in force at a channel. -/
def State.ceLimit (s : State) (m : Nat) : Nat := s.blockSetting (.integrity m) (ekey 0x1800 0x03) (ekey 0x1800 0x23)

/-- Count a row in a correctable-row table: the table, whether the row is tracked, and whether it becomes a candidate. -/
def ceCount (k w lim : Nat) : List (Option CeRow) → Option (List (Option CeRow) × Bool)
  | [] => none
  | some e :: r =>
    if e.bank = k ∧ e.row = w then
      let n := Nat.min (e.count + 1) 255
      some (some { e with count := n, seen := true, cand := e.cand || decide (lim ≤ n) } :: r,
        !e.cand && decide (lim ≤ n))
    else (ceCount k w lim r).map (fun x => (some e :: x.1, x.2))
  | none :: r => (ceCount k w lim r).map (fun x => (none :: x.1, x.2))

/-- Put a new row into the free entry of lowest index; `none` when the table is full. -/
def cePut (k w lim : Nat) : List (Option CeRow) → Option (List (Option CeRow))
  | [] => none
  | none :: r => some (some { bank := k, row := w, count := 1, cand := decide (lim ≤ 1) } :: r)
  | some e :: r => (cePut k w lim r).map (fun x => some e :: x)

/-- A correctable decode counts against the correctable-row table (R226). -/
def State.ceRow (s : State) (m h : Nat) : State :=
  let k := bankOf h
  let w := rowOf h
  let lim := s.ceLimit m
  let send := fun (s : State) => s.addCandidate (candidate 1 0 (s.home m) m k w 0 0x7F 0 false)
  match ceCount k w lim (s.chan m).ceRows with
  | some (t, cand) =>
    let s := s.modChan m (fun c => { c with ceRows := t })
    if cand then send s else s
  | none => match cePut k w lim (s.chan m).ceRows with
    | some t =>
      let s := s.modChan m (fun c => { c with ceRows := t })
      if lim ≤ 1 then send s else s
    | none => s.count (chanKey m 0xB0) 1

/-- The functions of a column that await a substitution window, CK0 apart (R272). -/
def Chan.waitingFns (c : Chan) : List Nat := ((c.vl.waiting.map Prod.snd).filter (fun f => decide (f ≠ 44))).dedup

/-- INTERIM: a failed site awaits its substitution window (R272). -/
def Chan.interim (c : Chan) : Bool := decide (c.waitingFns ≠ [])

/-- All functions of a column that are failed and not spared. -/
def Chan.failedFns (c : Chan) : List Nat := (c.vl.dead ++ c.waitingFns).dedup

/-- In the interim the channel issues no command, unless one data coil or one CA coil is all that has failed (R272). -/
def Chan.interimStop (c : Chan) : Bool :=
  c.interim && !(match c.failedFns with
    | [f] => decide (f < 44)
    | _ => false)

/-- The erased coil of a channel: in DEGRADED_ECC, or in the interim of one data coil (R206, R272). -/
def Chan.erased (c : Chan) : Option Nat :=
  match c.failedFns with
  | [f] => if f < 36 ∧ (c.vl.degraded ∨ c.interim) then some f else none
  | _ => if c.vl.degraded then c.vl.dead.head? else none

/-- The word that the array holds at an address: a block whose contents a self-refresh has lost shows a free value (R176)
(DESIGN CHOICE, log entry 155). -/
def State.arrayWord (s : State) (m h : Nat) : Nat :=
  let mm := (s.chan m).mem
  match mget 0 mm.lost h with
  | 0 => mget 0 mm.arr h
  | n + 1 => Config.lostWord n m h % 2 ^ 576

/-- Decode the word of a block, with its counters (R207); the block counts in the counters whoever reads it
(DESIGN CHOICE, log entry 8). -/
def State.decodeWord (s : State) (m h noise : Nat) : Decoded × State :=
  let (pat, s) := s.inject 2 m h
  let flip := noise ^^^ ((2 ^ (8 * pat) - 1) * 2 ^ 512)
  let c := s.chan m
  let w := s.arrayWord m h
  let r := decodeBlock s.free (s.eccMode m) c.erased w flip
  let s := if flip = 0 then s else s.tick
  match r with
  | .corrected d n =>
    let wrong := diffPositions (symbols72 72 (encodeBlock d)) (symbols72 72 (w ^^^ flip))
    let coils := (wrong.map (fun i => i / 2)).filter (fun i => decide (some i ≠ c.erased))
    let s := s.modChan m (fun c => { c with vl := { c.vl with
      coilCe := coils.foldl (fun l i => l.set i (l.getD i 0 + 1)) c.vl.coilCe } })
    (r, ((s.count (chanKey m 0xA0) 1).count (chanKey m 0xA1) n).ceRow m h)
  | _ => (r, s)

/-- What a reader gets of a block: its data, whether it is returned poisoned, and whether the decode corrected it. -/
structure ReadOut where
  data : Nat := 0
  poisoned : Bool := false
  corrected : Bool := false
  valid : Bool := false                -- the block's valid bit was 1
  failed : Bool := false               -- the decode was uncorrectable
deriving DecidableEq, Repr

/-- Table 2 below the region bit: valid and poison bits, of the words `v` and `p` read, and the decode (R217, R220). -/
def State.readValid (s : State) (m h noise v p : Nat) : ReadOut × State :=
  if !nbit v (h % 64) then ({}, s)
  else
    let was := nbit p (h % 64)
    let (r, s) := s.decodeWord m h noise
    match r with
    | .clean d =>
      if was then ({ data := d, poisoned := true, valid := true }, s.count (chanKey m 0xA3) 1)
      else ({ data := d, valid := true }, s)
    | .corrected d _ =>
      if was then ({ data := d, poisoned := true, corrected := true, valid := true }, s.count (chanKey m 0xA3) 1)
      else ({ data := d, corrected := true, valid := true }, s)
    | .failed d =>
      let s := s.count (chanKey m 0xA3) 1
      if was then ({ data := d, poisoned := true, failed := true, valid := true }, s)
      else
        let s := s.setMeta m h true true
        let s := (s.count (chanKey m 0xA2) 1).rset (chanKey m 0xAE) (0x80000000 + h)
        let s := s.report 8 m
        ({ data := d, poisoned := true, failed := true, valid := true },
          s.addCandidate (candidate 1 1 (s.home m) m (bankOf h) (rowOf h) (colOf h) 0x7F 0 false))

/-- A column access that reads a block: its two metadata words, then Table 2 (R210, R217). -/
def State.readColumn (s : State) (m h noise vNoise pNoise : Nat) : ReadOut × State :=
  let (v, p, s) := s.readMeta m h vNoise pNoise
  s.readValid m h noise v p

/-- Read a block within an entry: the region lookup, then the metadata, then Table 2 (R213, R217). The region bit found is
returned too. -/
def State.readBlock (s : State) (m h noise : Nat) (env : ChanEnv) : ReadOut × Bool × State :=
  let (r, s) := s.lookupRegion m (regionOf h) env.rmapBad
  if !r then ({}, false, s)
  else
    let (o, s) := s.readColumn m h noise env.vNoise env.pNoise
    (o, true, s)

/-! ### Writing a block (R214, R218, R292) -/

/-- Store the word of a block, on both layers while an evacuation of the channel writes to both (R292), and record the
write (R263). -/
def State.storeWord (s : State) (m h w : Nat) : State :=
  s.modChan m (fun c => { c with
    mem := { c.mem with arr := mset 0 c.mem.arr h w, lost := mdel c.mem.lost h,
                        arrT := if c.rep.evac = 2 then mset 0 c.mem.arrT h w else c.mem.arrT }
    vl := { c.vl with writes := (c.vl.writes ++ [(h, w)]).drop (c.vl.writes.length + 1 - 32) } })

/-- The region initialization, where the entry found the region bit at 0 (R214). -/
def State.initRegion (s : State) (m r : Nat) (written : Bool) : State :=
  if written then s
  else
    let s := s.modMem m (fun c => { c with
      valid := setWords c.valid (16 * r) 0, rmap := mset false c.rmap r true })
    s.count (chanKey m 0xA8) 1

/-- The write of a stored word with its two bits, in an entry that found region bit `written`. -/
def State.writeWord (s : State) (m h w : Nat) (valid poison written : Bool) : State :=
  let s := s.initRegion m (regionOf h) written
  let s := (s.storeWord m h w).setMeta m h valid poison
  if poison then s.count (chanKey m 0xA4) 1 else s

/-- The write of a block's data (R202). -/
def State.writeData (s : State) (m h d : Nat) (poison written : Bool) : State :=
  s.writeWord m h (encodeBlock d) true poison written

end Sys2Proof.Machine
end

