-- ==== Sys2Proof/Machine/Links.lean ====
section
/-!
DEFINITION. Links: the Ictan links (R54–R96) below their messages. Training, RECOVER, lane switches and link reset; the
receiver's classification, acknowledgement and replay; the assembly of messages; and the operations by which other
chapters idle and release the links. What a frame transmits and what its messages do is in Transmit and Receive.
-/

namespace Sys2Proof.Machine

/-! ### Settings and lanes -/

/-- The link runs at half rate: the grade or the profile sets it (R21, R22, R54). -/
def State.halfRate (s : State) : Bool := s.gradeFs || decide (s.profile = .economy)

/-- The lanes that the profile leaves of a set: in ECONOMY lane a, or lane b where a is missing (R22). -/
def State.profileLanes (s : State) (lanes : Nat) : Nat :=
  if s.profile = .economy then (if nbit lanes 0 then 1 else lanes &&& 2) else lanes

/-- The lanes that the receiver can use after a full training: RX_LANES_OK (R66, R90). A lane that the training excluded, one
that has failed and one that LANE_MASK added since stay out until the next full training (R84, R91). -/
def State.rxOk (s : State) (n : Nat) : Nat :=
  let l := s.link n
  s.profileLanes (l.rxSet &&& s.linkAct n 3 &&& (3 - l.rxFailed % 4))

/-- Symbols go over two lanes, or over the one in use (R63). -/
def mappingOf (lanes : Nat) : Nat := if lanes % 4 = 3 then 2 else if lanes = 2 then 1 else 0

/-- The link is enabled on the variant and the links' domain is clocked: outside a chip reset and in P0–P2 (R29, R363). -/
def State.linkLive (s : State) (n : Nat) : Bool :=
  decide (n < enabled s.variant) && decide (s.boot ≠ .held) && decide (s.power.st ≤ 2) && !s.therm.trip

/-- Requests of a link that are admitted to a channel queue (R94). -/
def State.admitted (s : State) (n : Nat) : Bool :=
  s.chans.any (fun e => e.2.queue.any (fun q => decide (q.port = n) && q.req.engine.isNone))

/-! ### Reset, idle and RECOVER -/

/-- A link after a link reset (R92, R93, Table 12): what it keeps is its cause and settings, the failure bits, the
accepted ENQs, the DEQs already executed and the levels that other chapters hold it at. -/
def Link.afterReset (l : Link) (st : LinkState) (cause : Nat) : Link :=
  { st := st, cause := cause, rxFailed := l.rxFailed, txFailed := l.txFailed, polInv := l.polInv, swap := l.swap,
    halfRate := l.halfRate, idled := l.idled, qtHeld := l.qtHeld,
    enqs := l.enqs.map (fun j => { j with silent := true })
    deqs := l.deqs.map (fun d => { d with silent := true }) }

/-- A port after a link reset: nothing held, nothing waiting (Table 12). -/
def Port.afterReset (_p : Port) : Port := {}

/-- The cell writes of a link's accepted ENQs return no credits once the link has been reset: its credits start afresh
(Table 12). `word` is the number of QDAT flits whose credits a cell write still owes. -/
def Port.forget (n : Nat) (p : Port) : Port :=
  { p with held := p.held.map (fun h => if h.engine = some n ∧ h.opc = 0x12 then { h with word := 0 } else h) }

/-- A block reset of a kind and instance is in progress (R373). -/
def State.inReset (s : State) (code inst : Nat) : Bool := s.clk.resets.contains (code, inst)

/-- Where a link stands after a link reset: DISABLED without LINK_ENABLE or in VOID, RESET while its block reset lasts or the
quick test holds it, else DETECT (R81, R96, R299, R373, R421) (DEDUCED, log entry 95). -/
def State.freshState (s : State) (n : Nat) : LinkState :=
  if s.linkAct n 1 = 0 ∨ s.lc.st = .void then .disabled
  else if (s.link n).qtHeld || s.inReset 0 n then .reset else .detect

/-- An ENQ that is not linked is discarded: its cells and its reservation are free again, and what it holds in the
engine's port is dropped. -/
def State.discardEnq (s : State) (n : Nat) (j : EnqJob) : State :=
  let i := j.queue % slices s.variant
  let k := packetCells j.len
  let q := s.queue j.queue
  let y := s.slice i
  let s := s.setQueue j.queue { q with reserved := q.reserved - k }
  let s := s.setSlice i { y with reserved := y.reserved - k, backlog := y.backlog ++ j.cells }
  let s := { s with qe := { s.qe with due := true } }
  let s := s.modPort (128 + i) (fun p => { p with
    held := p.held.filter (fun h => !(decide (h.engine = some n) && decide (h.grp = j.id))) })
  s.modLink n (fun l => { l with enqs := l.enqs.filter (fun x => decide (x.id ≠ j.id)) })

/-- Link reset with a cause (R92, R93). The LINK_CORE side of the link's queues is reset, and they are NOT_READY until
their handshake (R369). An ENQ partly received is discarded. -/
def State.linkReset (s : State) (n cause : Nat) : State :=
  let s := ((s.link n).enqs.filter (fun j => decide (j.toCome ≠ 0))).foldl (fun s j => s.discardEnq n j) s
  let st := s.freshState n
  let s := s.modLink n (fun l => l.afterReset st cause)
  let s := s.modPort n Port.afterReset
  let s := s.each (List.range 8) (fun t i => t.modPort (128 + i) (Port.forget n))
  { s with
    clk := { s.clk with nrLink := vset s.clk.nrLink n true }
    dict := { s.dict with held := s.dict.held.filter (fun x => decide (x.1 ≠ n)) } }

/-- Enter RECOVER with the link-layer state kept (R86). EQUALIZE comes first only where the lane rate changes. -/
def State.enterRecover (s : State) (n : Nat) : State :=
  s.modLink n (fun l => { l with
    st := .recover, phase := if l.halfRate = s.halfRate then 1 else 0,
    tx := { l.tx with step2 := 0, nulls := 0, replayHdr := none, replay := [] },
    rx := { l.rx with partner := { l.rx.partner with step := 0 }, locked := false, failStreak := 0, goodStreak := 0 } })

/-- A link goes back to DETECT: its PRBS starts afresh (R82). -/
def Link.toDetect (l : Link) : Link := { l with st := .detect, tx := { l.tx with prbs := 0x1FFF, prbsB := 0x0AAA, eqPhase := 0 } }

/-- The link transmitters are idled by another chapter (R88). -/
def State.idleLink (s : State) (n : Nat) : State :=
  s.modLink n (fun l =>
    let l := { l with idled := true }
    match l.st with
    | .active | .recover | .laneSwitch => { l with st := .idle }
    | .equalize | .align | .config => l.toDetect
    | _ => l)

/-- The transmitters are released: a link in IDLE leaves it through RECOVER (R88). -/
def State.releaseLink (s : State) (n : Nat) : State :=
  let s := s.modLink n (fun l => { l with idled := false })
  if (s.link n).st = .idle then s.enterRecover n else s

/-- A training fails with a cause: FAILED, counted and reported (R84) (DEDUCED, log entry 144). -/
def State.trainFail (s : State) (n cause : Nat) : State :=
  let s := s.modLink n (fun l => { l with st := .failed, cause := cause })
  (s.count (linkKey n 0x11) 1).report 0 n

/-- A protocol error: counted, the link reset with cause 0x8, and reported (R69, R100). -/
def State.protocolError (s : State) (n : Nat) : State :=
  ((s.count (linkKey n 0x1C) 1).linkReset n 0x8).report 2 n

/-! ### Credits (R71–R74) -/

/-- Return REQ credits; while a profile change drains, they are withheld (R26). -/
def State.returnReq (s : State) (n k : Nat) : State :=
  s.modLink n (fun l => { l with rx :=
    if s.dict.draining then { l.rx with owedReq := l.rx.owedReq + k }
    else { l.rx with retReq := l.rx.retReq + BitVec.ofNat 16 k } })

/-- Return QDAT credits. -/
def State.returnQdat (s : State) (n k : Nat) : State :=
  s.modLink n (fun l => { l with rx :=
    if s.dict.draining then { l.rx with owedQdat := l.rx.owedQdat + k }
    else { l.rx with retQdat := l.rx.retQdat + BitVec.ofNat 16 k } })

/-- Return MGMT credits, while the link is management-enabled (R96). -/
def State.returnMgmt (s : State) (n k : Nat) : State :=
  if s.linkAct n 2 = 1 then s.modLink n (fun l => { l with rx := { l.rx with retMgmt := l.rx.retMgmt + BitVec.ofNat 16 k } })
  else s

/-- Grant what a profile change has withheld (R26, Table 6). -/
def Link.grantOwed (l : Link) : Link :=
  { l with rx := { l.rx with
    retReq := l.rx.retReq + BitVec.ofNat 16 l.rx.owedReq, retQdat := l.rx.retQdat + BitVec.ofNat 16 l.rx.owedQdat,
    owedReq := 0, owedQdat := 0 } }

/-- A cumulative counter from the partner: the credits it adds and the value applied (R73). -/
def applyCounter (u v : BitVec 16) : Nat × BitVec 16 :=
  let d := (v - u).toNat
  if d < 32768 then (d, v) else (0, u)

/-- Apply the credit counters of an LCF (R73). -/
def LinkTx.credits (t : LinkTx) (c : Lcf) : LinkTx :=
  let r := applyCounter t.usedRsp (BitVec.ofNat 16 c.crRsp)
  let m := applyCounter t.usedMgmt (BitVec.ofNat 16 c.crMgmt)
  let q := applyCounter t.usedQdat (BitVec.ofNat 16 c.crQdat)
  { t with credRsp := t.credRsp + r.1, usedRsp := r.2, credMgmt := t.credMgmt + m.1, usedMgmt := m.2,
           credQdat := t.credQdat + q.1, usedQdat := q.2 }

/-! ### Acknowledgement and replay, transmit side (R76, R78) -/

/-- Drop the stored frames up to sequence number `a`, which lies among them. -/
def releaseTo (a : Nat) : List StoredFrame → List StoredFrame
  | [] => []
  | f :: r => if f.seq = a then r else releaseTo a r

/-- Replay from a sequence number (R78): any replay in progress is abandoned. -/
def LinkTx.replayFrom (t : LinkTx) (q : Nat) : LinkTx := { t with replayHdr := some q, replay := [] }

/-- The oldest stored frame, or the next new one. -/
def LinkTx.oldest (t : LinkTx) : Nat :=
  match t.stored with
  | f :: _ => f.seq
  | [] => t.nextSeq

/-- Release the stored frames up to sequence number `a`. A REPLAY frame that has not left and whose frame is released
starts from the oldest frame then stored, since it numbers the next sequenced frame sent; a replay whose REPLAY frame has
left goes on with every frame it announced, since the partner counts them (DEDUCED, log entry 150). -/
def LinkTx.release (t : LinkTx) (a : Nat) : LinkTx :=
  let u := { t with stored := releaseTo a t.stored, replayCount := 0 }
  { u with replayHdr := t.replayHdr.map (fun q =>
      if t.stored.any (fun f => decide (f.seq = q)) && !u.stored.any (fun f => decide (f.seq = q)) then u.oldest else q) }

/-- Act on the acknowledgement fields of an LCF (R78). -/
def LinkTx.acks (t : LinkTx) (c : Lcf) : LinkTx :=
  let t := if c.ackValid && t.stored.any (fun f => decide (f.seq = c.ackSeq)) then
      t.release c.ackSeq else t
  if !c.nak then { t with nakArmed := true }
  else if t.nakArmed then
    ({ t with nakArmed := false }).replayFrom (if c.ackValid then (c.ackSeq + 1) % 512 else 0)
  else t

/-! ### The receiver (R64, R65, R77) -/

/-- Set or clear NAK; a change makes an LCF due (R79), and 0 to 1 is counted. -/
def State.setNak (s : State) (n : Nat) (b : Bool) : State :=
  let l := s.link n
  if l.rx.nak = b then s
  else
    let s := s.setLink n { l with rx := { l.rx with nak := b }, tx := { l.tx with lcfDue := true } }
    if b then s.count (linkKey n 0x19) 1 else s

/-- A flit in the middle of a message is taken for a STATUS LCF when it has that form: OPC 0, KIND 1, and every reserved
bit zero (DEDUCED, log entry 20). -/
def statusForm (f : Flit) : Bool :=
  decide (slotField f.s0 63 52 = 0x001) && decide (slotField f.s0 27 0 = 0) && decide (f.s2 = 0) && decide (f.s3 = 0) &&
    decide (slotField f.s0 40 32 = 0)

/-- Flits of the message that a header flit begins (R68); `none` for a header of R69 or R100. -/
def messageFlits (f : Flit) : Option Nat :=
  let opc := opcOf f.s0
  if 0x01 ≤ opc ∧ opc ≤ 0x0F then some (mgmtFlits (slotField f.s0 23 16))
  else if 0x10 ≤ opc ∧ opc ≤ 0x3F then
    match parseReqs (Flit.slots f) with
    | some rs => some (1 + (rs.map (fun r => reqData (opcOf r.head))).sum)
    | none => none
  else if opc = 0x40 then
    let len := slotField f.s0 38 24
    if len = 0 ∨ 16384 < len then none else some (1 + packetFlits len)
  else none

/-- Apply the fields of an LCF; a reserved KIND is counted and otherwise ignored (R66, R73, R78). -/
def State.onLcf (s : State) (n : Nat) (f : Flit) : State :=
  let c := parseLcf f
  if 3 < c.kind then s.count (linkKey n 0x1C) 1
  else s.modLink n (fun l => { l with
    tx := (l.tx.credits c).acks c, rx := { l.rx with hostLanes := c.rxLanesOk } })

/-- The LCFs of a frame, given whether its first flit stands inside a message. -/
def lcfsOf : List Flit → List Flit → List Flit
  | _, [] => []
  | [], f :: r =>
    if opcOf f.s0 = 0 then f :: lcfsOf [] r
    else match messageFlits f with
      | some k => if k ≤ 1 then lcfsOf [] r else lcfsOf [f] r
      | none => lcfsOf [] r
  | h :: t, f :: r =>
    if statusForm f then f :: lcfsOf (h :: t) r
    else match messageFlits h with
      | some k => if k ≤ t.length + 2 then lcfsOf [] r else lcfsOf (h :: t ++ [f]) r
      | none => lcfsOf (h :: t ++ [f]) r

/-- Count the corrected symbols of a frame against the lanes (R63, R89, R95). -/
def State.countFixed (s : State) (n mapping : Nat) (fixed : List Nat) : State :=
  if fixed = [] then s
  else
    let a := if mapping = 2 then (fixed.filter (fun i => decide (i % 2 = 0))).length
      else if mapping = 0 then fixed.length else 0
    let b := fixed.length - a
    let s := s.modLink n (fun l => { l with winA := l.winA + a, winB := l.winB + b })
    ((s.count (linkKey n 0x14) a).count (linkKey n 0x15) b).count (linkKey n 0x16) 1

/-- A failed frame of an operating link (R65, R77): four in a row lose frame lock. -/
def State.failedFrame (s : State) (n : Nat) : State :=
  let l := s.link n
  if !l.rx.locked then s.setLink n { l with rx := { l.rx with goodStreak := 0 } }
  else
    let streak := l.rx.failStreak + 1
    let s := s.setLink n { l with rx := { l.rx with failStreak := streak } }
    let s := if l.rx.discarding then s
      else (s.modLink n (fun l => { l with rx := { l.rx with discarding := true } })).setNak n true
    if 4 ≤ streak then s.enterRecover n else s

/-- The transmit lanes that a full training gives: those of the partner's RX_LANES_OK, LANE_MASK and the profile rule (R83). -/
def State.txLanesFor (s : State) (n hostOk : Nat) : Nat := s.profileLanes (hostOk &&& s.linkAct n 3)

/-- The transmit lanes after a RECOVER: of those settled on at the last full training, the ones that the partner can use,
LANE_MASK and the profile leave and the host has not reported failed (R83, R91). -/
def State.txLanesKept (s : State) (n hostOk : Nat) : Nat :=
  let l := s.link n
  s.profileLanes (hostOk &&& s.linkAct n 3 &&& l.txSet &&& (3 - l.txFailed % 4))

/-- The advertised parameters of the host are acceptable (R72, R83); else the cause. -/
def State.trainCause (s : State) (t : Train) : Nat :=
  let minQ := if s.variant = .axd3200 then 0 else 520
  if t.protoVer ≠ 1 then 4 else if t.role ≠ 0 then 5
  else if t.initRsp < 16 ∨ t.initMgmt < 8 ∨ t.initQdat < minQ then 6 else 0

/-- A TRAIN frame arrives (R83, R85, R86) (DEDUCED, log entry 38). -/
def State.onTrain (s : State) (n : Nat) (f : Flit) : State :=
  let t := parseTrain f
  let l := s.link n
  match l.st with
  | .active | .laneSwitch =>
    if t.keep then (s.enterRecover n).modLink n (fun l => { l with rx := { l.rx with partner := t } })
    else s.linkReset n 0xB
  | .idle => if t.keep then s else s.linkReset n 0xB
  | .recover =>
    if !t.keep then s.linkReset n 0xB
    else s.setLink n { l with rx := { l.rx with partner := t } }
  | .equalize | .align => s.setLink n { l with rx := { l.rx with partner := { t with step := 0 } } }
  | .config =>
    let cause := if s.trainCause t ≠ 0 then s.trainCause t else if s.txLanesFor n t.rxLanesOk = 0 then 7 else 0
    if 1 ≤ t.step && !t.keep && decide (cause ≠ 0) then s.trainFail n cause
    else s.setLink n { l with rx := { l.rx with partner := t } }
  | _ => s

/-- A control frame with lock declared: LCF fields and REPLAY (R77). -/
def State.onControl (s : State) (n : Nat) (fs : List Flit) : State :=
  let f0 := fs.headD {}
  let c := parseLcf f0
  if c.kind = 3 then s.onTrain n f0
  else
    let s := fs.foldl (fun s f => s.onLcf n f) s
    if c.kind ≠ 2 then s
    else
      let l := s.link n
      let d := (l.rx.expected + 512 - c.replaySeq) % 512
      if d < 256 then
        let s := (s.setLink n { l with rx := { l.rx with skip := d, discarding := false } }).setNak n false
        s.modLink n (fun l => if l.st = .laneSwitch ∧ l.tx.replayHdr = none ∧ l.tx.nulls = 0 then { l with st := .active } else l)
      else (s.count (linkKey n 0x1C) 1).enterRecover n

/-- A good frame while the receiver searches for lock: the eighth in a row declares it (R65). -/
def State.searchLock (s : State) (n : Nat) : State :=
  s.modLink n (fun l =>
    let k := l.rx.goodStreak + 1
    if 8 ≤ k then { l with rx := { l.rx with locked := true, goodStreak := 0, failStreak := 0 } }
    else { l with rx := { l.rx with goodStreak := k } })

/-- The states in which a link receives frames; in IDLE it looks for TRAIN frames alone (R85) (DEDUCED, log entry 151). -/
def LinkState.receives : LinkState → Bool
  | .equalize | .align | .config | .active | .recover | .laneSwitch | .idle => true
  | _ => false

/-- A frame that the receiver classifies as failed is counted, and replayed where the link operates (R64, R77). -/
def State.frameFailed (s : State) (n : Nat) (training : Bool) (counter : Nat) : State :=
  let s := s.count (linkKey n counter) 1
  if training then s else s.failedFrame n

/-- The TRAIN flit of a received frame. -/
def Received.train : Received → Option Flit
  | .control fs _ => if (parseLcf (fs.headD {})).kind = 3 then some (fs.headD {}) else none
  | _ => none

/-- A TRAIN frame is received: one with KEEP 1 carries LCF fields of the operating link. Before lock is declared the frames
that end a partner's training are not used, and those of a partner in RECOVER count towards the lock (R65, R85, R86)
(DEDUCED, log entry 151). -/
def State.trainFrame (s : State) (n : Nat) (fs : List Flit) : State :=
  let l := s.link n
  let keep := (parseTrain (fs.headD {})).keep
  let operating := decide (l.st ∈ [.active, .laneSwitch])
  if operating && !l.rx.locked then (if keep then s.searchLock n else s)
  else
    let s := if keep && (operating || decide (l.st = .recover)) then fs.foldl (fun s f => s.onLcf n f) s else s
    s.onTrain n (fs.headD {})

/-- A sequenced frame with lock declared (R77): the state, and its flits where it is accepted. -/
def State.sequencedFrame (s : State) (n : Nat) (fs : List Flit) : State × List Flit :=
  let s := s.modLink n (fun l => { l with rx := { l.rx with failStreak := 0 } })
  let l := s.link n
  if l.rx.discarding ∨ 0 < l.rx.skip then
    let s := (fs.filter statusForm).foldl (fun s f => s.onLcf n f) s
    (s.modLink n (fun l => if l.rx.discarding then l else { l with rx := { l.rx with skip := l.rx.skip - 1 } }), [])
  else
    let s := (lcfsOf l.rx.msg fs).foldl (fun s f => s.onLcf n f) s
    let s := s.modLink n (fun l => { l with rx := { l.rx with
      lastAck := l.rx.expected, ackValid := true, expected := (l.rx.expected + 1) % 512 } })
    (s.count (linkKey n 0x1D) 1, fs)

/-- Receive the symbols of a frame: the state, and the flits of an accepted sequenced frame, which are taken next. `lane` is
the mapping in which the frame arrives (2: two lanes). A frame in another mapping than the receiver's is uncorrectable to
it, but for TRAIN frames, which come in single-lane mapping on each lane (R82) (DEDUCED, log entry 151). -/
def State.rxFrame (s : State) (n lane : Nat) (symbols : List Symbol) : State × List Flit :=
  let l := s.link n
  if l.st = .idle then
    (match (receiveFrame lane 0 false symbols).train with
      | some f => s.onTrain n f
      | none => s, [])
  else
    let (k0, s) := s.inject 0 n 0
    let r := receiveFrame lane k0 false symbols
    let (k1, s) := if r = .uncorrectable then (0, s) else s.inject 1 n 0
    let r := if k1 = 0 then r else r.failCrc
    let training := decide (l.st ∈ [.equalize, .align, .config, .recover])
    let ours := training || r.train.isSome || decide (lane = mappingOf l.rxLanes)
    match (if ours then r else .uncorrectable) with
    | .uncorrectable => (s.frameFailed n training 0x17, [])
    | .badCrc fixed => ((s.countFixed n lane fixed).frameFailed n training 0x18, [])
    | .control fs fixed =>
      let s := s.countFixed n lane fixed
      if r.train.isSome then (s.trainFrame n fs, [])
      else if training then (s, [])
      else if !l.rx.locked then (s.searchLock n, [])
      else ((s.modLink n (fun l => { l with rx := { l.rx with failStreak := 0 } })).onControl n fs, [])
    | .sequenced fs fixed =>
      let s := s.countFixed n lane fixed
      if training then (s, [])
      else if !l.rx.locked then (s.searchLock n, [])
      else s.sequencedFrame n fs

/-! ### Lanes lost (R89–R91) -/

/-- A lane of the receiver goes out of use: single-lane mapping, a search for lock, NAK held (R90). -/
def State.dropRxLane (s : State) (n lane : Nat) : State :=
  let s := s.modLink n (fun l => { l with
    rxLanes := nset l.rxLanes lane false, st := .laneSwitch,
    rx := { l.rx with locked := false, goodStreak := 0, failStreak := 0, discarding := true },
    tx := { l.tx with lcfDue := true } })
  s.setNak n true

/-- The receiver declares a lane failed (R89–R91). -/
def State.declareLane (s : State) (n lane : Nat) : State :=
  let s := s.modLink n (fun l => { l with rxFailed := nset l.rxFailed lane true })
  ((s.dropRxLane n lane).count (linkKey n 0x13) 1).report 1 n

/-- The transmitter goes over to the lanes left to it: 16 NULL frames and a REPLAY from the oldest stored frame; a replay
in progress is abandoned (R65, R90). Without a lane left, RECOVER follows (R91). -/
def State.switchTx (s : State) (n lanes : Nat) : State :=
  if lanes = 0 then s.enterRecover n
  else s.modLink n (fun l => { l with
    txLanes := lanes, st := .laneSwitch,
    tx := { l.tx with nulls := 16, replayHdr := some l.tx.oldest, replay := [] } })

/-! ### Rows of training and lanes -/

/-- DETECT_LOCK: signal and CDR lock for 10 µs on a lane of LANE_MASK (R81, R82). -/
def State.detectLock (s : State) (n lanes : Nat) : State :=
  let l := s.link n
  if s.linkLive n && s.mapBuilt && decide (l.st = .detect) && !l.idled && decide (lanes &&& s.linkAct n 3 ≠ 0) then
    s.setLink n { l with st := .equalize, rxLanes := s.linkAct n 3, halfRate := s.halfRate,
                         rx := { l.rx with partner := {} }, tx := { l.tx with step2 := 0, eqPhase := 0 } }
  else s

/-- EQUALIZE_DONE: the receivers are adapted (R83), in a full training or in a RECOVER that changes the lane rate (R86). -/
def State.equalizeDone (s : State) (n : Nat) : State :=
  let l := s.link n
  if s.linkLive n && decide (l.st = .equalize) then s.setLink n { l with st := .align }
  else if s.linkLive n && decide (l.st = .recover ∧ l.phase = 0) then s.setLink n { l with phase := 1 } else s

/-- LANE_WITHOUT_LOCK: a lane without lock 100 µs after the first is excluded, and training goes on (R84). -/
def State.laneWithoutLock (s : State) (n lane : Nat) : State :=
  let l := s.link n
  if s.linkLive n && decide (l.st = .equalize ∨ l.st = .align) && nbit l.rxLanes lane then
    if nset l.rxLanes lane false = 0 then s.trainFail n 7
    else s.setLink n { l with rxLanes := nset l.rxLanes lane false }
  else s

/-- ALIGN_DONE: frame lock on every usable lane, lanes deskewed, polarity and order found (R57, R81). In RECOVER the lanes are
those that the receiver can use, every one of them (R86) (DEDUCED, log entry 152). -/
def State.alignDone (s : State) (n lanes polInv : Nat) (swap : Bool) : State :=
  let l := s.link n
  if s.linkLive n && decide (l.st = .align) then
    let use := s.profileLanes (lanes &&& l.rxLanes)
    if use = 0 then s.trainFail n 7
    else s.setLink n { l with st := .config, rxLanes := use, rxSet := lanes &&& l.rxLanes, polInv := polInv, swap := swap,
                              withheld := s.dict.draining }
  else if s.linkLive n && decide (l.st = .recover ∧ l.phase = 1) && decide (s.rxOk n ≠ 0) &&
      decide (lanes &&& s.rxOk n = s.rxOk n) then
    s.setLink n { l with phase := 2, polInv := polInv, swap := swap }
  else s

/-- QDAT credits of Table 7 (R72). -/
def qdatCredits (v : Variant) : Nat := if v = .axd3200 then 0 else 1024

/-- The stack's initial credits (R72, Table 7): REQ, MGMT, QDAT. What a training offers is settled as it enters CONFIG
(DEDUCED, log entry 152). -/
def State.initCredits (s : State) (n : Nat) : Nat × Nat × Nat :=
  let hold := if (s.link n).st = .config then (s.link n).withheld else s.dict.draining
  (if hold then 0 else 1536, if s.linkAct n 1 = 1 ∧ s.linkAct n 2 = 1 then 128 else 0,
   if hold then 0 else qdatCredits s.variant)

/-- The credits withheld from a link whose draining has ended are granted, where the link has link-layer state: while it
retrains they wait for its training (R26, Table 6). -/
def State.grantLink (s : State) (n : Nat) : State :=
  if s.dict.draining ∨ (s.link n).st = .recover ∨ (s.link n).st = .idle then s else s.modLink n Link.grantOwed

/-- CONFIG_COMPLETE: step 0x02 received, 16 frames of it sent, every admitted request of the link completed, the map built
(R83, R94, R132). The link enters ACTIVE with fresh link-layer state and counters; without a lane in common to transmit on, the
training fails with cause 0x7 (Table 14). Credits that the training withheld are granted once the change has ended (R72). -/
def State.configComplete (s : State) (n : Nat) : State :=
  let l := s.link n
  let p := l.rx.partner
  if s.linkLive n && decide (l.st = .config) && decide (p.step = 2) && !p.keep && decide (s.trainCause p = 0) &&
      decide (16 ≤ l.tx.step2) && !s.admitted n && !s.clk.nrLink.getLsbD n && s.mapBuilt then
    let lanes := s.txLanesFor n p.rxLanesOk
    if lanes = 0 then s.trainFail n 7
    else
    let l' : Link := { l with
      st := .active, rxFailed := 0, txFailed := 0, txLanes := lanes, txSet := s.linkAct n 3, trained := true,
      winA := 0, winB := 0, withheld := false,
      tx := { nulls := 16, replayHdr := some 0, credRsp := p.initRsp, credMgmt := p.initMgmt, credQdat := p.initQdat }
      rx := { partner := p, hostLanes := p.rxLanesOk,
              owedReq := if l.withheld then 1536 else 0, owedQdat := if l.withheld then qdatCredits s.variant else 0 } }
    let s := (s.setLink n l').grantLink n
    let s := s.rset (linkKey n 0x09)
      (p.initReq + p.initRsp * 2 ^ 16 + p.initMgmt * 2 ^ 32 + p.initQdat * 2 ^ 48)
    s.count (linkKey n 0x10) 1
  else s

/-- TRAINING_LIMIT_EXPIRY: a limit of Table 10 is exceeded (R84). The limits do not run while the transmitters are idled
(R88), nor that of CONFIG during the drain (R94). -/
def State.trainingLimit (s : State) (n : Nat) : State :=
  let l := s.link n
  if !s.linkLive n || l.idled then s
  else match l.st with
    | .equalize => s.trainFail n 1
    | .align => s.trainFail n 2
    | .config => if s.admitted n then s else s.trainFail n 3
    | _ => s

/-- FAILED_TIMEOUT: 10 ms after FAILED the link goes to DETECT (R84). -/
def State.failedTimeout (s : State) (n : Nat) : State :=
  let l := s.link n
  if s.linkLive n && decide (l.st = .failed) then s.setLink n l.toDetect else s

/-- Lanes of the transmitter that the host reports failed: each counts, and the link's lane fault source reports (R91). -/
def State.hostLanesLost (s : State) (n lost : Nat) : State :=
  if lost = 0 then s
  else
    let s := s.modLink n (fun l => { l with txFailed := l.txFailed ||| lost })
    let k := b2n (nbit lost 0) + b2n (nbit lost 1)
    (s.count (linkKey n 0x13) k).report 1 n

/-- RECOVER_COMPLETE: ALIGN and CONFIG are passed with PROTO_VER and ROLE compared; 16 NULL frames and a REPLAY from the
oldest stored frame follow (R86). A lane in use that the partner no longer receives is reported failed (R91), and credits
withheld for the change of profile that retrained the link are granted (Table 6). -/
def State.recoverComplete (s : State) (n : Nat) : State :=
  let l := s.link n
  let p := l.rx.partner
  if s.linkLive n && decide (l.st = .recover) && decide (l.phase = 2) && decide (p.step = 2) && p.keep &&
      decide (p.protoVer = 1) && decide (p.role = 0) && decide (16 ≤ l.tx.step2) &&
      decide (s.rxOk n ≠ 0) && decide (s.txLanesKept n p.rxLanesOk ≠ 0) then
    let t := s.setLink n { l with
      st := .active, rxLanes := s.rxOk n, txLanes := s.txLanesKept n p.rxLanesOk, halfRate := s.halfRate,
      tx := { l.tx with nulls := 16, replayHdr := some l.tx.oldest, replay := [], step2 := 0 }
      rx := { l.rx with hostLanes := p.rxLanesOk } }
    let t := t.hostLanesLost n (l.txLanes &&& (3 - p.rxLanesOk % 4))
    (t.grantLink n).count (linkKey n 0x12) 1
  else s

/-- RECOVER_TIMEOUT: RECOVER has not completed in its time; a link reset with cause 0xC (R87). -/
def State.recoverTimeout (s : State) (n : Nat) : State :=
  if s.linkLive n && decide ((s.link n).st = .recover) then (s.linkReset n 0xC).report 3 n else s

/-- HOST_IDLE_RESET: electrical idle from the host for 10 µs on an ACTIVE link (R88). -/
def State.hostIdleReset (s : State) (n : Nat) : State :=
  if s.linkLive n && decide ((s.link n).st = .active) then s.linkReset n 0xB else s

/-- LANE_SIGNAL_LOSS: a lane in use without signal or CDR lock for 1 µs while the other stays locked (R89), also while the
link switches the lanes of its transmitter. -/
def State.laneSignalLoss (s : State) (n lane : Nat) : State :=
  let l := s.link n
  if s.linkLive n && decide (l.st = .active ∨ l.st = .laneSwitch) && decide (l.rxLanes = 3) then s.declareLane n lane else s

/-- LANE_SER_WINDOW_CLOSE: the corrected symbols of a 1 ms window against LANE_SER_LIMIT (R89). -/
def State.laneSerWindow (s : State) (n tailA tailB : Nat) : State :=
  let l := s.link n
  let lim := s.rget (linkKey n 0x0A)
  let s := s.setLink n { l with winA := Nat.min tailA l.winA, winB := Nat.min tailB l.winB }
  if s.linkLive n && decide (l.st = .active ∨ l.st = .laneSwitch) && decide (l.rxLanes = 3) && decide (lim ≠ 0) then
    if lim < l.winA ∧ 16 * l.winB < lim then s.declareLane n 0
    else if lim < l.winB ∧ 16 * l.winA < lim then s.declareLane n 1 else s
  else s

/-- TX_LANE_SWITCH: the host has cleared a bit of RX_LANES_OK (R90, R91). -/
def State.txLaneSwitch (s : State) (n : Nat) : State :=
  let l := s.link n
  let left := l.txLanes &&& l.rx.hostLanes
  if s.linkLive n && decide (l.st = .active ∨ l.st = .laneSwitch) && decide (left ≠ l.txLanes) then
    (s.switchTx n left).hostLanesLost n (l.txLanes - left)
  else s

/-- REPLAY_TIMER_EXPIRY: 4 µs with stored frames and no release (R78). -/
def State.replayTimer (s : State) (n : Nat) : State :=
  let l := s.link n
  if s.linkLive n && decide (l.st = .active ∨ l.st = .laneSwitch) && decide (l.tx.stored ≠ []) then
    let k := l.tx.replayCount + 1
    let s := s.setLink n { l with tx := { l.tx with replayCount := k } }
    if 8 < k then s.enterRecover n
    else s.modLink n (fun l => { l with tx := l.tx.replayFrom l.tx.oldest })
  else s

/-- A link applies its newly committed settings at a frame boundary (R91, R96); `was` are the settings it had. A lane removed
leaves a training in progress as it leaves an operating link, and one added waits for the next full training. -/
def State.linkApply (s : State) (n : Nat) (wasEnable wasMgmt wasMask : Nat) : State :=
  let en := s.linkAct n 1
  if en = 0 ∧ wasEnable = 1 then (s.linkReset n 0x9)
  else if en = 1 ∧ wasEnable = 0 then
    s.modLink n (fun l => if l.st = .disabled then { l with st := s.freshState n } else l)
  else
    let mg := s.linkAct n 2
    let s := if mg = 0 ∧ wasMgmt = 1 then s.modLink n (fun l => { l with events := [] })
      else if mg = 1 ∧ wasMgmt = 0 then s.modLink n (fun l =>
        if l.st = .active ∨ l.st = .recover ∨ l.st = .laneSwitch ∨ l.st = .idle then
          { l with rx := { l.rx with retMgmt := l.rx.retMgmt + 128 }, tx := { l.tx with lcfDue := true } } else l)
      else s
    let mask := s.linkAct n 3
    let s := s.modLink n (fun l => { l with rxSet := l.rxSet &&& mask, txSet := l.txSet &&& mask })
    let l := s.link n
    if mask = wasMask then s
    else if l.st = .equalize ∨ l.st = .align ∨ l.st = .config then
      let use := if l.st = .config then s.profileLanes l.rxSet else l.rxLanes &&& mask
      if use = 0 then s.trainFail n 7 else s.setLink n { l with rxLanes := use }
    else if ¬ (l.st = .active ∨ l.st = .laneSwitch) then s
    else
      let s := if l.rxLanes &&& mask = l.rxLanes then s
        else if l.rxLanes &&& mask = 0 then s.enterRecover n
        else s.dropRxLane n (if nbit mask 0 then 1 else 0)
      let tl := l.txLanes &&& mask
      if tl = l.txLanes ∨ (s.link n).st = .recover then s else s.switchTx n tl

end Sys2Proof.Machine
end

