-- ==== Sys2Proof/Machine/Requests.lean ====
section
/-!
DEFINITION. Requests: the receipt of requests (R98–R107), the credits that leave with them (R74, R101), and their
completions (R102, R105, R113). The queue commands wait at their port; memory requests wait in its holding queue.
-/

namespace Sys2Proof.Machine

/-! ### Settings of the regulator and the queue engine, as their blocks hold them -/

/-- A class parameter in force at the regulator, numbered as in Table 6 of the regulation chapter. -/
def State.classSet (s : State) (c i : Nat) : Nat := s.blockSetting .regulator (classKey c i) (classKey c (0x20 + i))

/-- The class of a label in force at the regulator (R137). -/
def State.labelSet (s : State) (l : Nat) : Nat := s.blockSetting .regulator (ekey 0x2100 l) (ekey 0x2101 l)

/-- The host group of a port in force at the regulator (R140). -/
def State.groupSet (s : State) (p : Nat) : Nat := s.blockSetting .regulator (portKey p 1) (portKey p 0x21)

/-- The class that a pin is bound to in force at the regulator; 0xFF unbound (R150). -/
def State.pinSet (s : State) (p : Nat) : Nat := s.blockSetting .regulator (ekey 0x2300 p) (ekey 0x2300 (0x10 + p))

/-- A queue-engine setting in force: 1 QE_ENABLE, 2 POOL_BASE, 3 POOL_SUB_CELLS, 4 ENGINE_CLASS, 0x30 + n LS_LIMITn,
0x40 + n LS_ALPHAn. -/
def State.qeSet (s : State) (i : Nat) : Nat := s.blockSetting .queueEngine (ekey 0x3000 i) (ekey 0x3000 (0x20 + i))

/-- K in force: an engine that the quick test has failed stays without a pool (R299). -/
def State.poolK (s : State) : Nat := if s.qe.failed then 0 else s.qeSet 3

/-- Blocks of a pool with sub-pools of `k` cells (R234). -/
def poolBlocks (v : Variant) (k : Nat) : Nat := slices v * 67 * k / 16

/-- A block lies in the pool in force (R236). -/
def State.inPool (s : State) (b : Nat) : Bool :=
  decide (s.qeSet 2 ≤ b) && decide (b < s.qeSet 2 + poolBlocks s.variant s.poolK)

/-! ### Receipt checks (R107) -/

/-- Every request is refused: an orderly stop, test hold, or the wipe of a return (R107, R302, R328, R420). -/
def State.refusing (s : State) : Bool :=
  decide (s.therm.stop ≠ 0) || s.therm.testHeld

/-- The status with which R107 refuses a memory request for some blocks, in the order of its list. -/
def State.refuseMem (s : State) (blocks : List Nat) : Option Nat :=
  let at_ := fun b => decodeAddr s.map b
  if s.refusing then some 3
  else if blocks.any (fun b => (at_ b).any (fun x => decide ((s.chan x.1).st = .blockReset))) then some 3
  else if blocks.any (fun b => (at_ b).all (fun x => s.retired x.1)) then some 4
  else if blocks.any s.inPool then some 5
  else none

/-- The status with which R107 refuses a queue command. -/
def State.refuseQueue (s : State) : Option Nat :=
  if s.variant = .axd3200 then some 5 else if s.refusing || s.inReset 2 0 then some 3 else none

/-- Tags outstanding on a link (R105). -/
def State.tagsOut (s : State) (n : Nat) : List Nat :=
  let l := s.link n
  l.resp.map Resp.tag ++ l.qout.map DeqOut.tag ++ l.tx.msgTags ++
    (l.enqs.filter (fun j => !j.silent)).map EnqJob.tag ++ (l.deqs.filter (fun d => !d.silent)).map DeqJob.tag ++
    (s.port n).qcmds.map QCmd.tag

/-- A request may carry this tag (R100). -/
def State.tagOk (s : State) (n tag : Nat) : Bool := decide (tag < 384) && !(s.tagsOut n).contains tag

/-- The link receives requests. -/
def State.takesRequests (s : State) (n : Nat) : Bool :=
  s.linkLive n && decide ((s.link n).st = .active ∨ (s.link n).st = .laneSwitch)

/-- Put a completion into the response buffer of a link (R113). -/
def State.pushResp (s : State) (n : Nat) (r : Resp) : State := s.modLink n (fun l => { l with resp := l.resp ++ [r] })

/-- Answer a request without executing it (R106, R118) (DEDUCED, log entry 43). -/
def State.noExec (s : State) (n tag opc status : Nat) : State :=
  s.pushResp n { tag := tag, opc := 0x9F, status := status, value := BitVec.ofNat 32 opc, entered := s.now }

/-! ### The credit of a request flit (R101) -/

/-- REQ flits in the holding queue of a port: a request flit while one of its requests is held, and the data flits. -/
def Port.flits (p : Port) : Nat :=
  (((p.held.filter (fun h => h.engine.isNone)).map Held.grp ++ p.qcmds.map QCmd.grp).dedup).length +
    ((p.held.filter (fun h => h.engine.isNone)).map (fun h => reqData h.opc)).sum

/-- Return the credit of a request flit once none of its requests waits. -/
def State.closeGroup (s : State) (n grp : Nat) : State :=
  let p := s.port n
  if p.held.any (fun h => h.engine.isNone && decide (h.grp = grp)) || p.qcmds.any (fun q => decide (q.grp = grp)) then s
  else s.returnReq n 1

/-- A request has left its holding queue: the credits of its data flits and, with the last of its flit, that flit's
(R74, R101). For an engine write the credits are those of the QDAT flits taken (R242, R247). -/
def State.leftPort (s : State) (p : Nat) (h : Held) : State :=
  match h.engine with
  | some n => if h.opc = 0x12 then s.returnQdat n h.word else s
  | none =>
    let s := if reqData h.opc = 0 then s else s.returnReq p (reqData h.opc)
    s.closeGroup p h.grp

/-! ### Memory requests -/

/-- OPC of the completion of a request (Table 1). -/
def rspOf (opc : Nat) : Nat :=
  if opc = 0x10 then 0x90 else if opc = 0x11 then 0x91 else if opc = 0x12 ∨ opc = 0x13 then 0x92 else 0x94

/-- The blocks that a memory request touches (R108). -/
def Held.blocks (h : Held) : List Nat :=
  if h.opc = 0x11 then [h.block / 2 * 2, h.block / 2 * 2 + 1] else [h.block]

/-- The channels of a memory request. -/
def State.chansOf (s : State) (h : Held) : List Nat :=
  (h.blocks.filterMap (fun b => (decodeAddr s.map b).map Prod.fst)).dedup

/-- A memory request is received (R105, R107, R137): it is refused, or held for admission with its completion slot taken
in issue order. Its request flit is accounted for by `closeGroup`. -/
def State.receiveMem (s : State) (n : Nat) (h : Held) : State :=
  let ret := fun (t : State) => if reqData h.opc = 0 then t else t.returnReq n (reqData h.opc)
  match s.refuseMem h.blocks with
  | some st => ret (s.noExec n h.tag h.opc st)
  | none =>
    let s := s.pushResp n { tag := h.tag, opc := rspOf h.opc, chans := s.chansOf h, need := (s.chansOf h).length,
                            entered := s.now, cls := some h.cls }
    let s := s.modPort n (fun p => { p with held := p.held ++ [{ h with entered := s.now }] })
    s.peak (portKey n 4) (s.port n).flits 65535

/-- A queue command is received (R107, R117): it is refused, or waits at its port. -/
def State.receiveQueue (s : State) (n : Nat) (q : QCmd) : State :=
  match s.refuseQueue with
  | some st => s.noExec n q.tag q.opc st
  | none =>
    let s := s.modPort n (fun p => { p with qcmds := p.qcmds ++ [q] })
    s.peak (portKey n 4) (s.port n).flits 65535

/-- The next flit number (DESIGN CHOICE, log entry 145). -/
def State.newGroup (s : State) : Nat × State := (s.reg.nextGrp, { s with reg := { s.reg with nextGrp := s.reg.nextGrp + 1 } })

/-- A memory request that comes in a request flit of its own. -/
def State.memRequest (s : State) (n : Nat) (h : Held) : State :=
  if s.takesRequests n then
    if s.tagOk n h.tag then
      let (g, s) := s.newGroup
      (s.receiveMem n { h with grp := g }).closeGroup n g
    else s.protocolError n
  else s

/-- A queue command that comes in a request flit of its own. -/
def State.queueRequest (s : State) (n tag opc queue : Nat) : State :=
  if s.takesRequests n then
    if s.tagOk n tag then
      let (g, s) := s.newGroup
      (s.receiveQueue n { tag := tag, opc := opc, queue := queue, grp := g }).closeGroup n g
    else s.protocolError n
  else s

/-- A request of a request flit as it is held; `d` are its data flits (R98). -/
def State.heldOf (s : State) (r : ReqSlot) (d : List Flit) (g : Nat) : Held :=
  let x := r.head
  { tag := tagOf x, opc := opcOf x, cls := s.labelSet (labelOf x), block := slotField x 29 0,
    psn := decide (opcOf x = 0x12 ∨ opcOf x = 0x13) && nbit x.toNat 38,
    word := if opcOf x = 0x14 ∨ opcOf x = 0x15 then slotField x 37 34 else 0,
    mask := if opcOf x = 0x13 then r.second else 0,
    operand := if opcOf x = 0x14 ∨ opcOf x = 0x15 then r.second.setWidth 32 else 0,
    data := flitsBlock (d.getD 0 {}) (d.getD 1 {}), grp := g }

/-- The requests of a message one after another (R112). -/
def State.receiveReqs (s : State) (n g : Nat) : List ReqSlot → List Flit → State
  | [], _ => s.closeGroup n g
  | r :: rs, d =>
    let opc := opcOf r.head
    let k := reqData opc
    let s := if 0x18 ≤ opc then
        s.receiveQueue n { tag := tagOf r.head, opc := opc, queue := slotField r.head 15 0, grp := g }
      else s.receiveMem n (s.heldOf r (d.take k) g)
    s.receiveReqs n g rs (d.drop k)

/-- A REQ message (R98, R100): a bad or outstanding tag makes it a protocol error. -/
def State.reqMessage (s : State) (n : Nat) (msg : List Flit) : State :=
  match parseReqs (Flit.slots (msg.headD {})) with
  | none => s.protocolError n
  | some rs =>
    let tags := rs.map (fun r => tagOf r.head)
    if tags.all (s.tagOk n) && decide tags.Nodup then
      let (g, s) := s.newGroup
      s.receiveReqs n g rs msg.tail
    else s.protocolError n

/-! ### Completions -/

/-- Change the completion of a tag. -/
def State.modResp (s : State) (n tag : Nat) (f : Resp → Resp) : State :=
  s.modLink n (fun l => { l with resp := l.resp.map (fun r => if r.tag = tag then f r else r) })

/-- A part of a memory request has executed: status, data flits and value (R106). `half` is 2 for the second half of an
RD128. A refusal of the other half stands (R118). -/
def Resp.done (r : Resp) (half status psn : Nat) (value : BitVec 32) (flits : List Flit) : Resp :=
  if r.opc = 0x9F then { r with need := r.need - 1 }
  else { r with
    need := r.need - 1, status := Nat.max r.status status, flitPsn := r.flitPsn ||| psn, value := value,
    first := if half = 2 then r.first else flits, flits := if half = 2 then flits else r.flits }

/-- A part of a memory request is refused (R118): RETRY_UNAVAILABLE takes precedence over ADDR_UNAVAILABLE
(DEDUCED, log entry 45). -/
def Resp.refuse (r : Resp) (opc status : Nat) : Resp :=
  { r with
    need := r.need - 1, opc := 0x9F, flitPsn := 0, value := BitVec.ofNat 32 opc, first := [], flits := [], cls := none,
    status := if r.opc = 0x9F then Nat.min r.status status else status }

/-- Refuse a held request: it leaves its holding queue unexecuted. -/
def State.refuseOne (s : State) (n status : Nat) (h : Held) : State :=
  let s := s.modPort n (fun p => { p with held := p.held.erase h })
  (s.modResp n h.tag (fun r => ({ r with need := 1 }).refuse h.opc status)).leftPort n h

/-- Refuse every held request of a port that satisfies a test, one after another (Table 12). -/
def State.refuseHeld (s : State) (n status : Nat) (f : Held → Bool) : State :=
  ((s.port n).held.filter (fun h => h.engine.isNone && f h)).foldl (fun s h => s.refuseOne n status h) s

/-- Refuse the queue commands that wait at a port, one after another (Table 12). -/
def State.refuseQcmds (s : State) (n status : Nat) : State :=
  (s.port n).qcmds.foldl (fun s q =>
    let s := s.modPort n (fun p => { p with qcmds := p.qcmds.erase q })
    (s.noExec n q.tag q.opc status).closeGroup n q.grp) s

/-- Refuse the entries of a channel queue that are requests of links (Table 12). -/
def State.refuseQueued (s : State) (m status : Nat) : State :=
  let c := s.chan m
  let out := c.queue.filter (fun e => e.req.engine.isNone)
  let s := s.setChan m { c with queue := c.queue.filter (fun e => e.req.engine.isSome) }
  out.foldl (fun s e => s.modResp e.port e.req.tag (fun r => r.refuse e.req.opc status)) s

/-- The engine's accesses in a channel queue that is reset go back to the front of their slices' ports, in order, to be
issued again (R175, R248); the credits of their flits have returned already. -/
def State.reissue (s : State) (m : Nat) : State :=
  let c := s.chan m
  let out := c.queue.filter (fun e => e.req.engine.isSome)
  let s := s.setChan m { c with queue := c.queue.filter (fun e => e.req.engine.isNone) }
  out.reverse.foldl (fun s e => s.modPort e.port (fun p =>
    { p with held := (if e.req.opc = 0x12 then { e.req with word := 0 } else e.req) :: p.held })) s

/-! ### Packets that leave the queue engine (R103, R219, R243) -/

/-- Change a slice. -/
def State.modSlice (s : State) (i : Nat) (f : QSlice → QSlice) : State := s.setSlice i (f (s.slice i))

/-- Count in an engine counter. -/
def State.qcount (s : State) (sub n : Nat) : State := s.count (ekey 0x3000 sub) n

/-- The data flits of a packet, with the bytes beyond its length zero (R97). -/
def trimFlits (len : Nat) (fs : List Flit) : List Flit :=
  let n := packetFlits len
  ((List.range n).zip fs).map (fun x =>
    if 32 * x.1 + 32 ≤ len then x.2
    else (bytesFlits 1 ((flitBytes x.2).take (len - 32 * x.1))).headD {})

/-- Number of bits set in a mask of 64 cells. -/
def bitsSet (v : Nat) : Nat := ((List.range 64).filter (fun i => nbit v i)).length

/-- Put a DEQ_RSP into the QDAT output buffer of a link. -/
def State.pushDeq (s : State) (n : Nat) (d : DeqOut) : State := s.modLink n (fun l => { l with qout := l.qout ++ [d] })

/-- The flits of a packet whose cells have been read: blocks not read are zeros (R249). -/
def DeqJob.flits (d : DeqJob) : List Flit :=
  trimFlits d.len ((List.range ((d.len + 63) / 64)).flatMap (fun j => blockFlits (mget 0 d.blocks j)))

/-- Every read of a DEQ has executed: the DEQ_RSP carries its packet, with POISON where a cell is poisoned or the chain broke
(R219, R243, R249). After a link reset the packet is discarded (R93). -/
def State.finishDeq (s : State) (n : Nat) (d : DeqJob) : State :=
  let s := s.modLink n (fun l => { l with deqs := l.deqs.filter (fun x => decide (x.id ≠ d.id)) })
  if d.silent then s
  else ((s.qcount 0x93 1).qcount 0x95 (bitsSet d.cellPsn)).pushDeq n
    { tag := d.tag, status := b2n (decide (d.cellPsn ≠ 0) || !d.give), len := d.len, label := d.label, queue := d.queue,
      cellPsn := BitVec.ofNat 64 d.cellPsn, flits := d.flits }

/-- A cell returns to the cache of its slice, or waits while the cache is full (R238). -/
def QSlice.giveCell (y : QSlice) (l : Nat) : QSlice :=
  if y.cache.length < 4096 ∧ y.backlog = [] then { y with cache := l :: y.cache } else { y with backlog := y.backlog ++ [l] }

/-- A cell comes back to a slice. -/
def State.giveCell (s : State) (i l : Nat) : State :=
  let s := s.modSlice i (fun y => y.giveCell l)
  { s with qe := { s.qe with due := true } }

/-- A block read of a DEQ has executed: the block takes its place in the packet, and the cell returns to the cache once its
reads have executed (R243). -/
def State.cellRead (s : State) (n id j : Nat) (o : ReadOut) : State :=
  match (s.link n).deqs.find? (fun d => decide (d.id = id)) with
  | none => s
  | some d =>
    let c := j / 4
    let d := { d with
      left := d.left.set c (d.left.getD c 0 - 1), blocks := mset 0 d.blocks j (BitVec.ofNat 512 o.data)
      cellPsn := if o.poisoned then nset d.cellPsn c true else d.cellPsn }
    let s := if d.left.getD c 0 = 0 && d.give then
        s.giveCell (d.queue % slices s.variant) (d.cells.getD c 0) else s
    if d.left.all (fun k => decide (k = 0)) then s.finishDeq n d
    else s.modLink n (fun l => { l with deqs := l.deqs.map (fun x => if x.id = id then d else x) })

/-- One cell write of an ENQ has executed, or has been discarded (R242, R248). -/
def State.cellWritten (s : State) (n id : Nat) : State :=
  s.modLink n (fun l => { l with enqs := l.enqs.map (fun j =>
    if j.id = id then { j with writesLeft := j.writesLeft - 1 } else j) })

/-- An access of the engine has executed, with what it read. -/
def State.engineDone (s : State) (h : Held) (o : ReadOut) : State :=
  if h.opc = 0x12 then s.cellWritten (h.engine.getD 0) h.grp else s.cellRead (h.engine.getD 0) h.grp h.word o

end Sys2Proof.Machine
end

