-- ==== Sys2Proof/Machine/Refresh.lean ====
section
/-!
DEFINITION. Refresh: per-bank refresh, refresh debt and its conversion (R182–R193), the service of pending rows
(R197–R199), and self-refresh: entry, its commit point, exit and the forced state (R169–R177).
-/

namespace Sys2Proof.Machine

/-! ### When a channel can do anything -/

/-- The CHAN domain and the channels run: outside a chip reset, in P0–P3, not tripped (R363, R333). -/
def State.chanClocked (s : State) : Bool :=
  decide (s.boot = .up) && decide (s.power.st ≤ 3) && !s.therm.trip

/-- The FABRIC domain runs: outside a chip reset, in P0–P2, not tripped (R363, R333). -/
def State.fabricClocked (s : State) : Bool :=
  decide (s.boot = .up) && decide (s.power.st ≤ 2) && !s.therm.trip

/-- The channels and their layers are powered and clocked, through the phases of the quick test too (R184, R262, R363). -/
def State.chanPowered (s : State) : Bool :=
  decide (s.boot ∉ [.held, .sensing, .jointFailed, .voidStop]) && decide (s.power.st ≤ 3) && !s.therm.trip

/-- The layer of a channel has its clock (R263). -/
def State.layerClocked (s : State) (m : Nat) : Bool := (s.layer (s.home m)).locked

/-- The controller can issue refresh commands to the layer. -/
def State.chanRefreshes (s : State) (m : Nat) : Bool :=
  s.chanPowered && decide (m < enabled s.variant) && decide ((s.chan m).st = .serving) && !(s.chan m).stopped &&
    !(s.chan m).interimStop && s.layerClocked m && !s.clk.nrLayer.getLsbD m

/-- The channel can issue commands to its layer; those of an open burst go first (R189). -/
def State.chanRuns (s : State) (m : Nat) : Bool :=
  s.chanClocked && decide (m < enabled s.variant) && decide ((s.chan m).st = .serving) && !(s.chan m).stopped &&
    !(s.chan m).interimStop && decide ((s.chan m).ref.burst = []) && !s.clk.nrLayer.getLsbD m

/-- The commands of an entry that the layer corrected, and those that were reissued (R257) (DESIGN CHOICE, log entry 160). -/
def State.caCount (s : State) (m : Nat) (env : ChanEnv) : State :=
  (s.count (chanKey m 0xC5) env.caCorr).count (chanKey m 0xC6) env.caBad

/-- The layer of the channel refreshes itself (R173, R175). -/
def Chan.asleep (c : Chan) : Bool := decide (c.st = .inSr ∨ c.st = .blockReset)

/-- Entries of the lookahead window: 8, or 2 in DETERMINISTIC (R164). -/
def State.lookahead (s : State) : Nat := if s.profile = .deterministic then 2 else 8

/-- The banks that an entry of a channel queue targets. -/
def QEntry.banks (e : QEntry) : List Nat := bankOf e.h :: (e.h2.map bankOf).toList

/-- The head entry or an entry of the window targets a bank (R188). -/
def State.targeted (s : State) (m k : Nat) : Bool :=
  ((s.chan m).queue.take s.lookahead).any (fun e => e.banks.contains k)

/-! ### Per-bank refresh (R182, R183, R197) -/

/-- Free the entries of a table that hold one of four rows. -/
def ActTab.free4 (t : ActTab) (w : Nat) : ActTab :=
  { t with rows := t.rows.map (fun e => match e with
      | some (v, n) => if w ≤ v ∧ v < w + 4 then none else some (v, n)
      | none => none) }

/-- A pointer wraps to row 0: the spill values move on (R197). -/
def ActTab.wrap (t : ActTab) : ActTab := { t with spillPrev := t.spillCur, spillCur := 0 }

/-- Four rows of a bank are refreshed, whoever does it: pointer and table advance (R182, R197). -/
def Chan.refreshBank (c : Chan) (k : Nat) : Chan :=
  let w := mget 0 c.ref.ptr k
  let t := (mget {} c.ref.tabs k).free4 w
  let w' := (w + 4) % 32768
  let t := if w' = 0 then t.wrap else t
  { c with ref := { c.ref with ptr := mset 0 c.ref.ptr k w', tabs := mset {} c.ref.tabs k t } }

/-- Four rows of NEXT_BANK are refreshed, and the rotation advances. -/
def Chan.refreshNext (c : Chan) : Chan :=
  let d := c.refreshBank c.ref.nextBank
  { d with ref := { d.ref with nextBank := (c.ref.nextBank + 1) % 16 } }

/-- One unit of debt in quanta (R187). -/
def Chan.unit (c : Chan) : Nat := if c.ref.fast then 1 else 2

/-- The controller issues one refresh command: its bank is precharged first, and one unit is paid. -/
def State.refreshCmd (s : State) (m : Nat) : State :=
  let c := s.chan m
  let k := c.ref.nextBank
  let c := { c with openRows := mdel c.openRows k, ref := { c.ref with debt := c.ref.debt - c.unit } }
  ((s.setChan m c.refreshNext).count (chanKey m 0x84) 1).countActs m 1

/-- Issue `n` refresh commands. -/
def State.refreshCmds (s : State) (m : Nat) : Nat → State
  | 0 => s
  | n + 1 => (s.refreshCmd m).refreshCmds m n

/-- The debt above 8 units turns into a burst: one command per unit to the next banks in rotation, which NEXT_BANK passes
(R189). Its commands issue one by one (DEDUCED, log entry 64). -/
def State.burst (s : State) (m : Nat) : State :=
  let c := s.chan m
  let k := c.ref.debt / c.unit - 8
  if k = 0 then s
  else (s.setChan m { c with ref := { c.ref with
    debt := c.ref.debt - k * c.unit, nextBank := (c.ref.nextBank + k) % 16
    burst := c.ref.burst ++ (List.range k).map (fun i => (c.ref.nextBank + i) % 16) } }).count (chanKey m 0x87) 1

/-- The bank of the next command of an open burst: the first one with no row open, since a bank that waits for its
precharge holds back no other; where all wait, the first (R189). -/
def Chan.burstBank (c : Chan) : Nat :=
  (c.ref.burst.find? (fun k => (mfind c.openRows k).isNone)).getD (c.ref.burst.headD 0)

/-- A command of the open burst issues. -/
def State.burstCmd (s : State) (m : Nat) : State :=
  let c := s.chan m
  let k := c.burstBank
  let c := { c with openRows := mdel c.openRows k, ref := { c.ref with burst := c.ref.burst.erase k } }
  (((s.setChan m (c.refreshBank k)).count (chanKey m 0x84) 1).count (chanKey m 0x86) 1).countActs m 1

/-- `n` commands of the open burst issue. -/
def State.burstCmds (s : State) (m : Nat) : Nat → State
  | 0 => s
  | n + 1 => (s.burstCmd m).burstCmds m n

/-- The commands of an open burst that have not issued return to the debt, and NEXT_BANK to the first of their banks (R193). -/
def Chan.returnBurst (c : Chan) : Chan :=
  { c with ref := { c.ref with
    debt := c.ref.debt + c.ref.burst.length * c.unit, nextBank := c.ref.burst.headD c.ref.nextBank, burst := [] } }

/-- Pay the whole debt, an open burst first, as a forced entry does (R174). -/
def State.payDebt (s : State) (m : Nat) : State :=
  let s := s.burstCmds m (s.chan m).ref.burst.length
  let c := s.chan m
  s.refreshCmds m ((c.ref.debt + c.unit - 1) / c.unit)

/-! ### Debt (R184, R187, R190, R192) -/

/-- The rate that mode and zone ask for: true is 2× (Table 2, R185). -/
def State.rateWanted (s : State) (m : Nat) : Bool :=
  let mode := s.blockSetting (.channel m) (ekey 0x1400 0x01) (ekey 0x1400 0x21)
  if mode = 2 then true else if mode = 1 then decide (2 ≤ s.therm.zone) else decide (1 ≤ s.therm.zone)

/-- A due event of the channel's refresh timer. -/
def State.refreshDue (s : State) (m : Nat) : State :=
  let c := s.chan m
  if !(s.chanPowered && decide (m < enabled s.variant) && c.ref.running && decide (c.st ≠ .retired)) then s
  else
    let c := { c with ref := { c.ref with
      quantum := if c.ref.fast then c.ref.quantum + 1 else (c.ref.quantum / 2 + 1) * 2 } }
    if c.asleep && s.layerClocked m then s.setChan m c.refreshNext
    else
      let postponed := decide (c.unit ≤ c.ref.debt)
      let c := { c with ref := { c.ref with debt := c.ref.debt + c.unit } }
      let s := s.setChan m c
      let s := if postponed then s.count (chanKey m 0x85) 1 else s
      let s := s.peak (chanKey m 0x83) c.ref.debt 65535
      if decide (c.st = .serving ∨ c.st = .entering) && !c.stopped && s.layerClocked m then s.burst m else s

/-- SCHEDULED_REFRESH: a refresh command issues, the next one of an open burst (R189), else a scheduled one to NEXT_BANK
(R188). -/
def State.scheduledRefresh (s : State) (m : Nat) (env : ChanEnv) : State :=
  let c := s.chan m
  if !s.chanRefreshes m then s
  else if c.ref.burst ≠ [] then (s.burstCmd m).caCount m env
  else if decide (c.unit ≤ c.ref.debt) && !s.targeted m c.ref.nextBank then (s.refreshCmd m).caCount m env
  else s

/-- REFRESH_RATE follows once every channel that is not retired has changed (R186). -/
def State.rateSettle (s : State) : State :=
  match (chanNums s).filter (fun m => !s.retired m) with
  | [] => s
  | m :: r =>
    let fast := (s.chan m).ref.fast
    let v := if fast then 2 else 1
    if r.all (fun j => decide ((s.chan j).ref.fast = fast)) && decide (s.rget (ekey 0x1400 0x30) ≠ v) then
      (s.rset (ekey 0x1400 0x30) v).count (ekey 0x1400 0x31) 1
    else s

/-- The rate changes at a channel: an open burst returns to the debt, the debt is converted in the cycle of the change, and a channel in self-refresh passes
the change to its layer (R186, R192, R193). REFRESH_RATE follows the last channel. -/
def State.rateChange (s : State) (m : Nat) : State :=
  let c := s.chan m
  let fast := s.rateWanted m
  if !(s.chanPowered && decide (m < enabled s.variant) && decide (c.st ≠ .retired)) || decide (c.ref.fast = fast) then s
  else
    let c := c.returnBurst
    let debt := if fast then c.ref.debt else (c.ref.debt + 1) / 2 * 2
    let s := (s.setChan m { c with ref := { c.ref with fast := fast, debt := debt } }).peak (chanKey m 0x83) debt 65535
    let s := if decide (c.st = .serving ∨ c.st = .entering) && !c.stopped && s.layerClocked m then s.burst m else s
    s.rateSettle

/-! ### Maintenance entries (R161, R198, R199) -/

/-- A maintenance entry may run: the channel serves, and of the last 8 entries none was one, or no request waits. -/
def State.mayMaintain (s : State) (m : Nat) : Bool :=
  let c := s.chan m
  s.chanRuns m && s.layerClocked m && (c.queue.isEmpty || decide (7 ≤ c.sinceMaint))

/-- A maintenance entry other than a neighbour refresh and a fill may run: those go first (R199, R216). -/
def State.mayRun (s : State) (m : Nat) : Bool :=
  s.mayMaintain m && decide ((s.chan m).ref.pending = []) && decide ((s.chan m).mem.fills = [])

/-- A maintenance entry has been served. -/
def State.maintained (s : State) (m : Nat) : State :=
  (s.modChan m (fun c => { c with sinceMaint := 0 })).count (chanKey m 0x65) 1

/-- A Sparge slice has moved this row to the kept spare (R305). -/
def Chan.underTest (c : Chan) (k w : Nat) : Bool :=
  match c.rep.slice with
  | some x => decide (x.bank = k) && decide (x.row = w) && decide (0 < x.entry)
  | none => false

/-- The physical row that an address selects (R284): repaired rows lie in the spare rows above row 32,767, the spare kept
for the Sparge (R278) highest (DEDUCED, log entry 75). -/
def Chan.physRow (c : Chan) (k w : Nat) : Nat :=
  if c.underTest k w then 32768 + 63
  else match mfind c.rep.remap (k * 32768 + w) with
    | some sp => 32768 + sp
    | none => w

/-- Physical rows of a bank: 32,768 and its 64 spare rows (R277). -/
def bankRows : Nat := 32832

/-- The physical rows within a distance of a row. -/
def neighbours (p radius : Nat) : List Nat :=
  ((List.range radius).flatMap (fun d => (if d + 1 ≤ p then [p - (d + 1)] else []) ++ [p + (d + 1)])).filter
    (fun q => decide (q < bankRows))

/-- The first pending row is served, and `rest` stays pending (R198). -/
def State.serveRow (s : State) (m k w : Nat) (rest : List (Nat × Nat)) : State :=
  let c := s.chan m
  let t := mget {} c.ref.tabs k
  let t := match rowCount w t.rows with
    | some n => { t with rows := setCount w (n - s.rhThreshold m) t.rows }
    | none => t
  let rows := neighbours (c.physRow k w) (s.rhRadius m)
  let s := s.setChan m { c with openRows := mdel c.openRows k, ref := { c.ref with
    tabs := mset {} c.ref.tabs k t, pending := rest, forced := c.ref.forced && decide (8 < rest.length) } }
  ((s.maintained m).count (chanKey m 0x89) rows.length).countActs m rows.length

/-- The rows of a list that stand first among the pending ones are served one after another. -/
def State.serveRows (s : State) (m : Nat) : List (Nat × Nat) → State
  | [] => s
  | (k, w) :: rest => (s.serveRow m k w rest).serveRows m rest

/-- A neighbour refresh: the first pending row is served (DEDUCED, log entry 65). Forced fill service starts none, and forced
neighbour service goes before it (DEDUCED, log entry 156). -/
def State.neighbourRefresh (s : State) (m : Nat) (env : ChanEnv) : State :=
  let c := s.chan m
  match c.ref.pending with
  | [] => s
  | (k, w) :: rest =>
    if (s.mayMaintain m && !c.forcedFill) || (c.ref.forced && s.chanRuns m && s.layerClocked m) then
      (s.serveRow m k w rest).caCount m env
    else s

/-! ### Self-refresh (R169–R177) -/

/-- PASR_MASK in force at a channel. -/
def State.pasr (s : State) (m : Nat) : Nat := s.blockSetting (.channel m) (chanKey m 0x02) (chanKey m 0x22)

/-- An address lies in an eighth that a mask retains. -/
def kept (mask h : Nat) : Bool := nbit mask (h / 2 ^ 20)

/-- Clear the region bits of the eighths that a mask does not retain, and drop their fill marks; the contents of their blocks
are lost, and read as the free value of number `n` (R170, R176, R216) (DESIGN CHOICE, log entry 155). -/
def Chan.dropEighths (c : Chan) (mask n : Nat) : Chan :=
  let fills := c.mem.fills.filter (fun r => nbit mask (r / 1024))
  let gone := (c.mem.arr.filter (fun e => !kept mask e.1)).map Prod.fst
  { c with mem := { c.mem with
             rmap := c.mem.rmap.filter (fun e => nbit mask (e.1 / 1024)), fills := fills
             arr := c.mem.arr.filter (fun e => kept mask e.1), arrT := c.mem.arrT.filter (fun e => kept mask e.1)
             lost := gone.foldl (fun l h => mset 0 l h (n + 1)) c.mem.lost }
           forcedFill := c.forcedFill && decide (48 < fills.length) }

/-- SRE: the commit point. -/
def State.sre (s : State) (m : Nat) (st : ChanState) : State :=
  let s := s.modChan m (fun c => { (c.dropEighths (s.pasr m) s.free) with
    st := st, retained := s.pasr m, openRows := [], srSince := s.now })
  (if s.pasr m = 0xFF then s else s.tick).count (chanKey m 0x67) 1

/-- The idle time in force: in ECONOMY at most 512 ns, 0 disables (R21, R23, R169). -/
def State.idleTime (s : State) (m : Nat) : Nat :=
  let t := s.blockSetting (.channel m) (chanKey m 0x01) (chanKey m 0x21)
  if s.profile = .economy then Nat.min t 512 else t

/-- IDLE_TIMER_EXPIRY: automatic entry begins; with a row open its commit point comes 30 FABRIC cycles later, else in the
next (Table 3). -/
def State.idleExpiry (s : State) (m : Nat) : State :=
  let c := s.chan m
  if s.chanRuns m && s.layerClocked m && decide (s.idleTime m ≠ 0) && decide (c.queue = []) && decide (c.ref.debt = 0) &&
      decide (c.rep.slice = none) && decide (c.rep.evac = 0) && !c.interim && decide (c.ref.burst = []) then
    s.setChan m { c with st := .entering, openRows := [], srSince := s.now + (if c.openRows = [] then 1 else 30) }
  else s

/-- The commit point of an entry that has not been cancelled. A due event that fell within the entry is refreshed first, since
entry requires zero debt (R173, R190) (DEDUCED, log entry 157); a Sparge slice that has started meanwhile ends the entry
(DEDUCED, log entry 165). -/
def State.entryCommit (s : State) (m : Nat) : State :=
  let c := s.chan m
  if c.st = .entering ∧ c.srSince ≤ s.now then
    (if c.rep.slice.isSome then s.setChan m { c with st := .serving }
     else (if s.layerClocked m then s.payDebt m else s).sre m .inSr)
  else s

/-- SRX: the exit begins; SR_TIME takes the time from SRE when the first array command issues (Table 4); `full` when a full Steep window takes the place of the exit check (R172, R175)
(DESIGN CHOICE, log entry 67). -/
def State.srx (s : State) (m : Nat) (full : Bool) : State :=
  let c := s.chan m
  let s := s.setChan m { c with st := .exiting, fullExit := full, exitFrom := s.now, forced := false,
                                srTime := (s.now - c.srSince) / 2 }
  s.count (chanKey m 0x69) 1

/-- An engine write waits for the channel in a holding queue of the engine (R149). -/
def State.engineWaits (s : State) (m : Nat) : Bool :=
  (List.range (slices s.variant)).any (fun i => (s.port (128 + i)).held.any (fun h => (s.chansOf h).contains m))

/-- A slice is aborted: E9 as in Table 5 puts the row back, and the position is kept (R311). Rows that are pending go before
that entry (R199). -/
def State.abortSlice (s : State) (m : Nat) : State :=
  match (s.chan m).rep.slice with
  | none => s
  | some x =>
    let s := if 0 < x.entry then ((s.serveRows m (s.chan m).ref.pending).activate m x.bank x.row).maintained m else s
    let s := s.modChan m (fun c => { c with
      openRows := mdel c.openRows x.bank, rep := { c.rep with slice := none } })
    s.count (chanKey m 0xF3) 1

/-- A forced entry, once the channel has completed its work: a slice is aborted (Table 7 of the self-test chapter), the debt
is paid and SRE issues (R174). While a failed site awaits its substitution window the entry waits for it (R272, Table 3 of
the vertical chapter). -/
def State.forceNow (s : State) (m : Nat) : State :=
  let c := s.chan m
  if c.forced && decide (c.st = .serving ∨ c.st = .entering) && decide (c.queue = []) && !c.stopped &&
      !s.engineWaits m && !c.interim then
    let s := if s.layerClocked m then (s.abortSlice m).payDebt m else s
    s.sre m .inSr
  else s

/-- Another chapter forces a channel into self-refresh (R174). -/
def State.force (s : State) (m : Nat) : State :=
  if s.retired m || !decide (m < enabled s.variant) then s
  else (s.modChan m (fun c => { c with forced := true })).forceNow m

/-- The forcing chapter ends the state: the exit of Table 4 follows. -/
def State.unforce (s : State) (m : Nat) : State :=
  let s := s.modChan m (fun c => { c with wasForced := false })
  let c := s.chan m
  if !c.forced then s
  else if c.st = .inSr then s.srx m false
  else s.setChan m { c with forced := false }

/-- An access that needs the array reaches a channel: an entry not yet committed is cancelled, and a channel in automatic
self-refresh begins its exit (R171, R172). -/
def State.wake (s : State) (m : Nat) (array : Bool) : State :=
  let c := s.chan m
  if c.forced then s
  else if c.st = .entering then (s.setChan m { c with st := .serving }).count (chanKey m 0x68) 1
  else if c.st = .inSr ∧ array ∧ ¬ c.stopped then s.srx m false
  else s

end Sys2Proof.Machine
end

