-- ==== Sys2Proof/Machine/Regulator.lean ====
section
/-!
DEFINITION. Regulator: shares (R140, R141), token counters and the admission of one FABRIC cycle (R142–R149), urgency
pins (R150–R153), deliverable bandwidth, admission control and shortfall (R154–R156), and accounting windows (R157–R159).
-/

namespace Sys2Proof.Machine

/-! ### Ports and shares (R140, R141) -/

/-- A port is active (R140). -/
def State.portActive (s : State) (p : Nat) : Bool :=
  decide (p < enabled s.variant) && decide ((s.link p).st ∈ [.active, .recover, .laneSwitch, .idle])

/-- Payload rate of a port, from host to stack, in Gbit/s (Table 1 of the link chapter). -/
def State.portGbit (s : State) (p : Nat) : Nat :=
  let l := s.link p
  if !s.portActive p then 0
  else if l.rxLanes % 4 = 3 then (if l.halfRate then 100 else 200)
  else if l.rxLanes % 4 = 0 then 0
  else if l.halfRate then 50 else 100

/-- Active ports of a host group. -/
def State.groupPorts (s : State) (g : Nat) : List Nat :=
  (linkNums s).filter (fun p => s.portActive p && decide (s.groupSet p = g))

/-- A class reserves something of its guarantee: GUARANTEED and REALTIME (Table 1). -/
def State.guarClass (s : State) (c : Nat) : Bool := decide (s.classSet c 1 ≤ 1)

/-- A pin is bound to the class (R150). -/
def State.bound (s : State) (c : Nat) : Bool := (List.range 16).any (fun p => decide (s.pinSet p = c))

/-- MIN_EFF: the guarantee after the shortfall (R156). -/
def State.minEff (s : State) (c : Nat) : Nat := s.classSet c 3 - mget 0 s.reg.minCut c

/-- The urgent part of a class (R155). -/
def State.urgPart (s : State) (c : Nat) : Nat :=
  if s.bound c then s.classSet c 7 - (if s.guarClass c then s.classSet c 3 else 0) else 0

/-- URG_CEIL_EFF (R156). -/
def State.urgEff (s : State) (c : Nat) : Nat :=
  if s.bound c then
    (if s.guarClass c then s.minEff c else 0) + (s.urgPart c - mget 0 s.reg.urgCut c)
  else s.classSet c 7

/-- The three rates of a class before shares (Table 2), in 0.1 GB/s, which is 0.1 bytes per ns. -/
def State.classRates (s : State) (c : Nat) : Nat × Nat × Nat :=
  let g := s.guarClass c
  (s.urgEff c, if g then s.minEff c else 0, if g then s.classSet c 4 - s.classSet c 3 else s.classSet c 4)

/-- The fraction of a class's rates that falls to a port, for the active ports and the slices. -/
def State.classShares (s : State) (c : Nat) : List (Nat × Rat) :=
  let mask := s.classSet c 6
  let groups := (List.range 8).filter (fun g => nbit mask g && decide (s.groupPorts g ≠ []))
  let engine := decide (s.qeSet 4 = c) && decide (s.poolK ≠ 0) && decide (slices s.variant ≠ 0)
  let n : Nat := groups.length + b2n engine
  let inGroup := groups.flatMap (fun g =>
    let ps := s.groupPorts g
    let total := (ps.map s.portGbit).sum
    ps.map (fun p => (p, (s.portGbit p : Rat) / (total : Rat) / (n : Rat))))
  inGroup ++ (if engine then (List.range (slices s.variant)).map (fun i => (128 + i, 1 / (slices s.variant : Rat) / (n : Rat)))
    else [])

/-- Key of a port and class. -/
def tokKey (p c : Nat) : Nat := p * 16 + c

/-- Depth of a counter (R142): the larger of 128 bytes and rate × BURST. -/
def depthOf (rate : Rat) (burst : Nat) : Rat := max 128 (rate * (burst : Rat))

/-- Clip the counters of a port and class to the depths of its rates. -/
def Tok.clip (t r : Tok) (burst : Nat) : Tok :=
  { u := min t.u (depthOf r.u burst), g := min t.g (depthOf r.g burst), e := min t.e (depthOf r.e burst) }

/-- SHARE_RECOMPUTE: the rates of every port and class (R141), in bytes per ns; the counters keep their content, clipped
to the new depth (R142). -/
def State.shareRecompute (s : State) : State :=
  let rates := (List.range 16).foldl (fun m c =>
    let (u, g, e) := s.classRates c
    (s.classShares c).foldl (fun m x =>
      mset {} m (tokKey x.1 c) { u := (u : Rat) / 10 * x.2, g := (g : Rat) / 10 * x.2, e := (e : Rat) / 10 * x.2 }) m) []
  let tok := s.reg.tok.foldl (fun m x => mset {} m x.1 (x.2.clip (mget {} rates x.1) (s.classSet (x.1 % 16) 8))) []
  { s with reg := { s.reg with rates := rates, tok := tok } }

/-! ### One FABRIC cycle (R142–R149) -/

/-- Cost of a request in bytes (R143). -/
def Held.cost (h : Held) : Nat :=
  if h.opc = 0x10 ∨ h.opc = 0x12 then 64
  else if h.opc = 0x13 ∧ (h.mask = 0 ∨ h.mask = BitVec.allOnes 64) then 64 else 128

/-- A counter gains half a ns of its rate, up to its depth. -/
def gain (t rate : Rat) (burst : Nat) : Rat := min (t + rate / 2) (depthOf rate burst)

/-- Every counter gains the share of one FABRIC cycle (R142). -/
def State.gainAll (s : State) : State :=
  let tok := s.reg.rates.foldl (fun m x =>
    let t := mget {} m x.1
    let b := s.classSet (x.1 % 16) 8
    mset {} m x.1 { u := gain t.u x.2.u b, g := gain t.g x.2.g b, e := gain t.e x.2.e b }) s.reg.tok
  { s with reg := { s.reg with tok := tok } }

/-- The class is urgent (R150). -/
def State.urgent (s : State) (c : Nat) : Bool :=
  (List.range 16).any (fun p => decide (s.pinSet p = c) && s.reg.urgLevel.getLsbD p)

/-- The head request of each class FIFO of a port (R144). -/
def Port.heads (p : Port) : List Held :=
  (List.range 16).filterMap (fun c => p.held.find? (fun h => decide (h.cls = c)))

/-- The earlier requests of a port than the one given, in order of receipt. -/
def before (h : Held) : List Held → List Held
  | [] => []
  | x :: r => if x = h then [] else x :: before h r

/-- The local addresses of a request with their channels. -/
def State.places (s : State) (h : Held) : List (Nat × Nat) := h.blocks.filterMap (decodeAddr s.map)

/-- A channel queue takes an entry: it has room, and its queue is in service (R145, R369). -/
def State.roomAt (s : State) (m : Nat) : Bool :=
  decide ((s.chan m).queue.length < 32) && decide ((s.chan m).st ∉ [.blockReset, .retired]) && !s.clk.nrChan.getLsbD m

/-- A head is eligible by R114 and R144, tokens apart. -/
def State.eligible (s : State) (p : Port) (h : Held) : Bool :=
  let ms := (s.places h).map Prod.fst
  ms.all s.roomAt &&
    (before h p.held).all (fun x => ((s.places x).map Prod.fst).all (fun m => !ms.contains m))

/-- Rank of a request and the counter that pays: 0 U, 1 and 2 G, 3 E; 4 is a request without tokens while a profile change
drains (R145, R147); the drain of a power change leaves the tokens asked for (R354). -/
def State.rankOf (s : State) (p : Nat) (h : Held) : Option Nat :=
  let c := h.cls
  let t := mget {} s.reg.tok (tokKey p c)
  let k : Rat := h.cost
  let ty := s.classSet c 1
  if s.urgent c ∧ k ≤ t.u then some 0
  else if ty = 1 ∧ k ≤ t.g then some 1
  else if ty = 0 ∧ k ≤ t.g then some 2
  else if k ≤ t.e then some 3
  else if s.dict.draining && !s.power.changing then some 4 else none

/-- Debit a request from the counter of its rank. -/
def Tok.debit (t : Tok) (rank cost : Nat) : Tok :=
  let k : Rat := cost
  if rank = 0 then { t with u := t.u - k }
  else if rank = 1 ∨ rank = 2 then { t with g := t.g - k }
  else if rank = 3 then { t with e := t.e - k } else t

/-- A candidate of a cycle: its port, its request and its rank. -/
structure Cand where
  port : Nat
  req : Held
  rank : Nat
deriving DecidableEq, Repr

/-- Those of a list whose measure is least. -/
def leastBy (f : Cand → Nat) (l : List Cand) : List Cand :=
  let m := (l.map f).foldl Nat.min ((l.map f).headD 0)
  l.filter (fun x => decide (f x = m))

/-- Those of a list whose measure is greatest. -/
def greatestBy (f : Cand → Nat) (l : List Cand) : List Cand :=
  let m := (l.map f).foldl Nat.max 0
  l.filter (fun x => decide (f x = m))

/-- The deadline of a request in ns (R145) (DEDUCED, log entry 46). -/
def State.deadline (s : State) (h : Held) : Nat := h.entered / 2 + s.classSet h.cls 5

/-- The winner at a channel among its candidates (R145, R148) (DEDUCED, log entry 48). -/
def State.winner (s : State) (m : Nat) (cs : List Cand) : Option Cand :=
  let best := leastBy Cand.rank cs
  let kept := if (best.headD ⟨0, { tag := 0, opc := 0, cls := 0, block := 0 }, 9⟩).rank = 1 then
      leastBy (fun c => s.deadline c.req) best
    else greatestBy (fun c => s.classSet c.req.cls 2) best
  match tieBreak (mget 0 s.reg.ptr m) (kept.map Cand.port) with
  | none => none
  | some p => kept.find? (fun c => decide (c.port = p))

/-- A request that reads the array or writes to it when it executes, as the region map stands (R163). -/
def State.needsArray (s : State) (h : Held) (places : List (Nat × Nat)) : Bool :=
  if h.opc = 0x10 ∨ h.opc = 0x11 then
    places.any (fun x => mget false (s.chan x.1).mem.rmap (regionOf x.2) || (s.chan x.1).mem.fills.contains (regionOf x.2))
  else !(decide (h.opc = 0x13) && decide (h.mask = 0))

/-- Put an entry into a channel queue, and wake the channel (R145, R171, R172). -/
def State.enqueue (s : State) (m : Nat) (e : QEntry) : State :=
  let s := s.modChan m (fun c => { c with queue := c.queue ++ [e] })
  let s := s.peak (chanKey m 0x66) (s.chan m).queue.length 255
  s.wake m (s.needsArray e.req ((m, e.h) :: (e.h2.map (fun h => (m, h))).toList))

/-- ACCT_WINDOW in force. -/
def State.acctWindow (s : State) : Nat := s.blockSetting .regulator (ekey 0x2300 0x40) (ekey 0x2300 0x41)

/-- The instant lies in the open accounting window, and in its successor, which begins with its last quarter (R157). -/
def State.inWindow (s : State) : Bool := decide (s.now < s.reg.winFrom + 2 * s.acctWindow)
def State.inNext (s : State) : Bool := decide (s.reg.winFrom + 3 * s.acctWindow / 2 ≤ s.now)

/-- The bytes that a request delivers are counted at its admission (R143, R157) (DEDUCED, log entry 47). -/
def State.deliver (s : State) (p c k : Nat) : State :=
  let s := s.count (classKey c 0x33) k
  let s := if p < 128 then s.count (portKey p (0x30 + c)) k else s
  let add := fun (on : Bool) (m : SMap Nat) => if on then mset 0 m c (mget 0 m c + k) else m
  { s with reg := { s.reg with winBytes := add s.inWindow s.reg.winBytes, nextBytes := add s.inNext s.reg.nextBytes } }

/-- Admit a winner: it leaves its holding queue, pays, and enters its channel queue or queues (R145, R146). -/
def State.admitWinner (s : State) (m : Nat) (w : Cand) : State :=
  let h := w.req
  let key := tokKey w.port h.cls
  let t := (mget {} s.reg.tok key).debit w.rank h.cost
  let s := { s with reg := { s.reg with tok := mset {} s.reg.tok key t, ptr := mset 0 s.reg.ptr m ((w.port + 1) % 136) } }
  let s := s.modPort w.port (fun p => { p with held := p.held.erase h })
  let s := s.leftPort w.port h
  let s := s.deliver w.port h.cls h.cost
  match s.places h with
  | [(a, x)] => s.enqueue a { port := w.port, req := h, h := x, admitted := s.now }
  | [(a, x), (b, y)] =>
    if a = b then s.enqueue a { port := w.port, req := h, h := x, h2 := some y, admitted := s.now }
    else
      (s.enqueue a { port := w.port, req := h, h := x, half := 1, admitted := s.now }).enqueue b
        { port := w.port, req := h, h := y, half := 2, admitted := s.now }
  | _ => s

/-- The parity-checked read of the committed tables: whether they can be used. Where the first copy has an error the second
is read; with both in error the regulator undergoes a block reset (Table 5 of the integrity chapter). -/
def State.tablesRead (s : State) : Bool × State :=
  let (p, s) := s.inject 4 4 0
  if p = 0 then (true, s)
  else
    let (q, s) := (s.sramError 3 0).inject 4 4 0
    if q = 0 then (true, s)
    else
      let s := s.sramError 3 0
      (false, { s with faults := { s.faults with blockReq := s.faults.blockReq ++ [(3, 0)] } })

/-- The parity-checked reads of an admission (Table 5 of the integrity chapter): of the committed tables, and of the holding
queue, whose error resets the link with cause 0xA and admits nothing. -/
def State.admitChecked (s : State) (m : Nat) (w : Cand) : State :=
  let (ok, s) := s.tablesRead
  if !ok then s else
  let (p0, s) := if w.port < 128 then s.inject 4 0 w.port else (0, s)
  if p0 = 0 then s.admitWinner m w else (s.sramError 0 w.port).linkReset w.port 0xA

/-- Count the classes that hold a request which counter G covers (R159). -/
def State.countHeld (s : State) : State :=
  let cs := (List.range 16).filter (fun c => s.guarClass c && s.ports.any (fun p =>
    p.2.held.any (fun h => decide (h.cls = c) && decide ((h.cost : Rat) ≤ (mget {} s.reg.tok (tokKey p.1 c)).g))))
  let add := fun (on : Bool) (m : SMap Nat) => if on then cs.foldl (fun m c => mset 0 m c (mget 0 m c + 1)) m else m
  { s with reg := { s.reg with winHeld := add s.inWindow s.reg.winHeld, nextHeld := add s.inNext s.reg.nextHeld } }

/-- The regulator gives no admission: its block reset runs (R373). -/
def State.regulatorStopped (s : State) : Bool := s.inReset 3 0

/-- REQUEST_ADMIT: one FABRIC cycle. Time passes, counters gain, entries that have reached their commit point commit, and
each channel admits at most one newly arbitrated request; the heads are those at the start of the cycle. -/
def State.requestAdmit (s : State) : State :=
  if !s.fabricClocked then s
  else
    let s := { s with now := s.now + 1 }
    let s := s.each (s.chans.map Prod.fst) State.entryCommit
    if s.regulatorStopped then s
    else
      let s := s.gainAll.countHeld
      let heads := s.ports.flatMap (fun p => (p.2.heads.filter (s.eligible p.2)).map (fun h => (p.1, h)))
      let at_ := fun (h : Held) => ((s.places h).map Prod.fst).head?
      s.each (chanNums s) (fun t m =>
        let cs := (heads.filter (fun x => decide (at_ x.2 = some m))).filterMap (fun x =>
          if (t.port x.1).held.contains x.2 && ((t.places x.2).map Prod.fst).all t.roomAt then (t.rankOf x.1 x.2).map (fun r => ⟨x.1, x.2, r⟩) else none)
        match t.winner m cs with
        | some w => t.admitChecked m w
        | none => t)

/-! ### Urgency pins (R150–R153) -/

/-- URG_PIN_EDGE: a transition of the synchronized pin. -/
def State.urgPinEdge (s : State) (p : Nat) : State :=
  if s.fabricClocked then
    let s := { s with reg := { s.reg with urgSync := vset s.reg.urgSync p (!s.reg.urgSync.getLsbD p) } }
    s.count (ekey 0x2300 (0x20 + p)) 1
  else s

/-- The level source URGENCY_STUCK follows the stuck pins. -/
def State.stuckLevel (s : State) : State :=
  let on := decide (s.reg.urgStuck ≠ 0)
  if s.faults.now.getLsbD 34 = on then s else s.setLevel 34 on

/-- URG_FILTER_CHANGE: the filter takes the level that the pin has held for 32 ns. -/
def State.urgFilter (s : State) (p : Nat) (level : Bool) : State :=
  if s.fabricClocked && decide (s.reg.urgSync.getLsbD p = level) && decide (s.reg.urgLevel.getLsbD p ≠ level) then
    let stuck := if level then s.reg.urgStuck else vset s.reg.urgStuck p false
    ({ s with reg := { s.reg with urgLevel := vset s.reg.urgLevel p level, urgStuck := stuck } }).stuckLevel
  else s

/-- URG_STUCK_DETECT: a bound pin has stayed asserted for URG_STUCK_TIME (R152). -/
def State.urgStuck (s : State) (p : Nat) : State :=
  if s.fabricClocked && s.reg.urgLevel.getLsbD p && decide (s.pinSet p ≠ 0xFF) &&
      decide (s.rget (ekey 0x2300 0x32) ≠ 0) && !s.reg.urgStuck.getLsbD p then
    let s := { s with reg := { s.reg with urgStuck := vset s.reg.urgStuck p true } }
    if s.faults.now.getLsbD 34 then s else s.setLevel 34 true
  else s

/-! ### Deliverable bandwidth and shortfall (R154–R156) -/

/-- H: channels of the map that are not retired. -/
def State.healthy (s : State) : Nat := (s.map.filter (fun m => !s.retired m)).length

/-- d in units of 0.1 % (Table 4). -/
def State.derate (s : State) : Nat :=
  (if s.rget (ekey 0x1400 0x30) = 2 then 60 else 30) + 3 + 2 + 100 * s.therm.step

/-- D in units of 0.1 GB/s for a profile, halves rounded up (R154). -/
def State.deliverable (s : State) (p : Profile) : Nat :=
  let f := if p = .deterministic then 72 else 82
  (2 * (s.healthy * 384 * f * (1000 - s.derate)) + 100000) / 200000

/-- Guarantee and urgent part of a class from its parameters (R155). -/
def guarPart (ty min : Nat) : Nat := if ty ≤ 1 then min else 0

/-- The committed reservation of a class (R155). -/
def State.reservation (s : State) (c : Nat) : Nat := guarPart (s.classSet c 1) (s.classSet c 3) + s.urgPart c

/-- RESERVED_SUM. -/
def State.reservedSum (s : State) : Nat := ((List.range 16).map s.reservation).sum

/-- DELIVERABLE_RECOMPUTE. -/
def State.deliverableRecompute (s : State) : State :=
  if s.fabricClocked then { s with reg := { s.reg with deliverable := some (s.deliverable s.profile) } } else s

/-- D as last recomputed. -/
def State.dNow (s : State) : Nat := s.reg.deliverable.getD (s.deliverable s.profile)

/-- The classes in the order in which a shortfall takes from them: lowest priority first, then highest number. -/
def State.cutOrder (s : State) : List Nat :=
  (List.range 16).flatMap (fun pr => (List.range 16).reverse.filter (fun c => decide (s.classSet c 2 = pr)))

/-- Take an amount from the parts of the classes of a list, each at most to zero: the cuts, and what is left to take. -/
def takeParts (part : Nat → Nat) : List Nat → Nat → SMap Nat → SMap Nat × Nat
  | [], left, m => (m, left)
  | c :: r, left, m =>
    let k := Nat.min left (part c)
    takeParts part r (left - k) (mset 0 m c k)

/-- SHORTFALL_CUT: the shortfall is taken from the parts in the order of R156; each increase is reported. -/
def State.shortfallCut (s : State) : State :=
  if !s.fabricClocked then s
  else
    let need := s.reservedSum - s.dNow
    let order := s.cutOrder
    let (m1, l1) := takeParts (fun c => s.classSet c 3) (order.filter (fun c => decide (s.classSet c 1 = 0))) need []
    let (m2, l2) := takeParts (fun c => s.classSet c 3) (order.filter (fun c => decide (s.classSet c 1 = 1))) l1 m1
    let (u, _) := takeParts s.urgPart order l2 []
    let was := s.reg.shortfall
    let s := { s with reg := { s.reg with minCut := m2, urgCut := u, shortfall := need } }
    let s := s.shareRecompute
    if was < need then (s.count (ekey 0x2300 0x55) 1).report 32 else s

/-! ### Accounting windows (R157, R159) -/

/-- Window 0 starts now: at a reset of the regulator, or a commit of ACCT_WINDOW, which abandons the open windows (R157). -/
def State.windowZero (s : State) : State :=
  { s with reg := { s.reg with winFrom := s.now, winBytes := [], winHeld := [], nextBytes := [], nextHeld := [] } }

/-- ACCT_WINDOW_CLOSE: each class is judged on the window, and the next window, which began with its last quarter, is the open
one. The close falls W after the window's start (DEDUCED, log entry 158). -/
def State.acctClose (s : State) : State :=
  if !s.fabricClocked || s.regulatorStopped then s
  else
    let w := s.acctWindow
    let r := s.reg
    let s := s.each (List.range 16) (fun t c =>
      let bytes := mget 0 r.winBytes c
      let t := t.rset (classKey c 0x34) (bytes % 2 ^ 32)
      let missed := s.guarClass c && decide (100 * bytes < 9 * s.minEff c * w) && decide (w < mget 0 r.winHeld c)
      if missed then
        let t := t.count (classKey c 0x36) 1
        let n := mget 0 r.missRun c + 1
        let lim := s.classSet c 9
        if lim ≠ 0 ∧ lim ≤ n then
          ({ t with reg := { t.reg with missRun := mset 0 t.reg.missRun c 0 } }).report 33
        else { t with reg := { t.reg with missRun := mset 0 t.reg.missRun c n } }
      else { t with reg := { t.reg with missRun := mset 0 t.reg.missRun c 0 } })
    { s with
      now := Nat.max s.now (r.winFrom + 2 * w)
      reg := { s.reg with winFrom := r.winFrom + 3 * w / 2
                          winBytes := r.nextBytes, winHeld := r.nextHeld, nextBytes := [], nextHeld := [] } }

end Sys2Proof.Machine
end

