-- ==== Sys2Proof/Machine/Vertical.lean ====
section
/-!
DEFINITION. Vertical: coils, columns and layers (R254–R276), and the retirement of a channel (R295) with the end of an
evacuation that it may bring about (R290, R293).
-/

namespace Sys2Proof.Machine

/-! ### Command states (R39) -/

/-- The state of a CMD entry. -/
def State.cmd (s : State) (k : Nat) : CmdState := mget {} s.dict.cmds k

/-- Set the state of a CMD entry. -/
def State.setCmd (s : State) (k : Nat) (c : CmdState) : State :=
  { s with dict := { s.dict with cmds := mset {} s.dict.cmds k c } }

/-- An invocation that started has ended with a status. -/
def State.cmdEnd (s : State) (k status : Nat) : State := s.setCmd k { last := status }

/-- An invocation has started and goes on. -/
def State.cmdStart (s : State) (k : Nat) : State := s.setCmd k { (s.cmd k) with refused := false, running := true }

/-- The key of EVACUATE. -/
def kEvacuate : Nat := ekey 0x1C00 0x10

/-! ### End of an evacuation (R290, R293) -/

/-- A record that HARDEN has still to write (R288) (DEDUCED, log entry 80). -/
def State.note (s : State) (r : Nat) : State :=
  { s with repair := { s.repair with unhardened := s.repair.unhardened ++ [BitVec.ofNat 32 r] } }

/-- The evacuation ends with a status, and its command with it. -/
def State.evacEnd (s : State) (st status : Nat) : State :=
  let answered := s.repair.evacAns
  let s := { s with repair := { s.repair with evacState := st, evacAns := false } }
  if answered then s.cmdEnd kEvacuate status else s

/-- The assignments held start their evacuations, one at a time, L16 first (R289, R294). -/
def State.startAssigned (s : State) : State :=
  let go := fun (t : State) (src : Option Nat) (dst : Nat) => match src with
    | some k => if t.evacRuns ∨ (t.layer dst).st ≠ 0 ∨ t.homedOn k = [] then t else t.evacStart k dst false
    | none => t
  go (go s s.repair.assign16 16) s.repair.assign17 17

/-- The repeater sections of the layers above the last in-service layer that no extended column passes are unpowered (R275). -/
def State.trimRepeaters (s : State) : State :=
  s.each ((List.range 17).filter (fun k => decide (layerCount s.variant ≤ k) && decide ((s.layer k).supply = 0) &&
      (chanNums s).all (fun m => s.home m ≤ k && (s.chan m).vl.extHops = 0)))
    (fun t k => t.modLayer k (fun l => { l with phases := 0 }))

/-- The sensed G-REPAIR-FIELD holds a record. -/
def State.fieldRecorded (s : State) (r : BitVec 32) : Bool :=
  s.gran.shadow.any (fun e => decide (618 ≤ e.1 ∧ e.1 ≤ 873) && decide (e.2 = r))

/-- A record is noted for HARDEN, where it is not yet recorded (R288). -/
def State.noteNew (s : State) (r : Nat) : State :=
  if s.repair.unhardened.contains (BitVec.ofNat 32 r) ∨ s.fieldRecorded (BitVec.ofNat 32 r) then s else s.note r

/-- Every channel that could switch has switched: the evacuation is done (Table 4) (DEDUCED, log entry 76). Once no channel
extends its column any more, the evacuation copies (Table 9 of the repair chapter). -/
def State.evacCheck (s : State) : State :=
  let src := s.repair.evacSrc
  let dst := s.repair.evacDst
  if !s.evacRuns then s
  else if s.homedOn src ≠ [] then
    (if s.repair.evacState = 2 ∧ (s.homedOn src).all (fun m => decide ((s.chan m).rep.evac ≠ 1)) = true then
      { s with repair := { s.repair with evacState := 3 } } else s)
  else if s.repair.switched = 0 then
    ((((s.modLayer dst (fun l => { l with st := 0, locked := false, supply := 0 })).trimRepeaters).evacEnd 6
      0x0403).report 25).startAssigned
  else
    let s := (s.modLayer src (fun l => if l.role = 6 then l.become 3 else l)).modLayer dst (fun l => l.become 8)
    let s := { s with repair := if dst = 16 then { s.repair with assign16 := some src } else { s.repair with assign17 := some src } }
    (((s.noteNew (5 * 2 ^ 29 + src * 2 ^ 24 + dst * 2 ^ 19)).evacEnd 5 0).report 25).startAssigned

/-! ### Retirement (R295, Table 12 of the transactions chapter) -/

/-- What the engine has waiting for a channel that is retired: a write is discarded, and a read is as good as uncorrectable
(R248). -/
def State.dropEngineWrites (s : State) (m : Nat) : State :=
  let hits := fun (t : State) (h : Held) => h.engine.isSome && ((t.places h).map Prod.fst).contains m
  let s := s.each ((List.range (slices s.variant)).map (· + 128)) (fun t p =>
    let out := (t.port p).held.filter (hits t)
    let t' := t.modPort p (fun x => { x with held := x.held.filter (fun h => !hits t h) })
    out.foldl (fun u h => (u.leftPort p h).engineDone h { poisoned := true }) t')
  let out := (s.chan m).queue.filter (fun e => e.req.engine.isSome)
  let s := s.modChan m (fun c => { c with queue := c.queue.filter (fun e => e.req.engine.isNone) })
  out.foldl (fun u e => u.engineDone e.req { poisoned := true }) s

/-- Retire a channel with a cause (R295). Its retirement is kept in the always-on record (R134). -/
def State.retire (s : State) (m cause : Nat) : State :=
  if s.retired m then s
  else
    let s := s.each (linkNums s) (fun t n => t.refuseHeld n 4 (fun h => ((t.places h).map Prod.fst).contains m))
    let s := (s.refuseQueued m 4).dropEngineWrites m
    let s := s.modChan m (fun c => { c with
      st := .retired, forced := false, openRows := [], rep := { c.rep with evac := 0, slice := none, migr := none }
      vl := { c.vl with waiting := [], coilRetired := c.vl.coilRetired || decide (cause = 1 ∨ cause = 2) } })
    let s := s.rset (chanKey m 0xD5) cause
    let s := { s with repair := { s.repair with
      retired := insertOnce s.repair.retired m, rebuilt := insertOnce s.repair.rebuilt m } }
    let s := if cause = 7 then s else s.note (4 * 2 ^ 29 + m * 2 ^ 22)
    (s.rateSettle.report 18 m).evacCheck

/-- An evacuation fails: the target FAILED or a column not extended (Table 5 of the repair chapter). Channels that have
switched are retired; the others stay, and a new evacuation may start. -/
def State.evacFail (s : State) : State :=
  if !s.evacRuns then s
  else
    let src := s.repair.evacSrc
    let dst := s.repair.evacDst
    let s := (s.modLayer dst (fun l => { l with st := 5, locked := false })).evacEnd 6 0x0403
    let s := s.modLayer src (fun l => if l.role = 6 then l.become 2 else l)
    let s := s.each (s.homedOn src) (fun t m => t.modChan m (fun c =>
      { c with rep := { c.rep with evac := 0, copyAt := 0 }, vl := { c.vl with extHops := 0, extSlices := 0 }
               mem := { c.mem with arrT := [] } }))
    let s := (s.each (s.homedOn dst) (fun t m => t.retire m 5)).trimRepeaters
    let s := s.report 25
    let s := if s.evacAuto && decide (s.homedOn src ≠ []) then
        match s.evacTarget with
        | some t => s.evacStart src t false
        | none => s
      else s
    s.startAssigned

/-! ### Coil sites (R255, Table 7) -/

/-- The word of a site that training leaves untouched: functions 0–45 in use, spares idle. -/
def siteDefault (site : Nat) : Nat := if site < 46 then site else 4 * 2 ^ 13 + 0x3F

/-- Hops of a column that are trained, those added by an evacuation among them. -/
def Chan.hopsTrained (c : Chan) : Nat := c.vl.hops + c.vl.extHops

/-- The Table 7 word of a site. A coil marked WEAK shows so at every hop at which it is in use (R269). -/
def Chan.siteWord (c : Chan) (hop site : Nat) : Nat :=
  if c.hopsTrained ≤ hop then 6 * 2 ^ 13 + 0x3F
  else
    let w := mget (siteDefault site) c.vl.sites (hop * 50 + site)
    if w / 2 ^ 13 = 0 ∧ c.vl.weak.contains (w % 64) then w + 2 ^ 13 else w

/-- Set the word of a site. -/
def Chan.setSite (c : Chan) (hop site w : Nat) : Chan :=
  { c with vl := { c.vl with sites := mset (siteDefault site) c.vl.sites (hop * 50 + site) w } }

/-- The site is in use: it carries a function. -/
def Chan.siteInUse (c : Chan) (hop site : Nat) : Bool := decide (c.siteWord hop site / 2 ^ 13 ≤ 1)

/-- Idle spare sites of a hop. -/
def Chan.idleSpares (c : Chan) (hop : Nat) : List Nat :=
  [46, 47, 48, 49].filter (fun i => decide (c.siteWord hop i / 2 ^ 13 = 4))

/-- Idle spares of a hop that no failed site waits for. -/
def Chan.freeSpares (c : Chan) (hop : Nat) : Nat :=
  (c.idleSpares hop).length - (c.vl.waiting.filter (fun x => decide (x.1.hop = hop))).length

/-- The columns that end on a layer, those of retired channels among them. -/
def State.columnsOn (s : State) (k : Nat) : List Nat := (chanNums s).filter (fun m => decide (s.home m = k))

/-- The reference slot of a layer: the lowest home column whose CK0 is healthy (R261). -/
def State.refSlotOf (s : State) (k : Nat) : Option Nat :=
  ((s.columnsOn k).filter (fun m => !(s.chan m).vl.refFallback)).head?.map (fun m => m % 8)

/-- A layer fails for good (R263): its home channels are retired; an evacuation to it fails. -/
def State.layerFail (s : State) (k cause : Nat) : State :=
  let s := s.modLayer k (fun l => { l with
    st := 5, locked := false, failed := true, supply := if l.supply = 2 then 2 else 0 })
  let s := s.report 19
  let s := if s.evacRuns ∧ s.repair.evacDst = k then s.evacFail else s
  s.each (s.homedOn k) (fun t m => t.retire m cause)

/-- A layer loses lock (R263): its home channels stop, any window on them is abandoned, and the queues to the layer are not
ready until their pointers have been resynchronized (R369). -/
def State.loseLock (s : State) (k : Nat) : State :=
  let l := s.layer k
  if !l.locked then s
  else
    let s := s.setLayer k { l with locked := false, was := l.st, st := 4, attempts := 0 }
    let s := { s with clk := { s.clk with nrLayer := (s.homedOn k).foldl (fun v m => vset v m true) s.clk.nrLayer } }
    s.each (s.homedOn k) (fun t m => t.modChan m (fun c => { c with
      stopped := true, wasForced := c.wasForced || (c.forced && decide (c.st = .inSr))
      st := match c.st with
        | .steep => .serving
        | .entering => .serving
        | x => x }))

/-- CK0 of a column has failed: while another slot of its layer is eligible, the layer moves to it by a relock (R261). With
none eligible the layer fails, unless a spare is to carry CK0: then it keeps its slot meanwhile (DEDUCED, log entry 149). -/
def State.ck0Fail (s : State) (m : Nat) (spared : Bool) : State :=
  let s := s.modChan m (fun c => { c with vl := { c.vl with refFallback := true } })
  let k := s.home m
  if (s.layer k).refSlot = m % 8 then
    match s.refSlotOf k with
    | some j => (s.modLayer k (fun l => { l with refSlot := j })).loseLock k
    | none => if spared then s else s.layerFail k 3
  else s

/-- CK0 of the column is carried by a site at every hop trained. -/
def Chan.ck0Healthy (c : Chan) : Bool :=
  (List.range c.hopsTrained).all (fun h =>
    [44, 46, 47, 48, 49].any (fun i => c.siteInUse h i && decide (c.siteWord h i % 64 = 44)))

/-- A channel is retired for a coil failure (Table 8). -/
def State.coilRetire (s : State) (m cause : Nat) : State :=
  (s.modChan m (fun c => { c with vl := { c.vl with coilRetired := true } })).retire m cause

/-- A coil's function has no spare at its hop (R273, R295). At power-up a CA, CK0 or CK1 coil, and a second data coil,
retire the channel with cause 4 (R266). -/
def State.coilUnspared (s : State) (m f : Nat) (powerUp : Bool) : State :=
  let c := s.chan m
  if f < 36 then
    if c.vl.dead.contains f then s
    else if c.vl.dead = [] then
      (s.setChan m { c with vl := { c.vl with dead := [f], degraded := true } }).report 17 m
    else s.coilRetire m (if powerUp then 4 else 1)
  else if f = 44 then
    if powerUp then s.coilRetire m 4 else s.ck0Fail m false
  else s.coilRetire m (if powerUp then 4 else 2)

/-- A spare site takes over a function (R271); a CK0 carried again at every hop is usable as a reference (R272). -/
def State.takeSpare (s : State) (m : Nat) (x : Site) (f sp : Nat) : State :=
  s.modChan m (fun c =>
    let c := c.setSite x.hop sp f
    let c := if x.site < 46 then c.setSite x.hop x.site (2 * 2 ^ 13 + 0x3F) else c
    if f = 44 then { c with vl := { c.vl with refFallback := c.vl.refFallback && !c.ck0Healthy } } else c)

/-- A spare of a hop has failed: a site that waited for it has none (R273). -/
def State.spareGone (s : State) (m hop : Nat) : State :=
  let c := s.chan m
  let ws := c.vl.waiting.filter (fun x => decide (x.1.hop = hop))
  if ws.length ≤ (c.idleSpares hop).length then s
  else match ws.getLast? with
    | some x => (s.setChan m { c with vl := { c.vl with waiting := c.vl.waiting.erase x } }).coilUnspared m x.2 false
    | none => s

/-- A site of the column is declared failed (R270). With an idle spare at its hop it waits for the substitution window,
or at power-up the spare is trained in its place at once; else R273 applies. -/
def State.coilFail (s : State) (m : Nat) (powerUp : Bool) (x : Site) : State :=
  let c := s.chan m
  let w := c.siteWord x.hop x.site
  let st := w / 2 ^ 13
  if (s.retired m && !powerUp) || decide (st = 2 ∨ st = 3 ∨ st = 5 ∨ st = 6) then s
  else
    let s := (s.count (chanKey m 0xC2) 1).report 16 m
    if st = 4 then (s.modChan m (fun c => c.setSite x.hop x.site (5 * 2 ^ 13 + 0x3F))).spareGone m x.hop
    else
      let f := w % 64
      let s := s.modChan m (fun c =>
        let c := c.setSite x.hop x.site ((if x.site < 46 then 3 else 5) * 2 ^ 13 + 0x3F)
        { c with vl := { c.vl with weak := c.vl.weak.filter (fun j => decide (j ≠ f)) } })
      if 0 < (s.chan m).freeSpares x.hop then
        if powerUp then s.takeSpare m x f (((s.chan m).idleSpares x.hop).headD 46)
        else
          let s := s.modChan m (fun c => { c with vl := { c.vl with waiting := c.vl.waiting ++ [(x, f)] } })
          if f = 44 then s.ck0Fail m true else s
      else s.coilUnspared m f powerUp

/-- The substitution of up to four waiting sites, each by an idle spare of its hop (R271). -/
def State.substitute (s : State) (m : Nat) : State :=
  let now := (s.chan m).vl.waiting.take 4
  let s := s.modChan m (fun c => { c with vl := { c.vl with waiting := c.vl.waiting.drop 4 } })
  now.foldl (fun s x =>
    match (s.chan m).idleSpares x.1.hop with
    | [] => s.coilUnspared m x.2 false
    | sp :: _ =>
      let s := (s.takeSpare m x.1 x.2 sp).count (chanKey m 0xC3) 1
      s.note (3 * 2 ^ 29 + m * 2 ^ 22 + x.1.hop * 2 ^ 17 + x.2 * 2 ^ 11 + (sp - 46) * 2 ^ 9)) s

/-! ### Steep windows and exit checks (R172, R179, R268) -/

/-- A window opens at a scheduled refresh between two entries, after any burst; that refresh is the only command of it (R179,
R180, R191). -/
def State.windowOpens (s : State) (m : Nat) : Bool :=
  let c := s.chan m
  s.chanClocked && decide (m < enabled s.variant) && decide (c.st = .serving) && !c.stopped && s.layerClocked m &&
    !s.clk.nrLayer.getLsbD m && decide (c.ref.burst = []) && decide (c.unit ≤ c.ref.debt) && !s.targeted m c.ref.nextBank

/-- STEEP_WINDOW_START. -/
def State.steepStart (s : State) (m : Nat) (env : ChanEnv) : State :=
  if s.windowOpens m && !(s.chan m).interimStop then
    ((s.refreshCmd m).caCount m env).modChan m (fun c => { c with st := .steep, fullExit := false, vl := { c.vl with early := false } })
  else s

/-- The margins of the sites in use have been measured: they are free values, within margin (R267). -/
def State.measure (s : State) (m : Nat) : State :=
  (s.modChan m (fun c => { c with vl := { c.vl with measured := s.free } })).tick

/-- A window of `len` ns has ended. -/
def State.windowDone (s : State) (m len : Nat) : State :=
  (((s.measure m).count (chanKey m 0x6C) 1)).peak (chanKey m 0x6E) len 65535

/-- Service resumes after a window or an exit: what the debt exceeds is issued, and a forced entry goes on (R174, R191,
R263). However many due events passed 8 units inside the window, they make one burst (DESIGN CHOICE, log entry 159). -/
def State.resumeChan (s : State) (m : Nat) : State :=
  if s.retired m then s
  else if (s.chan m).stopped then s.modChan m (fun c => { c with st := .serving })
  else ((s.modChan m (fun c => { c with st := .serving })).burst m).forceNow m

/-- STEEP_WINDOW_END: sites left outside margin are declared failed, and service resumes. The window after a relock
performs the substitution that it met (R274). -/
def State.steepEnd (s : State) (m : Nat) (outside : List Site) (len : Nat) : State :=
  if s.chanPowered && decide ((s.chan m).st = .steep) && !s.clk.nrLayer.getLsbD m then
    let after := (s.chan m).fullExit
    let s := s.modChan m (fun c => { c with fullExit := false, vl := { c.vl with weak := [] } })
    let s := s.windowDone m len
    let s := if after then s.substitute m else s
    let s := outside.foldl (fun t x => t.coilFail m false x) s
    s.resumeChan m
  else s

/-- SUBSTITUTION_WINDOW: a full Steep window at the first scheduled refresh after the declaring window (R271); sites that it
leaves outside margin are declared failed (R268). -/
def State.substitutionWindow (s : State) (m : Nat) (outside : List Site) (len : Nat) (env : ChanEnv) : State :=
  if s.windowOpens m && decide ((s.chan m).vl.waiting ≠ []) then
    let s := ((s.refreshCmd m).caCount m env).modChan m (fun c => { c with vl := { c.vl with weak := [], early := false } })
    let s := (s.windowDone m len).substitute m
    (outside.foldl (fun t x => t.coilFail m false x) s).resumeChan m
  else s

/-- EXIT_CHECK_END: the exit ends with its check, or with the full window that it extends to or that takes its place
(DEDUCED, log entry 68). -/
def State.exitCheckEnd (s : State) (m : Nat) (outside afterFull : List Site) (wait len : Nat) : State :=
  let c := s.chan m
  if s.chanPowered && decide (c.st = .exiting) && s.layerClocked m && !s.clk.nrLayer.getLsbD m then
    let full := c.fullExit
    let s := s.setChan m { c with fullExit := false, forced := c.forced || c.wasForced, wasForced := false, srTime := 0 }
    let s := (s.peak (chanKey m 0x6B) wait 65535).count (chanKey m 0x6A) c.srTime
    let s := if full then (s.windowDone m len).substitute m
      else
        let s := (s.measure m).peak (chanKey m 0x6E) len 65535
        if outside = [] then s else s.count (chanKey m 0x6D) 1
    let s := if full ∨ outside ≠ [] then
        afterFull.foldl (fun t x => t.coilFail m false x) (s.modChan m (fun c => { c with vl := { c.vl with weak := [] } }))
      else s
    s.resumeChan m
  else s

/-! ### Relock and frequency (R261–R263) -/

/-- Repeat the last column writes in their order (R263) (DEDUCED, log entry 66). -/
def Chan.repeatWrites (c : Chan) : Chan :=
  { c with mem := { c.mem with arr := c.vl.writes.foldl (fun a x => mset 0 a x.1 x.2) c.mem.arr } }

/-- LAYER_LOSS_OF_LOCK. -/
def State.layerLoss (s : State) (k : Nat) : State := if s.chanPowered then s.loseLock k else s

/-- RELOCK_ATTEMPT_END: supplies that have faulted have restarted from soft-start before the attempt (R345). Success resumes the home channels through a full Steep window; the third failure is final. -/
def State.relockEnd (s : State) (k : Nat) (locked : Bool) (stopNs : Nat) : State :=
  let l := s.layer k
  if !(s.chanPowered && decide (l.st = 4)) then s
  else if locked then
    let s := s.setLayer k { l with
      locked := true, st := l.was, supply := 2, relocks := Nat.min (l.relocks + 1) 255, attempts := 0
      refSlot := (s.refSlotOf k).getD l.refSlot }
    s.each (s.homedOn k) (fun t m =>
      let t := t.peak (chanKey m 0xC7) stopNs (2 ^ 32 - 1)
      let t := t.modChan m (fun c => { c.repeatWrites with stopped := false })
      match (t.chan m).st with
      | .inSr => t.srx m true
      | .exiting => t.modChan m (fun c => { c with fullExit := true })
      | .serving => t.modChan m (fun c => { c with st := .steep, fullExit := true })
      | _ => t)
  else if 3 ≤ l.attempts + 1 then s.layerFail k 3
  else s.setLayer k { l with attempts := l.attempts + 1, supply := if l.supply = 2 then 2 else 1 }

/-- LAYER_FREQ_WINDOW_CLOSE: the error is recorded; beyond ±1,000 ppm the layer has lost lock (R262). -/
def State.layerFreq (s : State) (k : Nat) (ppm : Int) : State :=
  if s.chanPowered && decide ((s.layer k).supply ≠ 0) then
    let s := s.rset (ekey 0x1C00 (0x60 + k)) (i20 ppm)
    if (s.layer k).locked && decide (1000 < ppm ∨ ppm < -1000) then s.loseLock k else s
  else s

/-- COIL_SER_WINDOW_CLOSE (R269). -/
def State.coilSer (s : State) (m : Nat) (tail : List Nat) : State :=
  if !(s.chanClocked && decide (m < enabled s.variant) && !s.retired m) then s
  else
    let c := s.chan m
    let lim := s.blockSetting (.channel m) (ekey 0x1C00 0x7E) (ekey 0x1C00 0x7F)
    let trips := (List.range 36).filter (fun i => decide (lim ≠ 0) && decide (lim < c.vl.coilCe.getD i 0))
    let s := s.setChan m { c with vl := { c.vl with
      coilCe := (List.range 36).map (fun i => Nat.min (tail.getD i 0) (c.vl.coilCe.getD i 0))
      weak := trips.foldl insertOnce c.vl.weak, early := c.vl.early || decide (trips ≠ []) } }
    s.count (chanKey m 0xC4) trips.length

/-! ### The joint (R259) -/

/-- JOINT_WORD_FAIL: a word fails its CRC, or the calibration of the joint fails and the power-up sequence stops. -/
def State.jointFail (s : State) (bundle attempt : Nat) (calib : Bool) : State :=
  let k := ekey 0x1C00 0x7B
  if s.boot = .held then s
  else if calib then
    if s.boot = .sensing then { s with boot := .jointFailed, faults := { s.faults with jointPin := true } } else s
  else
    let w := nset (s.rget k) 1 (nbit (s.rget k) 1 || decide (attempt = 4))
    let s := s.rset k (w - nfield w 22 14 * 2 ^ 14 + bundle * 2 ^ 14)
    if attempt < 4 then s.count (ekey 0x1C00 0x7C) 1
    else if attempt = 4 then s.report 20 else s

/-! ### Training at power-up (R264–R266) -/

/-- The sequence stands where the layers train (DEDUCED, log entry 72). -/
def State.training (s : State) : Bool := decide (s.boot = .qtBase) && !s.qt.trainDone

/-- HOP_TRAINING: one hop of every column whose home is at it or above, those of retired channels among them, and the layer
above it (Table 2). -/
def State.hopTraining (s : State) (hop : Nat) (fails : List (Nat × Site)) (locked : Bool) : State :=
  if s.training && decide (s.qt.nextHop = hop) && decide (hop < layerCount s.variant) then
    let cross := (chanNums s).filter (fun m => decide (hop ≤ m / 8))
    let s := s.each cross (fun t m => (t.modChan m (fun c => { c with vl := { c.vl with hops := hop + 1 } })).measure m)
    let s := (fails.filter (fun f => cross.contains f.1 && decide (f.2.hop = hop))).foldl
      (fun t f => t.coilFail f.1 true f.2) s
    let s := { s with qt := { s.qt with nextHop := hop + 1 } }
    if locked then
      s.modLayer hop (fun l => { l with st := 2, locked := true, supply := 2, refSlot := (s.refSlotOf hop).getD 0 })
    else s.layerFail hop 4
  else s

/-- END_TO_END_CHECK: sites found dead fail; the time is limited to 4 ms, past which the remaining hops are excluded; the refresh
timers start, and a layer assignment held starts its evacuation (R184, R265, R266, R294). -/
def State.endToEnd (s : State) (dead : List (Nat × Site)) (us : Nat) : State :=
  let n := layerCount s.variant
  if s.training && decide (s.qt.nextHop = n ∨ 4000 ≤ us) then
    let us := Nat.min us 4000
    let s := s.rset (ekey 0x1C00 0x7D) us
    let s := s.each ((chanNums s).filter (fun m => decide (s.qt.nextHop ≤ m / 8))) (fun t m => t.retire m 4)
    let s := dead.foldl (fun t f => if f.1 < enabled t.variant then t.coilFail f.1 true f.2 else t) s
    let s := s.each (chanNums s) (fun t m => if t.retired m then t
      else t.modChan m (fun c => { c with ref := { c.ref with running := true } }))
    let s := { s with
      qt := { s.qt with trainDone := true, trainUs := us }, boot := if s.qt.baseDone then .qtLoopback else s.boot }
    s.startAssigned
  else s

end Sys2Proof.Machine
end

