-- ==== Sys2Proof/Machine/Channel.lean ====
section
/-!
DEFINITION. Channel: the entries of a channel (R161–R168), the outcomes of reads, writes and atomics (R108–R111, R217,
R218, R221), the Rake (R222–R226), region fills (R216) and raw access (R227, R228).
-/

namespace Sys2Proof.Machine

/-! ### Column accesses (R164, R166) -/

/-- Closed page is in force (R21, R166). -/
def State.closedPage (s : State) : Bool := decide (s.profile = .deterministic)

/-- Open the row of an address in its bank, by an activation where it is not open. -/
def State.openRow (s : State) (m h : Nat) : State :=
  if mfind (s.chan m).openRows (bankOf h) = some (rowOf h) then s
  else
    let s := s.activate m (bankOf h) (rowOf h)
    s.modChan m (fun c => { c with openRows := mput c.openRows (bankOf h) (rowOf h) })

/-- Close a bank. -/
def State.closeBank (s : State) (m k : Nat) : State := s.modChan m (fun c => { c with openRows := mdel c.openRows k })

/-- A column access of a queue entry: it finds its row open, its bank closed or another row open (Table 8). `last` is
false for the read of a read-modify-write, whose row stays open for its write (DEDUCED, log entry 63). -/
def State.columnAccess (s : State) (m h : Nat) (last : Bool) : State :=
  let sub := match mfind (s.chan m).openRows (bankOf h) with
    | some w => if w = rowOf h then 0x61 else 0x63
    | none => 0x62
  let s := (s.count (chanKey m sub) 1).openRow m h
  if s.closedPage && last then s.closeBank m (bankOf h) else s

/-- Lookahead: the rows of the following entries that access the array are opened, each bank for the earliest (R164)
(DESIGN CHOICE, log entry 71), and none once forced neighbour service has begun (R199). -/
def State.prepare (s : State) (m : Nat) (used : List Nat) : List Nat → State
  | [] => s
  | h :: r =>
    if (s.chan m).ref.forced then s
    else if used.contains (bankOf h) then s.prepare m used r
    else (s.openRow m h).prepare m (bankOf h :: used) r

/-- The addresses of an entry. -/
def QEntry.addrs (e : QEntry) : List Nat := e.h :: e.h2.toList

/-! ### Outcomes (Table 11 of the transactions chapter) -/

/-- Merge the bytes that a mask selects (R110). -/
def mergeBytes (mask : BitVec 64) (new old : Nat) : Nat :=
  (List.range 64).foldl (fun d i =>
    if mask.getLsbD i then d - nfield d (8 * i + 7) (8 * i) * 2 ^ (8 * i) + nfield new (8 * i + 7) (8 * i) * 2 ^ (8 * i)
    else d) old

/-- Replace the 32-bit word at an offset of 4 × `w` bytes (R111). -/
def setWord (w new old : Nat) : Nat := old - nfield old (32 * w + 31) (32 * w) * 2 ^ (32 * w) + new * 2 ^ (32 * w)

/-- The data flits of a block read. -/
def ReadOut.flits (o : ReadOut) : List Flit := blockFlits (BitVec.ofNat 512 o.data)

/-- Read one block of an entry: the row is opened where the region is written. Whether the array was needed is returned. -/
def State.readOne (s : State) (m h noise : Nat) (env : ChanEnv) (last : Bool) : ReadOut × Bool × State :=
  let (o, r, s) := s.readBlock m h noise env
  (o, r, if r then s.columnAccess m h last else s)

/-- Answer one part of the request of an entry. -/
def State.answerEntry (s : State) (e : QEntry) (status psn : Nat) (value : BitVec 32) (flits : List Flit) : State :=
  match e.req.engine with
  | some _ => s.engineDone e.req
      { data := (flitsBlock (flits.getD 0 {}) (flits.getD 1 {})).toNat, poisoned := decide (status ≠ 0) }
  | none => s.modResp e.port e.req.tag (fun r => r.done e.half status psn value flits)

/-- A read entry: one block, or the two blocks of an RD128 on one channel, whose accesses issue back to back (R108, R163).
ZERO_READS counts a read of which no block needs the array, once (DESIGN CHOICE, log entry 161). -/
def State.execRead (s : State) (m : Nat) (e : QEntry) (env : ChanEnv) : State :=
  let open' := e.h2.any (fun x => decide (bankOf x = bankOf e.h) && decide (rowOf x = rowOf e.h))
  let (o, r, s) := s.readOne m e.h env.noise0 env (!open')
  match e.h2 with
  | none =>
    let s := if r then s else s.count (chanKey m 0x64) 1
    let psn := if o.poisoned then (if e.half = 2 then 12 else 3) else 0
    s.answerEntry e (b2n o.poisoned) psn 0 o.flits
  | some h2 =>
    let (o2, r2, s) := s.readOne m h2 env.noise1 {} true
    let s := if r || r2 then s else s.count (chanKey m 0x64) 1
    let psn := (if o.poisoned then 3 else 0) + (if o2.poisoned then 12 else 0)
    s.answerEntry e (b2n (o.poisoned || o2.poisoned)) psn 0 (o.flits ++ o2.flits)

/-- A write entry: WR64, and WRM with a mask of all ones (R109, R110) (DEDUCED, log entry 62). -/
def State.execWrite (s : State) (m : Nat) (e : QEntry) (env : ChanEnv) : State :=
  let (w, s) := s.lookupRegion m (regionOf e.h) env.rmapBad
  let s := (s.columnAccess m e.h true).writeData m e.h e.req.data.toNat e.req.psn w
  s.answerEntry e 0 0 0 []

/-- A WRM that reads, merges and writes within its entry (R110, R221). -/
def State.execMasked (s : State) (m : Nat) (e : QEntry) (env : ChanEnv) : State :=
  let (o, w, s) := s.readOne m e.h env.noise0 env false
  let d := mergeBytes e.req.mask e.req.data.toNat o.data
  let s := if w then s else s.count (chanKey m 0x64) 1
  let s := (s.columnAccess m e.h true).writeData m e.h d (e.req.psn || o.poisoned) w
  s.answerEntry e (if o.poisoned then 2 else 0) 0 0 []

/-- FADD32 and SWAP32 (R111): a poisoned block is left as it is. -/
def State.execAtomic (s : State) (m : Nat) (e : QEntry) (env : ChanEnv) : State :=
  let (o, w, s) := s.readOne m e.h env.noise0 env false
  let k := e.req.word
  let s := if w then s else s.count (chanKey m 0x64) 1
  let old := nfield o.data (32 * k + 31) (32 * k)
  if o.poisoned then
    let s := if s.closedPage then s.closeBank m (bankOf e.h) else s
    s.answerEntry e 1 0 (BitVec.ofNat 32 old) []
  else
    let new := if e.req.opc = 0x14 then (old + e.req.operand.toNat) % 2 ^ 32 else e.req.operand.toNat
    let s := (s.columnAccess m e.h true).writeData m e.h (setWord k new o.data) false w
    s.answerEntry e 0 0 (BitVec.ofNat 32 old) []

/-- The effect of the request of an entry. -/
def State.execRequest (s : State) (m : Nat) (e : QEntry) (env : ChanEnv) : State :=
  let opc := e.req.opc
  if opc = 0x10 ∨ opc = 0x11 then s.execRead m e env
  else if opc = 0x12 then s.execWrite m e env
  else if opc = 0x13 then
    if e.req.mask = 0 then s.answerEntry e 0 0 0 []
    else if e.req.mask = BitVec.allOnes 64 then s.execWrite m e env else s.execMasked m e env
  else s.execAtomic m e env

/-- An entry leaves the channel: its queue, its counters, and a forced entry that waited for it (R161, R174). -/
def State.leaveQueue (s : State) (m : Nat) (e : QEntry) : State :=
  let s := s.modChan m (fun c => { c with queue := c.queue.drop 1, sinceMaint := Nat.min (c.sinceMaint + 1) 7 })
  let s := (s.count (chanKey m 0x60) 1).peak (chanKey m 0x6F) ((s.now - e.admitted) / 2) 65535
  s.forceNow m

/-- The head entry may run. An entry that needs no array access is answered in automatic self-refresh too (R173). -/
def State.entryRuns (s : State) (m : Nat) (e : QEntry) : Bool :=
  let c := s.chan m
  let array := s.needsArray e.req (e.addrs.map (fun h => (m, h)))
  !c.ref.forced && !c.forcedFill && !s.clk.nrChan.getLsbD m &&
    ((s.chanRuns m && s.layerClocked m && decide (c.ref.debt ≤ 8 * c.unit)) ||
      (s.chanClocked && decide (c.st = .inSr) && !array))

/-- The commands of an entry and its look-up of the remap table: an entry bad in one copy is corrected from the other, and one
bad in both retires the channel (R257, R285). -/
def State.maintCheck (s : State) (m : Nat) (env : ChanEnv) : State :=
  let (p, s) := (s.caCount m env).inject 4 5 m
  if !(env.remapOne || env.remapBad || decide (p ≠ 0)) then s
  else
    let (q, s) := (s.sramError 1 m).inject 4 5 m
    if env.remapBad || decide (q ≠ 0) then (s.sramError 1 m).retire m 6 else s

/-- The parity check of an entry of a channel queue: whether it is bad (Table 5 of the integrity chapter). -/
def State.entryParity (s : State) (m : Nat) (env : ChanEnv) : Bool × State :=
  let (p1, s) := s.inject 4 1 m
  let bad := env.sramBad || decide (p1 ≠ 0)
  (bad, if bad then s.sramError 1 m else s)

/-- CHANNEL_ENTRY_EXECUTE: the head entry runs to its end (R161–R163). A remap entry bad in both copies retires the channel
(R285); an entry whose queue word fails parity is refused, or issued again where it is the engine's (R229, R248)
(DESIGN CHOICE, log entry 4). Once the pending rows force neighbour service nothing more is prepared (R199). -/
def State.entryExecute (s : State) (m : Nat) (env : ChanEnv) : State :=
  match (s.chan m).queue with
  | [] => s
  | e :: rest =>
    if !(decide (m < enabled s.variant) && s.entryRuns m e) then s
    else
      let (bad, s) := s.entryParity m env
      if bad then
        match e.req.engine with
        | some _ => s
        | none => (s.modResp e.port e.req.tag (fun r => r.refuse e.req.opc 3)).leaveQueue m e
      else
        let s := s.maintCheck m env
        if s.retired m then s
        else
          let s := s.execRequest m e env
          let next := (rest.take (s.lookahead - 1)).take env.look
          let s := if (s.chan m).st = .serving then
              s.prepare m e.banks ((next.filter (fun q => s.needsArray q.req (q.addrs.map (fun h => (m, h))))).flatMap QEntry.addrs)
            else s
          s.leaveQueue m e

/-! ### The Rake (R222–R226) -/

/-- The first address of the next step. -/
def kRake (m : Nat) : Nat := chanKey m 0xAC

/-- Read `n` blocks of a row from an address on, each with its metadata words, and apply `f` to what is read; the noise of the
metadata is that of the first block (R210). -/
def State.readRow (f : State → Nat → ReadOut → State) (s : State) (m h : Nat) : Nat → List Nat → Nat × Nat → State
  | 0, _, _ => s
  | n + 1, noise, mn =>
    let (o, s) := s.readColumn m h (noise.headD 0) mn.1 mn.2
    State.readRow f (f s h o) m (h + 1) n noise.tail (0, 0)

/-- What the Rake does with a block it has read: a correctable one that is not poisoned is written back (R225). -/
def State.rakeBlock (m : Nat) (s : State) (h : Nat) (o : ReadOut) : State :=
  let s := if o.corrected then s.modChan m (fun c => { c with rakePassCe := c.rakePassCe + 1 }) else s
  if o.corrected && !o.poisoned then (s.storeWord m h (encodeBlock o.data)).count (chanKey m 0xAB) 1 else s

/-- Maintenance activates a row, uses it and leaves its bank as the page policy has it. -/
def State.maintRow (s : State) (m h : Nat) : State :=
  let s := s.openRow m h
  if s.closedPage then s.closeBank m (bankOf h) else s

/-- The Rake is stopped stack-wide: test hold (R302). -/
def State.rakeStopped (s : State) : Bool := s.therm.testHeld

/-- RAKE_STEP: a due step; in an unwritten region it takes its slot and accesses nothing (R223, R225)
(DEDUCED, log entry 70). -/
def State.rakeStep (s : State) (m : Nat) (noise : List Nat) (env : ChanEnv) : State :=
  if s.mayRun m && s.map.contains m && !s.rakeStopped then
    let h := s.rget (kRake m)
    let next := fun (t : State) => (t.rset (kRake m) ((h + 16) % 2 ^ 23)).count (chanKey m 0xAA) 1
    let (w, s) := s.lookupRegion m (regionOf h) env.rmapBad
    if !w then next s
    else
      let s := s.maintCheck m env
      if s.retired m then s
      else next (((State.readRow (State.rakeBlock m) (s.maintRow m h) m h 16 noise (env.vNoise, env.pNoise))).maintained m)
  else s

/-- RAKE_PASS_CLOSE: the pass is recorded, and table entries without a correctable decode in it are freed (R224, R226). -/
def State.rakeClose (s : State) (m tailCe : Nat) (tailRows : List (Nat × Nat)) : State :=
  if s.chanClocked && decide (m < enabled s.variant) && !s.retired m then
    let c := s.chan m
    let keep := c.ceRows.map (fun e => e.bind (fun x =>
      if x.seen then some { x with seen := tailRows.contains (x.bank, x.row) } else none))
    let s := s.setChan m { c with ceRows := keep, rakePassCe := Nat.min tailCe c.rakePassCe }
    (s.count (chanKey m 0xAD) 1).rset (chanKey m 0xB1) (c.rakePassCe % 2 ^ 32)
  else s

/-- REGION_FILL: a maintenance entry fills the region of lowest number that is marked (DESIGN CHOICE, log entry 162). Pending
neighbour refreshes go first; in forced fill service fills run back to back, but behind forced neighbour service (R216)
(DEDUCED, log entry 156). -/
def State.regionFill (s : State) (m : Nat) (env : ChanEnv) : State :=
  let c := s.chan m
  match c.mem.fills with
  | [] => s
  | r :: _ =>
    if (s.mayMaintain m && decide (c.ref.pending = [])) ||
        (c.forcedFill && !c.ref.forced && s.chanRuns m && s.layerClocked m) then
      let mm := c.mem.fill r
      ((s.setChan m { c with mem := mm, forcedFill := c.forcedFill && decide (48 < mm.fills.length) }).maintained m).caCount m env
    else s

/-! ### Raw access and injection (R227–R230) -/

/-- Channel and address that RAW_SELECT names. -/
def State.rawSel (s : State) : Nat × Nat :=
  let v := s.rget (ekey 0x1800 0x80)
  (nfield v 29 23, nfield v 22 0)

/-- The keys of RAW_WRITE and RAW_READ. -/
def kRawWrite : Nat := ekey 0x1800 0x85
def kRawRead : Nat := ekey 0x1800 0x86

/-- The status with which R228 refuses a raw command on a channel, or 0. -/
def State.rawRefused (s : State) (m : Nat) : Nat :=
  if enabled s.variant ≤ m then 0x0105
  else if s.retired m || !s.map.contains m then 0x0109
  else if (s.chan m).st = .blockReset then 0x0108 else 0

/-- The entry of a RAW_WRITE: S0–S71, the valid and the poison bit, as given (R227). -/
def State.rawWrite (s : State) (m h data bits : Nat) : State :=
  let (w, s) := s.lookupRegion m (regionOf h) false
  ((s.writeWord m h (data % 2 ^ 576) (nbit bits 0) (nbit bits 1) w).maintRow m h).maintained m

/-- The entry of a RAW_READ: the stored codeword, the two bits, their check bits and the region bit, with no decode (R227). A
region marked for a fill is filled first (R216) (DEDUCED, log entry 69). -/
def State.rawRead (s : State) (m h : Nat) : State :=
  let (w, s) := s.lookupRegion m (regionOf h) false
  let mm := (s.chan m).mem
  let v := mget 0 mm.valid (h / 64)
  let p := mget 0 mm.poison (h / 64)
  let s := s.rset (ekey 0x1800 0x81) (s.arrayWord m h)
  let s := s.rset (ekey 0x1800 0x82) (b2n (nbit v (h % 64)) + 2 * b2n (nbit p (h % 64)))
  let s := s.rset (ekey 0x1800 0x83) (secCheck v + 256 * secCheck p)
  let s := s.rset (ekey 0x1800 0x84) (b2n w)
  (s.maintRow m h).maintained m

/-- The entry of a raw access; a remap entry that retires the channel leaves it undone (R285). -/
def State.rawRun (s : State) (j : RawJob) : State :=
  let s := s.maintCheck j.chan {}
  if s.retired j.chan then s
  else if j.key = kRawWrite then s.rawWrite j.chan j.addr j.data j.bits else s.rawRead j.chan j.addr

/-- A raw command is taken: refused, or performed in one maintenance entry, now or when its turn comes (R161, R228). What it
needs is latched (DEDUCED, log entry 163). `none` while it waits. -/
def State.rawCmd (s : State) (m : Master) (key : Nat) : Option Nat × State :=
  let (c, h) := s.rawSel
  match s.rawRefused c with
  | 0 =>
    let s := s.wake c true
    let j : RawJob := { by_ := m, key := key, chan := c, addr := h,
                        data := s.rget (ekey 0x1800 0x81), bits := s.rget (ekey 0x1800 0x82) }
    if s.mayRun c then (let t := s.rawRun j; (some (if t.retired c then 0x0109 else 0), t))
    else (none, { s.cmdStart key with dict := { (s.cmdStart key).dict with raw := s.dict.raw ++ [j] } })
  | e => (some e, s)

/-- A value of INJ_CTRLk is valid (R230, Table 4). -/
def State.injValid (s : State) (k v : Nat) : Bool :=
  let mode := nfield v 63 62
  let pat := nfield v 55 48
  let inst := nfield v 31 24
  let en := nbit v 23
  let mt := nfield v 22 0
  let chan := inst = 0xFF ∨ inst < enabled s.variant
  if mode = 0 then true
  else if mode = 3 ∨ (mode = 1 ∧ nfield v 47 32 = 0) then false
  else if k = 0 then decide (1 ≤ pat ∧ pat ≤ 12 ∧ chan ∧ !en ∧ mt = 0)
  else if k = 1 then decide (pat = 1 ∧ chan ∧ !en ∧ mt = 0)
  else if k = 2 then decide (1 ≤ pat ∧ pat ≤ 8 ∧ chan)
  else if k = 3 then decide ((pat % 4 = 1 ∨ pat % 4 = 2) ∧ pat / 4 % 4 = 0 ∧ pat < 32 ∧ chan)
  else if k = 4 then decide (pat = 1 ∧ (inst = 0xFF ∨ inst ≤ 6) ∧ ¬ (inst = 6 ∧ slices s.variant = 0))
  else if k = 5 then decide (pat = 1 ∧ chan ∧ mt < 8192)
  else decide (pat = 1 ∧ (inst = 0xFF ∨ inst < 9) ∧ !en ∧ mt = 0)

/-- Write INJ_CTRLk (R230): bits 61:56 are reserved. -/
def State.injWrite (s : State) (k v : Nat) : State :=
  let v := v - nfield v 61 56 * 2 ^ 56
  let s := s.rset (ekey 0x1800 (0x60 + k)) v
  s.rset (ekey 0x1800 (0x70 + k)) (if nfield v 63 62 = 1 then nfield v 47 32 else 0)

end Sys2Proof.Machine
end

