-- ==== Sys2Proof/Machine/Engine.lean ====
section
/-!
DEFINITION. Engine: the queue engine (R232–R253). Accesses that a command makes inside its own step (link blocks and stack
blocks) go through `Eng`, which carries the surroundings' effect on the first array read; the cells of a packet are written
and read through the channel queues, as requests of their slice.
-/

namespace Sys2Proof.Machine

/-! ### The pool (R234) -/

/-- Start of the sub-pool of a slice. -/
def State.subPool (s : State) (i : Nat) : Nat := s.qeSet 2 + i * (67 * s.poolK / 16)

/-- Block `j` of local cell `l` of a slice. -/
def State.cellBlock (s : State) (i l j : Nat) : Nat := s.subPool i + 4 * l + j

/-- The link block of a local cell. -/
def State.linkBlock (s : State) (i l : Nat) : Nat := s.subPool i + 4 * s.poolK + l / 8

/-- Stack block `j` of a slice. -/
def State.stackBlock (s : State) (i j : Nat) : Nat := s.subPool i + 33 * s.poolK / 8 + j

/-- Cells of a slice in use (R239). -/
def QSlice.inUse (x : QSlice) : Nat := x.linked + x.reserved + x.awaiting + x.lost

/-- F_s: free cells of a slice (R239). -/
def State.freeCells (s : State) (i : Nat) : Nat := s.poolK - (s.slice i).inUse

/-- The slice of a queue (R232). -/
def State.sliceOf (s : State) (q : Nat) : Nat := q % slices s.variant

/-- The committed limit set of a queue. -/
def State.limitSet (s : State) (q : Nat) : Nat := mget 0 s.qe.limitAct q

/-- Change a queue. -/
def State.modQueue (s : State) (q : Nat) (f : Queue → Queue) : State := s.setQueue q (f (s.queue q))

/-! ### Accesses of a step -/

/-- A step of the engine in progress; `stall` says that its next access has to wait. What the step has brought into the
caches by then stays there, and the step goes on when its row comes again. -/
structure Eng where
  s : State
  env : ChanEnv := {}
  stall : Bool := false
deriving DecidableEq, Repr

/-- A channel serves an access of the engine (DEDUCED, log entry 54); one that needs no array access is served in automatic
self-refresh too (R173). -/
def State.servesEngine (s : State) (m : Nat) (array : Bool) : Bool :=
  let c := s.chan m
  !c.ref.forced && !c.forcedFill && !s.clk.nrChan.getLsbD m &&
    ((s.chanRuns m && s.layerClocked m && decide (c.ref.debt ≤ 8 * c.unit)) ||
      (s.chanClocked && decide (c.st = .inSr) && !c.forced && !array))

/-- A block of a slice as a request of class ENGINE_CLASS (R247). -/
def State.engineRequest (s : State) (opc b : Nat) : Held :=
  { tag := 0, opc := opc, cls := s.qeSet 4, block := b, entered := s.now, engine := some 0 }

/-- The slice's access to a channel is admitted and paid (R143, R145, R247): every earlier one of the slice to it has been
admitted (R114), the queue takes it, and a counter of the slice covers it. Else the slice waits, and wakes a channel in
automatic self-refresh (R172) (DESIGN CHOICE, log entry 49). -/
def Eng.admitted (x : Eng) (i m : Nat) (h : Held) (array : Bool) : Eng :=
  let s := x.s
  let p := 128 + i
  let behind := (s.port p).held.any (fun y => ((s.places y).map Prod.fst).contains m)
  if x.stall then x
  else if !s.servesEngine m array then { x with s := s.wake m array, stall := true }
  else if behind || !s.roomAt m || s.regulatorStopped then { x with stall := true }
  else match s.rankOf p h with
    | none => { x with stall := true }
    | some r =>
      let key := tokKey p h.cls
      let t := (mget {} s.reg.tok key).debit r h.cost
      let s := { s with reg := { s.reg with tok := mset {} s.reg.tok key t, ptr := mset 0 s.reg.ptr m ((p + 1) % 136) } }
      { x with s := s.deliver p h.cls h.cost }

/-- One block read of a slice; on a retired channel it is as good as uncorrectable (R248) (DEDUCED, log entry 53). -/
def Eng.read (x : Eng) (i b : Nat) : ReadOut × Eng :=
  match decodeAddr x.s.map b with
  | none => ({ poisoned := true }, x)
  | some (m, h) =>
    if x.s.retired m then ({ poisoned := true }, x)
    else
      let req := x.s.engineRequest 0x10 b
      let x := x.admitted i m req (x.s.needsArray req [(m, h)])
      if x.stall then ({}, x)
      else
        let s := x.s.maintCheck m x.env
        if s.retired m then ({ poisoned := true }, { x with s := s, env := {} })
        else
          let (o, r, s) := s.readOne m h x.env.noise0 x.env true
          let s := if r then s else s.count (chanKey m 0x64) 1
          (o, { x with s := s.count (chanKey m 0x60) 1, env := {} })

/-- One block write of a slice; on a retired channel it is discarded. -/
def Eng.write (x : Eng) (i b d : Nat) (poison : Bool) : Eng :=
  match decodeAddr x.s.map b with
  | none => x
  | some (m, h) =>
    if x.s.retired m then x
    else
      let x := x.admitted i m (x.s.engineRequest 0x12 b) true
      if x.stall then x
      else
        let s := x.s.maintCheck m x.env
        if s.retired m then { x with s := s, env := {} }
        else
          let (w, s) := s.lookupRegion m (regionOf h) x.env.rmapBad
          let s := (s.columnAccess m h true).writeData m h d poison w
          { x with s := s.count (chanKey m 0x60) 1, env := {} }

/-! ### The link-block cache (R246, R250) -/

/-- The eight entries of a block. -/
def entriesOf (d : Nat) : List (BitVec 64) := (List.range 8).map (fun j => BitVec.ofNat 64 (d / 2 ^ (64 * j)))

/-- The block of eight entries. -/
def blockOf (es : List (BitVec 64)) : Nat := es.foldr (fun e acc => e.toNat + 2 ^ 64 * acc) 0

/-- Evict the least recently used block of a slice; a dirty one is written back whole. -/
def Eng.evict (x : Eng) (i : Nat) : Eng :=
  match (x.s.slice i).blocks.getLast? with
  | none => x
  | some b =>
    let x := if b.dirty then x.write i b.addr (blockOf b.entries) (b.poisoned && decide (b.written ≠ 255)) else x
    if x.stall then x
    else
      let s := x.s.modSlice i (fun y => { y with blocks := y.blocks.dropLast })
      { x with s := if b.dirty then s.qcount 0x99 1 else s }

/-- A block at the front of the cache of link blocks. -/
def QSlice.front (y : QSlice) (b : LinkBlk) : QSlice :=
  { y with blocks := b :: y.blocks.filter (fun z => decide (z.addr ≠ b.addr)) }

/-- The cached link block at an address. -/
def QSlice.block (y : QSlice) (addr : Nat) : Option LinkBlk := y.blocks.find? (fun b => decide (b.addr = addr))

/-- Bring the block at an address to the front of the cache, reading it where it is missing. -/
def Eng.fetch (x : Eng) (i addr : Nat) : LinkBlk × Eng :=
  match (x.s.slice i).block addr with
  | some b => (b, { x with s := x.s.modSlice i (fun y => y.front b) })
  | none =>
    let x := if 2048 ≤ (x.s.slice i).blocks.length then x.evict i else x
    let (o, x) := if x.stall then ({}, x) else x.read i addr
    let b : LinkBlk := { addr := addr, entries := entriesOf o.data, poisoned := o.poisoned }
    if x.stall then (b, x) else (b, { x with s := (x.s.qcount 0x98 1).modSlice i (fun y => y.front b) })

/-- A link block lies on a retired channel: the chain is broken there, cached or not (R249). -/
def State.blockLost (s : State) (addr : Nat) : Bool := (decodeAddr s.map addr).all (fun x => s.retired x.1)

/-- The link entry of a local cell, and whether it can be trusted (R249, R250). -/
def Eng.getEntry (x : Eng) (i l : Nat) : BitVec 64 × Bool × Eng :=
  let addr := x.s.linkBlock i l
  let (b, x) := x.fetch i addr
  (b.entries.getD (l % 8) 0, !x.s.blockLost addr && (!b.poisoned || nbit b.written (l % 8)), x)

/-- A cached link block with the entry of a local cell written. -/
def LinkBlk.put (b : LinkBlk) (l : Nat) (e : BitVec 64) : LinkBlk :=
  { b with entries := b.entries.set (l % 8) e, written := nset b.written (l % 8) true, dirty := true }

/-- Write the link entry of a local cell. -/
def Eng.setEntry (x : Eng) (i l : Nat) (e : BitVec 64) : Eng :=
  let (b, x) := x.fetch i (x.s.linkBlock i l)
  if x.stall then x else { x with s := x.s.modSlice i (fun y => y.front (b.put l e)) }

/-- A link entry (Table 3). -/
def linkEntry (next : Nat) (first last : Bool) (label len : Nat) : BitVec 64 :=
  BitVec.ofNat 64 (next * 2 ^ 36 + b2n first * 2 ^ 35 + b2n last * 2 ^ 34 + label * 2 ^ 24 + len * 2 ^ 8)

/-- Fields of a link entry. -/
def leNext (e : BitVec 64) : Nat := nfield e.toNat 63 36
def leLabel (e : BitVec 64) : Nat := nfield e.toNat 31 24
def leLen (e : BitVec 64) : Nat := nfield e.toNat 22 8

/-! ### Free cells (R238) -/

/-- Push the 16 oldest pointers of the cache onto the stack. -/
def Eng.spill (x : Eng) (i : Nat) : Eng :=
  let y := x.s.slice i
  let n := y.cache.length
  let old := (y.cache.drop (n - 16)).reverse
  let d := old.foldr (fun p acc => p + 2 ^ 32 * acc) 0
  let x := x.write i (x.s.stackBlock i (y.stack / 16)) d false
  if x.stall then x
  else { x with s := (x.s.qcount 0x9B 1).modSlice i (fun y => { y with cache := y.cache.take (n - 16), stack := y.stack + 16 }) }

/-- Cells returned while the cache was full move into it. -/
def QSlice.drain (y : QSlice) : QSlice :=
  let k := Nat.min (4096 - y.cache.length) y.backlog.length
  { y with cache := (y.backlog.take k).reverse ++ y.cache, backlog := y.backlog.drop k }

/-- Refill the cache by 16 pointers from the top stack block, or from the fresh mark; a stack block that cannot be trusted
loses its cells, and the next one or the fresh mark serves (R238, R248) (DEDUCED, log entry 56). `fuel` bounds the blocks. -/
def Eng.refill (x : Eng) (i : Nat) : Nat → Eng
  | 0 => x
  | fuel + 1 =>
    let y := x.s.slice i
    if 16 ≤ y.stack then
      let (o, x) := x.read i (x.s.stackBlock i (y.stack / 16 - 1))
      if x.stall then x
      else
        let s := x.s.qcount 0x9A 1
        if o.poisoned then
          ({ x with s := s.modSlice i (fun y => { y with stack := y.stack - 16, lost := y.lost + 16 }) }).refill i fuel
        else
          let ps := (List.range 16).map (fun j => nfield o.data (32 * j + 31) (32 * j))
          { x with s := s.modSlice i (fun y => { y with stack := y.stack - 16, cache := ps.reverse ++ y.cache }) }
    else if y.fresh < x.s.poolK then
      { x with s := x.s.modSlice i (fun y => { y with
          cache := (List.range 16).map (· + y.fresh) ++ y.cache, fresh := y.fresh + 16 }) }
    else x

/-! ### ENQ (R241, R242) -/

/-- Change a job of a link. -/
def State.modJob (s : State) (n id : Nat) (f : EnqJob → EnqJob) : State :=
  s.modLink n (fun l => { l with enqs := l.enqs.map (fun x => if x.id = id then f x else x) })

/-- The job of a link with a name. -/
def State.job (s : State) (n id : Nat) : Option EnqJob := (s.link n).enqs.find? (fun j => decide (j.id = id))

/-- The blocks of the cell `c` of a packet of `len` bytes: how many hold bytes of it. -/
def blocksIn (len c : Nat) : Nat := Nat.min 4 ((len + 63) / 64 - 4 * c)

/-- The data flits of the cell `c` of a packet of `len` bytes. -/
def flitsIn (len c : Nat) : Nat := Nat.min 8 (packetFlits len - 8 * c)

/-- The bytes of a block of a cell whose first byte is byte `at` of the packet, zero beyond its length. -/
def cellBytes (data : List Flit) (len at_ j : Nat) : Nat :=
  let d := (flitsBlock (data.getD (2 * j) {}) (data.getD (2 * j + 1) {})).toNat
  d % 2 ^ (8 * (len - at_ - 64 * j))

/-- The block writes of the next cell of a job, which is the local cell `l` (R233, R242). -/
def State.cellWrites (s : State) (n : Nat) (j : EnqJob) (l : Nat) : List Held :=
  let c := j.cells.length
  (List.range (blocksIn j.len c)).map (fun b =>
    { tag := j.tag, opc := 0x12, cls := s.qeSet 4, block := s.cellBlock (s.sliceOf j.queue) l b, psn := j.psn,
      data := BitVec.ofNat 512 (cellBytes j.data j.len (256 * c) b), entered := s.now, grp := j.id, engine := some n,
      word := if j.silent then 0 else Nat.min 2 (flitsIn j.len c - 2 * b) })

/-- A block lies on a retired channel. -/
def State.deadBlock (s : State) (h : Held) : Bool := (decodeAddr s.map h.block).all (fun x => s.retired x.1)

/-- Take a cell from the cache for a job and issue its block writes; a write to a retired channel is discarded (R242, R248). -/
def State.fillCell (s : State) (n : Nat) (j : EnqJob) : State :=
  let i := s.sliceOf j.queue
  let l := ((s.slice i).cache).headD 0
  let blocks := s.cellWrites n j l
  let live := blocks.filter (fun h => !s.deadBlock h)
  let s1 := s.modSlice i (fun y => ({ y with cache := y.cache.tail }).drain)
  let s2 := s1.modJob n j.id (fun x => { x with
    cells := x.cells ++ [l], data := x.data.drop (flitsIn j.len j.cells.length), writesLeft := x.writesLeft + live.length })
  let s3 := (blocks.filter s.deadBlock).foldl (fun t h => t.leftPort (128 + i) h) s2
  s3.modPort (128 + i) (fun p => { p with held := p.held ++ live })

/-- The next cell of a job can be filled: its flits have come, and the cache has a cell. -/
def State.cellDue (s : State) (j : EnqJob) : Bool :=
  let c := j.cells.length
  decide (c < packetCells j.len) && decide (flitsIn j.len c ≤ j.data.length) && decide ((s.slice (s.sliceOf j.queue)).cache ≠ [])

/-- Fill cells of a job as far as its flits and the cache go. -/
def State.feedJob (s : State) (n id : Nat) : Nat → State
  | 0 => s
  | k + 1 => match s.job n id with
    | some j => if s.cellDue j then (s.fillCell n j).feedJob n id k else s
    | none => s

/-- The link entry of the cell `c` of a job (Table 3): the FIRST one carries LABEL and LEN. -/
def EnqJob.entry (j : EnqJob) (base c : Nat) : BitVec 64 :=
  let last := decide (c + 1 = packetCells j.len)
  linkEntry (if last then 0 else base + j.cells.getD (c + 1) 0) (decide (c = 0)) last
    (if c = 0 then j.label else 0) (if c = 0 then j.len else 0)

/-- The number of the next cell is known where the entry of a cell needs it. -/
def EnqJob.entryKnown (j : EnqJob) (c : Nat) : Bool :=
  decide (c < j.cells.length) && (decide (c + 1 < j.cells.length) || decide (c + 1 = packetCells j.len))

/-- Write the link entries of a job whose link blocks the cache holds, in order up to the first that it misses; that one is
read before the packet is linked (R242, R246) (DEDUCED, log entry 55). -/
def State.chainHits (s : State) (n id : Nat) : Nat → State
  | 0 => s
  | k + 1 => match s.job n id with
    | none => s
    | some j =>
      let i := s.sliceOf j.queue
      let l := j.cells.getD j.chained 0
      match (s.slice i).block (s.linkBlock i l) with
      | some b =>
        if j.entryKnown j.chained then
          ((s.modSlice i (fun y => y.front (b.put l (j.entry (i * s.poolK) j.chained)))).modJob n id
            (fun x => { x with chained := x.chained + 1 })).chainHits n id k
        else s
      | none => s

/-- A job goes on with the flits and cells at hand (R242). -/
def State.pumpJob (s : State) (n id : Nat) : State := (s.feedJob n id 64).chainHits n id 64

/-- The jobs of a slice that wait for cells go on, in the order of their links. -/
def State.feedJobs (s : State) (i : Nat) : State :=
  let s := s.modSlice i QSlice.drain
  s.links.foldl (fun s l => l.2.enqs.foldl (fun s j =>
    if s.sliceOf j.queue = i ∧ j.cells.length < packetCells j.len then s.pumpJob l.1 j.id else s) s) s

/-- The jobs of every slice go on, where cells have returned. -/
def State.feedAll (s : State) : State :=
  if s.qe.due then { s with qe := { s.qe with due := false } }.each (List.range (slices s.variant)) State.feedJobs else s

/-- The queue lock passes (R148, R245): an operation of a link moves the pointer of the queue and of its sides. -/
def State.locked (s : State) (n q side : Nat) : State :=
  (s.modQueue q (fun x => { x with lockPtr := (n + 1) % 128 })).modLink n (fun l => { l with sidePtr := 1 - side })

/-- A queue breaks (R249): its cells stay in use as lost (DEDUCED, log entry 57). -/
def State.breakQueue (s : State) (q : Nat) : State :=
  let c := (s.queue q).cells
  let s := s.modQueue q (fun x => { x with head := 0, tail := 0, cells := 0, packets := 0, broken := true })
  let s := s.modSlice (s.sliceOf q) (fun y => { y with linked := y.linked - c, lost := y.lost + c })
  (s.qcount 0x96 1).report 40

/-- The state word of a queue is read: a parity failure breaks the queue (SRAM group 6, R249) (DEDUCED, log entry 59). -/
def State.readQueue (s : State) (q : Nat) (bad : Bool) : Bool × State :=
  let (p, s) := s.inject 4 6 (s.sliceOf q)
  if bad || decide (p ≠ 0) then (true, (s.sramError 2 0).breakQueue q) else (false, s)

/-- The fate of an ENQ (R241): `none` accepted, else the status of its drop. -/
def State.enqFate (s : State) (q len : Nat) : Option Nat :=
  let x := s.queue q
  let n := packetCells len
  let held := x.cells + x.reserved
  let set := s.limitSet q
  let f := s.freeCells (s.sliceOf q)
  let alpha := s.qeSet (0x40 + set)
  if s.qeSet 1 = 0 ∨ s.poolK = 0 then some 7
  else if s.qeSet (0x30 + set) < held + n then some 6
  else if f < n then some 7
  else if alpha ≠ 0xFF ∧ f * 2 ^ alpha / 16 < held + n then some 7
  else none

/-- An ENQ header reaches its slice, which decides its fate (R107, R241): an accepted one has its cells reserved, and the
header's credit returns. -/
def State.enqHead (s : State) (n tag label len q : Nat) (psn : Bool) : State :=
  let put := fun (s : State) (e : EnqIn) => s.modLink n (fun l => { l with enqIn := some e })
  let credit := fun (s : State) => if s.variant = .axd3200 then s else s.returnQdat n 1
  match s.refuseQueue with
  | some st => credit (put s { tag := tag, status := st, refused := true })
  | none =>
    let (_, s) := (s.locked n q 1).readQueue q false
    match s.enqFate q len with
    | some st => credit (put s { tag := tag, status := st })
    | none =>
      let k := packetCells len
      let (id, s) := s.newGroup
      let s := (s.modQueue q (fun x => { x with reserved := x.reserved + k })).modSlice (s.sliceOf q)
        (fun y => { y with reserved := y.reserved + k })
      let job : EnqJob := { tag := tag, label := label, len := len, queue := q, cells := [], writesLeft := 0, psn := psn,
                            id := id, toCome := packetFlits len }
      credit (put (s.modLink n (fun l => { l with enqs := l.enqs ++ [job] })) { tag := tag, job := some id })

/-- A data flit of the ENQ that a link is receiving: it goes to its job, or is discarded and its credit returns (R74, R241). -/
def State.enqFlit (s : State) (n : Nat) (f : Flit) : State :=
  match (s.link n).enqIn with
  | none => s
  | some e => match e.job with
    | some id => (s.modJob n id (fun j => { j with data := j.data ++ [f], toCome := j.toCome - 1 })).pumpJob n id
    | none => if s.variant = .axd3200 then s else s.returnQdat n 1

/-- The last data flit of an ENQ has come: a job takes its place in the order of linking, and a dropped or refused ENQ is
answered (R118, R241, R242, R252). -/
def State.enqEnd (s : State) (n : Nat) : State :=
  match (s.link n).enqIn with
  | none => s
  | some e =>
    let s := s.modLink n (fun l => { l with enqIn := none })
    match e.job with
    | some id =>
      let (k, s) := s.newGroup
      s.modJob n id (fun j => { j with order := k })
    | none =>
      if e.refused then s.noExec n e.tag 0x40 e.status
      else (s.qcount (if e.status = 6 then 0x91 else 0x92) 1).pushResp n
        { tag := e.tag, opc := 0x9A, status := e.status, entered := s.now }

/-- An ENQ that arrives whole, with its data flits (R99, R241); none arrives inside another message of its link (R68). -/
def State.enq (s : State) (n tag label len q : Nat) (psn : Bool) (data : List Flit) : State :=
  if !s.takesRequests n || (s.link n).enqIn.isSome then s
  else if !s.tagOk n tag || decide (len = 0 ∨ 16384 < len) then s.protocolError n
  else (data.foldl (fun s f => s.enqFlit n f) (s.enqHead n tag label len q psn)).enqEnd n

/-- The next job of a link that can link: its flits have come, its writes have executed, and no earlier ENQ of the link to its
queue waits. -/
def nextJob : List Nat → List EnqJob → Option EnqJob
  | _, [] => none
  | seen, j :: r =>
    if j.writesLeft = 0 ∧ j.toCome = 0 ∧ j.cells.length = packetCells j.len ∧ ¬ seen.contains j.queue then some j
    else nextJob (j.queue :: seen) r

/-- Every ENQ to the same queue whose last flit came earlier has been linked (R242). -/
def State.linkTurn (s : State) (j : EnqJob) : Bool :=
  s.links.all (fun l => l.2.enqs.all (fun x => !(decide (x.queue = j.queue) && decide (x.toCome = 0) && decide (x.order < j.order))))

/-- Flits in the QDAT output buffer of a link, those of the message being sent and of DEQs in progress among them (R75). -/
def Link.qdatUsed (l : Link) : Nat :=
  ((l.qout.map (fun d => 1 + d.flits.length)).sum) + (if l.tx.qdatMsg then l.tx.msg.length else 0) +
    (((l.deqs.filter (fun d => !d.silent)).map (fun d => 1 + packetFlits d.len)).sum)

/-- The queue command that the port of a link can pass: a DEQ only with room for 513 flits (R75). -/
def State.passable (s : State) (n : Nat) : Option QCmd :=
  match (s.port n).qcmds with
  | c :: _ => if c.opc = 0x18 ∧ 1024 < (s.link n).qdatUsed + 513 then none else some c
  | [] => none

/-- The linking that a link can present. -/
def State.linkable (s : State) (n : Nat) : Option EnqJob :=
  match nextJob [] (s.link n).enqs with
  | some j => if s.linkTurn j then some j else none
  | none => none

/-- The side and the queue of the operation that a link presents to the engine (R245): its REQ side is 0, its QDAT side 1. -/
def State.presents (s : State) (n : Nat) : Option (Nat × Nat) :=
  match s.passable n, s.linkable n with
  | some c, none => some (0, c.queue)
  | none, some j => some (1, j.queue)
  | some c, some j => if (s.link n).sidePtr = 1 then some (1, j.queue) else some (0, c.queue)
  | none, none => none

/-- A link wins the lock of a queue for an operation of a side: it presents it, and the tie-break chooses the link among all
that present one to the queue (R148, R245). The others retry. -/
def State.winsLock (s : State) (n q side : Nat) : Bool :=
  decide (s.presents n = some (side, q)) &&
    decide (tieBreak (s.queue q).lockPtr ((linkNums s).filter (fun m => decide ((s.presents m).map Prod.snd = some q))) = some n)

/-- Write the link entries of a job that are not yet written. -/
def Eng.chain (x : Eng) (n id : Nat) : Nat → Eng
  | 0 => x
  | k + 1 => match x.s.job n id with
    | none => x
    | some j =>
      if j.cells.length ≤ j.chained then x
      else
        let i := x.s.sliceOf j.queue
        let x := x.setEntry i (j.cells.getD j.chained 0) (j.entry (i * x.s.poolK) j.chained)
        if x.stall then x
        else ({ x with s := x.s.modJob n id (fun y => { y with chained := y.chained + 1 }) }).chain n id k

/-- Link a packet at the tail of its queue (R242). An untrusted tail entry breaks the queue first. -/
def Eng.linkPacket (x : Eng) (j : EnqJob) : Eng :=
  let i := x.s.sliceOf j.queue
  let base := i * x.s.poolK
  let k := packetCells j.len
  let x :=
    if (x.s.queue j.queue).packets = 0 then x
    else
      let l := (x.s.queue j.queue).tail - base
      let (e, ok, x) := x.getEntry i l
      if x.stall then x
      else if ok then x.setEntry i l (BitVec.ofNat 64 (e.toNat % 2 ^ 36 + (base + j.cells.headD 0) * 2 ^ 36))
      else { x with s := x.s.breakQueue j.queue }
  if x.stall then x
  else
    let s := x.s.modQueue j.queue (fun q => { q with
      head := if q.packets = 0 then base + j.cells.headD 0 else q.head, tail := base + (j.cells.getLast?).getD 0,
      cells := q.cells + k, packets := q.packets + 1, reserved := q.reserved - k })
    { x with s := (s.modSlice i (fun y => { y with reserved := y.reserved - k, linked := y.linked + k })).qcount 0x90 1 }

/-- The engine serves: it is present and not in block reset. -/
def State.engineRuns (s : State) : Bool :=
  s.fabricClocked && decide (slices s.variant ≠ 0) && !s.inReset 2 0

/-- ENQ_LINK: the next ENQ of a link whose cell writes have executed is linked and answered, when its turn and the queue lock
come (R242, R245). -/
def State.enqLink (s : State) (n : Nat) (env : ChanEnv) : State :=
  match s.linkable n with
  | none => s
  | some j =>
    if !s.engineRuns || !s.winsLock n j.queue 1 then s
    else
      let (_, t) := s.readQueue j.queue env.sramBad
      let x := ({ s := t, env := env } : Eng).chain n j.id 64
      let x := if x.stall then x else x.linkPacket j
      if x.stall then x.s
      else
        let t := (x.s.locked n j.queue 1).modLink n (fun l => { l with enqs := l.enqs.filter (fun y => decide (y.id ≠ j.id)) })
        if j.silent then t else t.pushResp n { tag := j.tag, opc := 0x9A, entered := t.now }

/-! ### DEQ, PEEK and QLEN (R243) -/

/-- Follow the chain from a cell: the cells reached in order, the NEXT of the last one, and whether the chain held. -/
def Eng.walk (x : Eng) (i base : Nat) : Nat → Nat → List Nat × Nat × Bool × Eng
  | 0, g => ([], g, true, x)
  | n + 1, g =>
    let (e, ok, x) := x.getEntry i (g - base)
    if ok then
      let (ls, g', ok', x) := x.walk i base n (leNext e)
      ((g - base) :: ls, g', ok', x)
    else ([g - base], 0, false, x)

/-- A DEQ on an empty queue, or on one that has broken without a readable head (R243, R249). -/
def State.deqEmpty (s : State) (n tag q : Nat) : State :=
  (s.qcount 0x94 1).pushDeq n { tag := tag, status := 8, queue := q }

/-- The cells of a packet that has left its queue are read as requests of their slice; a read on a retired channel is as good
as uncorrectable (R243, R247, R248). -/
def State.startReads (s : State) (n : Nat) (d : DeqJob) : State :=
  let i := s.sliceOf d.queue
  let reads := (List.range d.cells.length).flatMap (fun c => (List.range (blocksIn d.len c)).map (fun b =>
    ({ tag := d.tag, opc := 0x10, cls := s.qeSet 4, block := s.cellBlock i (d.cells.getD c 0) b, entered := s.now,
       grp := d.id, engine := some n, word := 4 * c + b } : Held)))
  let t := s.modLink n (fun l => { l with deqs := l.deqs ++ [d] })
  let t := t.modPort (128 + i) (fun p => { p with held := p.held ++ reads.filter (fun h => !s.deadBlock h) })
  (reads.filter s.deadBlock).foldl (fun t h => t.engineDone h { poisoned := true }) t

/-- DEQ (R243, R249): the head packet leaves its queue, and the reads of its cells are issued. -/
def Eng.deq (x : Eng) (n tag q : Nat) : Eng :=
  let i := x.s.sliceOf q
  let base := i * x.s.poolK
  let st := x.s.queue q
  if st.packets = 0 then { x with s := x.s.deqEmpty n tag q }
  else
    let (e, ok, x) := x.getEntry i (st.head - base)
    if !ok then { x with s := (x.s.breakQueue q).deqEmpty n tag q }
    else
      let len := leLen e
      let k := packetCells len
      let (ls, next, whole, x) := x.walk i base k st.head
      let s := if whole then
          (x.s.modQueue q (fun y =>
            if y.packets ≤ 1 then { y with head := 0, tail := 0, cells := 0, packets := 0 }
            else { y with head := next, cells := y.cells - k, packets := y.packets - 1 })).modSlice i
              (fun y => { y with linked := y.linked - k })
        else x.s.breakQueue q
      let (id, s) := s.newGroup
      let d : DeqJob := { tag := tag, label := leLabel e, len := len, queue := q, id := id, cells := ls,
                          left := (List.range ls.length).map (blocksIn len), give := whole,
                          cellPsn := 2 ^ k - 2 ^ ls.length }
      { x with s := s.startReads n d }

/-- Bring the link blocks that a queue command needs into the cache: of a PEEK the head's, of a DEQ those of the head packet. -/
def Eng.prefetch (x : Eng) (c : QCmd) : Eng :=
  let i := x.s.sliceOf c.queue
  let base := i * x.s.poolK
  let st := x.s.queue c.queue
  if st.packets = 0 ∨ c.opc = 0x1A then x
  else
    let (e, ok, x) := x.getEntry i (st.head - base)
    if x.stall || !ok || decide (c.opc ≠ 0x18) then x
    else
      let (_, _, _, x) := x.walk i base (packetCells (leLen e)) st.head
      x

/-- PEEK (R243). One that finds the chain broken at its head breaks the queue and is answered EMPTY, as R249 answers a DEQ
that finds no readable head (DEDUCED, log entry 153). -/
def Eng.peek (x : Eng) (n tag q : Nat) : Eng :=
  let i := x.s.sliceOf q
  let st := x.s.queue q
  let empty := fun (s : State) => s.pushResp n { tag := tag, opc := 0x98, status := 8, entered := s.now }
  if st.packets = 0 then { x with s := empty x.s }
  else
    let (e, ok, x) := x.getEntry i (st.head - i * x.s.poolK)
    if ok then { x with s := x.s.pushResp n { tag := tag, opc := 0x98, entered := x.s.now
                                              value := BitVec.ofNat 32 (leLabel e * 2 ^ 16 + leLen e) } }
    else { x with s := empty (x.s.breakQueue q) }

/-- QUEUE_CMD_PASS: the port passes its next queue command to the engine, which executes it when the queue lock comes (R75,
R117, R245). While the slice waits for a link block the command waits. -/
def State.queuePass (s : State) (n : Nat) (env : ChanEnv) : State :=
  match s.passable n with
  | none => s
  | some c =>
    if !s.engineRuns || !s.winsLock n c.queue 0 then s
    else
      let (_, t) := s.readQueue c.queue env.sramBad
      let x := ({ s := t, env := env } : Eng).prefetch c
      if x.stall then x.s
      else
        let t := ((x.s.modPort n (fun p => { p with qcmds := p.qcmds.tail })).closeGroup n c.grp).locked n c.queue 0
        let x := { x with s := t }
        let x := if c.opc = 0x18 then x.deq n c.tag c.queue
          else if c.opc = 0x19 then x.peek n c.tag c.queue
          else { x with s := t.pushResp n { tag := c.tag, opc := 0x99, entered := t.now
                                            packets := (t.queue c.queue).packets, cells := (t.queue c.queue).cells } }
        x.s

/-! ### Cache, link blocks and flushes as steps of their own -/

/-- CACHE_REFILL: below 1,024 pointers (R238). -/
def State.cacheRefill (s : State) (i : Nat) (env : ChanEnv) : State :=
  if s.engineRuns && decide (i < slices s.variant) && decide (s.poolK ≠ 0) && decide ((s.slice i).cache.length < 1024) then
    (({ s := s, env := env } : Eng).refill i ((s.slice i).stack / 16 + 1)).s.feedJobs i
  else s

/-- CACHE_SPILL: above 3,072 pointers (R238). -/
def State.cacheSpill (s : State) (i : Nat) (env : ChanEnv) : State :=
  if s.engineRuns && decide (i < slices s.variant) && decide (3072 < (s.slice i).cache.length) then
    (({ s := s, env := env } : Eng).spill i).s.feedJobs i
  else s

/-- LINK_BLOCK_EVICT: the cache of 2,048 blocks is full (R246). -/
def State.linkEvict (s : State) (i : Nat) (env : ChanEnv) : State :=
  if s.engineRuns && decide (i < slices s.variant) && decide (2048 ≤ (s.slice i).blocks.length) then
    (({ s := s, env := env } : Eng).evict i).s
  else s

/-- The key of QFLUSH. -/
def kFlush : Nat := ekey 0x3000 0x73

/-- QFLUSH of a queue (R244): the list is detached. The status of the write, and the state. -/
def State.qflush (s : State) (q : Nat) : Nat × State :=
  let x := s.queue q
  let s := s.modQueue q (fun y => { y with head := 0, tail := 0, cells := 0, packets := 0, broken := false })
  if s.poolK = 0 ∨ x.cells = 0 then (0, s.cmdEnd kFlush 0)
  else
    let i := s.sliceOf q
    let s := s.modSlice i (fun y => { y with linked := y.linked - x.cells, awaiting := y.awaiting + x.cells })
    (0, ({ s with qe := { s.qe with flush := some { slice := i, cell := x.head, left := x.cells } } }).cmdStart kFlush)

/-- QFLUSH_WALK_STEP: one cell of the detached list returns to the cache, once it has room; an untrusted entry ends the walk
(R244). -/
def State.flushStep (s : State) (env : ChanEnv) : State :=
  match s.qe.flush with
  | none => s
  | some f =>
    let i := f.slice
    let base := i * s.poolK
    if !s.engineRuns || decide ((s.slice i).backlog ≠ [] ∨ 4096 ≤ (s.slice i).cache.length) then s
    else
      let x : Eng := { s := s, env := env }
      let done := fun (t : State) => ({ t with qe := { t.qe with flush := none } }).cmdEnd kFlush 0
      let give := fun (t : State) => t.modSlice i (fun y =>
        { (y.giveCell (f.cell - base)) with awaiting := y.awaiting - 1 })
      if f.left ≤ 1 then (done (give s)).feedJobs i
      else
        let (e, ok, x) := x.getEntry i (f.cell - base)
        if x.stall then x.s
        else if ok then
          let t := give x.s
          ({ t with qe := { t.qe with flush := some { f with cell := leNext e, left := f.left - 1 } } }).feedJobs i
        else
          let t := x.s.modSlice i (fun y => { y with awaiting := y.awaiting - f.left, lost := y.lost + f.left })
          done ((t.qcount 0x96 1).report 40)

/-! ### Pool and block reset (R236, R251, R252) -/

/-- The pool starts afresh: stacks, caches, fresh marks, queues and link blocks are empty (R236). -/
def State.poolInit (s : State) (clearBroken : Bool) : State :=
  { s with qe := { s.qe with
    slices := []
    queues := s.qe.queues.foldl (fun m x =>
      mset {} m x.1 { lockPtr := x.2.lockPtr, broken := x.2.broken && !clearBroken }) [] } }

/-- POOL_RESET: its status and the state (R251). -/
def State.poolReset (s : State) : Nat × State :=
  if s.qeSet 1 ≠ 0 ∨ s.qe.flush ≠ none ∨
      s.qe.queues.any (fun q => decide (q.2.packets ≠ 0 ∨ q.2.cells ≠ 0 ∨ q.2.reserved ≠ 0)) then (0x0109, s)
  else (0, s.poolInit true)

/-- LS_FILL: stage a limit set for a range of queues; `first ≤ last` (R253). -/
def State.lsFill (s : State) (first last set : Nat) : State :=
  let old := s.qe.limitStage
  let mid := if set = 0 then [] else (List.range (last + 1 - first)).map (fun i => (first + i, set))
  { s with qe := { s.qe with
    limitStage := old.filter (fun e => decide (e.1 < first)) ++ mid ++ old.filter (fun e => decide (last < e.1)) } }

/-- The ENQs of a link that are not linked are answered RETRY_UNAVAILABLE, and what they hold is discarded; the one that the
link is still receiving is answered once its remaining flits have been discarded (R252). -/
def State.dropJobs (s : State) (n : Nat) : State :=
  let js := (s.link n).enqs
  let s := s.modLink n (fun l => { l with
    enqs := [], enqIn := l.enqIn.map (fun e => if e.job.isSome then { tag := e.tag, status := 3, refused := true } else e) })
  js.foldl (fun s j =>
    let s := if j.silent || decide (j.toCome ≠ 0) then s else s.noExec n j.tag 0x40 3
    if j.silent then s else s.returnQdat n j.data.length) s

/-- A block read of a DEQ completes before a reset (R252) (DEDUCED, log entry 58). -/
def State.completeRead (s : State) (h : Held) : State :=
  if h.opc = 0x10 then
    match decodeAddr s.map h.block with
    | some (m, a) => if s.retired m then s.engineDone h { poisoned := true }
      else
        let (o, _, s) := s.readOne m a 0 {} true
        s.engineDone h o
    | none => s.engineDone h { poisoned := true }
  else s

/-- The engine is emptied (R252): DEQs whose packets have left their queues complete, what waits is answered
RETRY_UNAVAILABLE, a flush that runs is over with its cells, and the pool starts afresh. -/
def State.engineEmpty (s : State) : State :=
  let s := s.each (chanNums s) (fun t m =>
    let out := (t.chan m).queue.filter (fun e => e.req.engine.isSome)
    let t := t.modChan m (fun c => { c with queue := c.queue.filter (fun e => e.req.engine.isNone) })
    out.foldl (fun u e => u.completeRead e.req) t)
  let s := s.each ((List.range (slices s.variant)).map (· + 128)) (fun t p =>
    let out := (t.port p).held
    out.foldl (fun u h => (u.leftPort p h).completeRead h) (t.setPort p {}))
  let s := s.each (linkNums s) (fun t n => (t.refuseQcmds n 3).dropJobs n)
  let s := match s.qe.flush with
    | some _ => ({ s with qe := { s.qe with flush := none } }).cmdEnd kFlush 0
    | none => s
  s.poolInit false

/-- A block reset of the queue engine (R252): its counters are cleared, and packets lost are counted and reported
(DEDUCED, log entry 58). -/
def State.engineReset (s : State) : State :=
  let lost := (s.qe.queues.map (fun q => q.2.packets)).sum
  let s := s.engineEmpty
  let s := s.each ((List.range 12).map (· + 0x90)) (fun t k => t.rset (ekey 0x3000 k) 0)
  let s := { s with qe := { s.qe with queues := s.qe.queues.foldl (fun m x => mset {} m x.1 { x.2 with lockPtr := 0 }) [] } }
  if lost = 0 then s else (s.qcount 0x9C lost).report 41

end Sys2Proof.Machine
end

