-- ==== Sys2Proof/Machine/Granary.lean ====
section
/-!
DEFINITION. Granary: the antifuse array (R390–R408). Sensing and its checks, the boot policies, the fields of the array,
and the programming sequencer. The antifuses themselves only ever gain bits; what a sense reads of them is the
surroundings' to say (R394).
-/

namespace Sys2Proof.Machine

/-! ### Words and regions (R390–R392) -/

/-- First and last word of the regions 0–8 (Table 1). -/
def granRegions : List (Nat × Nat) :=
  [(0, 15), (16, 79), (80, 87), (88, 89), (90, 105), (106, 617), (618, 873), (874, 1001), (1002, 1023)]

/-- The words of a region. -/
def regionWords (r : Nat) : List Nat :=
  let b := granRegions.getD r (0, 0)
  (List.range (b.2 + 1 - b.1)).map (· + b.1)

/-- The region of a word. -/
def regionOfWord (w : Nat) : Nat := (granRegions.filter (fun b => decide (b.2 < w))).length

/-- A word of a map of words. -/
def gword (m : SMap (BitVec 32)) (w : Nat) : BitVec 32 := mget 0 m w

/-- The shadow value of a word, which every consumer uses (R395). -/
def State.shadow (s : State) (w : Nat) : BitVec 32 := gword s.gran.shadow w

/-- Bits of a shadow word. -/
def State.shadowField (s : State) (w hi lo : Nat) : Nat := nfield (s.shadow w).toNat hi lo

/-- What the array reads as programmed: the OR of both copies (R390). -/
def Granary.fused (g : Granary) : SMap (BitVec 32) :=
  g.c1.foldl (fun m e => mset 0 m e.1 (gword m e.1 ||| e.2)) g.c0

/-! ### CRC (R393) -/

/-- The CRC of a region over given values. -/
def regionCrc (v : SMap (BitVec 32)) (r : Nat) : Nat :=
  let c := (regionWords r).foldl (fun c w => crc16 c (bitsOf 32 (gword v w).toNat)) 0xFFFF
  if c = 0 then 0xFFFF else c

/-- CRC_r as given values hold it. -/
def storedCrc (v : SMap (BitVec 32)) (r : Nat) : Nat :=
  let w := (gword v (1004 + r / 2)).toNat
  if r % 2 = 0 then w % 65536 else w / 65536

/-- The regions that carry a CRC. -/
def crcRegions : List Nat := [0, 1, 2, 4, 5, 6, 7]

/-- The CRC checks of one sensing: every write-locked region, each one a check of injection kind 6 (R393, R401). -/
def State.crcChecks (s : State) : State :=
  let v := s.gran.normal
  let s := { s with gran := { s.gran with crcChecked := 0, crcFail := 0 } }
  s.each (crcRegions.filter (fun r => nbit s.gran.wlock r)) (fun t r =>
    let (p, t) := t.inject 6 r 0
    let bad := decide (p ≠ 0) || decide (storedCrc v r ≠ regionCrc v r)
    { t with gran := { t.gran with
      crcChecked := nset t.gran.crcChecked r true, crcFail := nset t.gran.crcFail r bad } })

/-! ### Sensing (R394–R396, R401) -/

/-- Both senses of every word: as programmed, but for the words that the surroundings make read otherwise. -/
def State.sense (s : State) (at' : List SenseAt) : State :=
  let f := s.gran.fused
  let n := at'.foldl (fun m x => mset 0 m x.word x.normal) f
  let g := at'.foldl (fun m x => mset 0 m x.word (x.margin &&& x.normal)) f
  { s with gran := { s.gran with normal := n, margin := g } }

/-- The words at which two maps differ. -/
def wordsDiffering (a b : SMap (BitVec 32)) : List Nat :=
  ((a.map Prod.fst ++ b.map Prod.fst).filter (fun w => decide (gword a w ≠ gword b w))).foldl insertOnce []

/-- The alarm of a sensing (R396). -/
def State.granAlarm (s : State) : State :=
  if decide (s.gran.marginal ≠ []) || decide (s.gran.changed ≠ []) || decide (s.gran.crcFail ≠ 0) then
    ({ s with gran := { s.gran with alarm := true } }).report 72
  else s

/-- TJ at the end of a sensing is recorded (R394). -/
def State.senseTemp (s : State) : State := s.rset (ekey 0x5000 0x0E) (i20 s.therm.tj)

/-- Variant and grade that word 80 names (Table 5); `none` where the region matches no row. -/
def State.variantFuse (s : State) : Option (Variant × Bool) :=
  let v := (s.shadow 80).toNat
  let grade := nbit v 9
  if (List.range 7).any (fun i => decide (s.shadow (81 + i) ≠ 0)) then none
  else if v % 512 = 0x101 ∧ v < 1024 then some (.axd6400, grade)
  else if v % 512 = 0x102 ∧ v < 1024 then some (.axd4800, grade)
  else if v % 512 = 0x003 ∧ v < 1024 then some (.axd3200, grade)
  else none

/-- Bits of a mark that read 1 (R409): the FIELD mark 0, RETURN 1, VOID 2. -/
def markCount (v : SMap (BitVec 32)) (k : Nat) : Nat :=
  weightGo 16 ((gword v (if k = 2 then 89 else 88)).toNat / (if k = 1 then 65536 else 1) % 65536)

/-- The state that the marks name (R409). -/
def lcDecode (v : SMap (BitVec 32)) : LcState :=
  if 9 ≤ markCount v 2 then .void else if 9 ≤ markCount v 1 then .ret else if 9 ≤ markCount v 0 then .field else .mfg

/-- The regions to which Table 3 applies a policy (DEDUCED, log entry 116). -/
def State.policies (s : State) : Nat :=
  [0, 1, 2, 4, 5, 6].foldl (fun acc r =>
    if nbit s.gran.crcFail r || (decide (r = 2) && s.variantFuse.isNone) then nset acc r true else acc) 0

/-- The end of the sensing after a reset: shadows, locks, checks, policies, variant, life-cycle state and nonce (R394–R397,
R400, R409, R419). -/
def State.sensed (s : State) (at' : List SenseAt) : State :=
  let s := s.sense at'
  let g := s.gran
  let s := { s with gran := { g with
    shadow := g.normal, marginal := wordsDiffering g.normal g.margin, changed := [], senseState := 1
    ident := (List.range 7).map (gword g.normal)
    wlock := (gword g.normal 1002).toNat % 512, rlock := (gword g.normal 1003).toNat % 512 } }
  let s := s.crcChecks
  let p := s.policies
  let vf := if nbit p 2 then (.axd3200, true) else s.variantFuse.getD (.axd3200, true)
  let s := { s with
    gran := { s.gran with policy := p }, variant := vf.1, gradeFs := vf.2
    lc := { s.lc with st := lcDecode s.gran.shadow, nonce := Config.nonce s.free } }
  s.tick.senseTemp.granAlarm

/-- GRAN_RESENSE: both senses again; shadows and consumers keep what they have (R401) (DEDUCED, log entry 117). -/
def State.resense (s : State) (at' : List SenseAt) : State :=
  let s := s.sense at'
  let g := s.gran
  let s := { s with gran := { g with
    marginal := (wordsDiffering g.normal g.margin).foldl insertOnce g.marginal
    changed := wordsDiffering g.normal g.shadow } }
  (s.crcChecks.senseTemp.count (ekey 0x5000 0x0B) 1).granAlarm

/-! ### Programming (R403–R406) -/

/-- TJ lies in the programming window. -/
def State.tempIn (s : State) : Bool := decide (0 ≤ s.therm.tj) && decide (s.therm.tj ≤ 87040)

/-- The conditions of a programming pulse (R403). -/
def State.progOk (s : State) : Bool :=
  s.power.vprogOk && s.power.vauxOk && s.tempIn && !s.therm.causeSense

/-- Program the masked bits of a word that do not read 1 at margin sense; `stuck` are bits that do not verify. Whether
every masked bit verified, and the state (R404). A verified bit-copy takes one pulse, another four
(DEDUCED, log entry 114). -/
def State.programWord (s : State) (w : Nat) (mask stuck : BitVec 32) : Bool × State :=
  let g := s.gran
  let need := mask &&& ~~~ gword g.margin w
  if need = 0 then (true, s)
  else
    let good := need &&& ~~~ stuck
    let bad := need &&& stuck
    let weak := bad &&& Config.weakBits s.free w
    let add := fun (m : SMap (BitVec 32)) (x : BitVec 32) => mset 0 m w (gword m w ||| x)
    let n := add g.normal (good ||| weak)
    let s := { s with gran := { g with
      c0 := add g.c0 (good ||| weak), c1 := add g.c1 (good ||| weak), normal := n, margin := add g.margin good
      shadow := mset 0 g.shadow w (gword n w)
      changed := g.changed.filter (fun x => decide (x ≠ w))
      marginal := if bad = 0 then g.marginal else insertOnce g.marginal w } }
    let s := s.count (ekey 0x5000 0x0A) (2 * weightGo 32 good.toNat + 8 * weightGo 32 bad.toNat)
    (decide (bad = 0), if bad = 0 then s else s.tick)

/-- How a programming command ends at one word. -/
inductive ProgEnd where
  | ok
  | failed
  | stopped
deriving DecidableEq, Repr

/-- Program word number `i` of a command under its surroundings (R403, R404): a command that loses a condition stops, and
the bits already programmed stand (DEDUCED, log entry 115). -/
def State.programStep (s : State) (w : Nat) (mask : BitVec 32) (env : ProgEnv) (i : Nat) : ProgEnd × State :=
  let (ok, t) := s.programWord w mask env.stuck
  match env.stopAfter with
  | some n => if n ≤ i then (.stopped, t) else (if ok then .ok else .failed, t)
  | none => (if ok then .ok else .failed, t)

/-- The status of a command of one word: OK, PROGRAM_FAILED, PRECONDITION. -/
def ProgEnd.status : ProgEnd → Nat
  | .ok => 0
  | .failed => 0x0411
  | .stopped => 0x0109

/-- The region by which a bit of a word is governed; `none` where GRAN_PROGRAM never reaches it (R405, Table 2). -/
def governs (w bit : Nat) : Option Nat :=
  if 1023 < w then none
  else if w < 1002 then (if regionOfWord w = 3 then none else some (regionOfWord w))
  else if 1004 ≤ w ∧ w ≤ 1007 then
    let r := 2 * (w - 1004) + (if 16 ≤ bit then 1 else 0)
    if r = 3 then none else some r
  else none

/-- The life-cycle state opens a region to programming (Table 6). -/
def lcOpens (st : LcState) (r : Nat) : Bool :=
  match st with
  | .mfg => true
  | .field => decide (r = 6 ∨ r = 7)
  | .ret => decide (r = 6)
  | .void => false

/-- A bit that a lock closes: its region's WLOCK, and for the words of G-LOCKS that of G-LOCKS itself (R406). -/
def State.bitLocked (s : State) (w r : Nat) : Bool := nbit s.gran.wlock r || (decide (1002 ≤ w) && nbit s.gran.wlock 8)

/-- Why GRAN_PROGRAM is refused, or 0 (R403, R405) (DEDUCED, log entry 118). -/
def State.programRefused (s : State) (w : Nat) (mask : BitVec 32) : Nat :=
  let bits := (List.range 32).filter (fun i => mask.getLsbD i)
  if 1023 < w ∨ bits.any (fun i => (governs w i).isNone) then 0x0105
  else if !s.progOk then 0x0109
  else if bits.any (fun i => (governs w i).any (fun r => !lcOpens s.lc.st r)) then 0x0412
  else if bits.any (fun i => (governs w i).any (s.bitLocked w)) then 0x0410
  else 0

/-- Why GRAN_LOCK is refused, or 0 (R403, R406) (DEDUCED, log entry 119). -/
def State.lockRefused (s : State) (r : Nat) : Nat :=
  if 8 < r ∨ r = 3 then 0x0105
  else if !s.progOk then 0x0109
  else if !lcOpens s.lc.st r then 0x0412
  else if nbit s.gran.wlock 8 then 0x0410
  else 0

/-- The lock fuses act as soon as they have verified (R406). -/
def State.takeLocks (s : State) : State :=
  { s with gran := { s.gran with
    wlock := s.gran.wlock ||| ((gword s.gran.margin 1002).toNat % 512)
    rlock := s.gran.rlock ||| ((gword s.gran.margin 1003).toNat % 512) } }

/-- Program lock fuses of a region: bit 0 the write lock, bit 1 the read lock (R406). -/
def State.lockRegion (s : State) (r locks : Nat) (env : ProgEnv) (i : Nat) : ProgEnd × State :=
  let bit := BitVec.ofNat 32 (2 ^ r)
  let (e, s) := if nbit locks 0 then s.programStep 1002 bit env i else (.ok, s)
  let (e, s) := if e = .ok ∧ nbit locks 1 then s.programStep 1003 bit env (i + b2n (nbit locks 0)) else (e, s)
  (e, s.takeLocks)

/-! ### Repair records (R286, R287) -/

/-- Words of the two repair regions, in the order in which records are applied. A region whose policy forbids it gives no
record (Table 3). -/
def State.recordWords (s : State) : List Nat :=
  (if nbit s.gran.policy 5 then [] else regionWords 5) ++ regionWords 6

/-- The records: words that are neither unprogrammed nor void. -/
def State.records (s : State) : List Nat :=
  (s.gran.shadow.filter (fun e => decide (e.1 ∈ s.recordWords) && decide (e.2 ≠ BitVec.allOnes 32))).map (fun e => e.2.toNat)

/-- The type of a record, 0 where Table 3 does not define its pattern (DEDUCED, log entry 120). -/
def recordType (v : Nat) : Nat :=
  let t := nfield v 31 29
  let layer := decide (nfield v 28 24 ≤ 17)
  if t = 1 then (if layer ∧ v % 4 = 0 then 1 else 0)
  else if t = 2 then (if layer ∧ nfield v 12 6 ≤ 71 ∧ v % 64 = 0 then 2 else 0)
  else if t = 3 then (if nfield v 21 17 ≤ 17 ∧ nfield v 16 11 ≤ 45 ∧ v % 512 = 0 then 3 else 0)
  else if t = 4 then (if v % 2 ^ 22 = 0 then 4 else 0)
  else if t = 5 then (if nfield v 28 24 < 16 ∧ 16 ≤ nfield v 23 19 ∧ nfield v 23 19 ≤ 17 ∧ v % 2 ^ 19 = 0 then 5 else 0)
  else 0

/-- Apply a row or column record to the repair state of its location: `none` without an idle spare (R287). -/
def ChanRep.applyRecord (c : ChanRep) (v : Nat) : Option ChanRep :=
  let k := nfield v 20 17
  if recordType v = 1 then
    let u := mget 0 c.usedRows k
    if 63 ≤ u then none
    else some { c with
      remap := mput c.remap (k * 32768 + nfield v 16 2) u, usedRows := mset 0 c.usedRows k (u + 1) }
  else
    let u := mget 0 c.usedCols k
    if 8 ≤ u then none
    else some { c with
      cols := c.cols ++ [(k, nfield v 16 13, nfield v 12 6)], usedCols := mset 0 c.usedCols k (u + 1) }

/-- Layer and slot of a row or column record. -/
def recordLayer (v : Nat) : Nat := nfield v 28 24
def recordSlot (v : Nat) : Nat := nfield v 23 21

/-- The row and column records of a location on a layer and slot. -/
def State.locationRecords (s : State) (layer slot : Nat) : List Nat :=
  s.records.filter (fun v => decide (recordType v = 1 ∨ recordType v = 2) && decide (recordLayer v = layer) &&
    decide (recordSlot v = slot))

/-- The repairs that the records give a location on a layer and slot, with the number of records ignored (R287). -/
def State.locationApply (s : State) (c : ChanRep) (layer slot : Nat) : Nat × ChanRep :=
  (s.locationRecords layer slot).foldl (fun x v => match x.2.applyRecord v with
    | some r => (x.1, r)
    | none => (x.1 + 1, x.2)) (0, { c with remap := [], usedRows := [], usedCols := [], cols := [] })

/-- The repairs that the records give a location on a layer and slot. -/
def State.locationRepairs (s : State) (c : ChanRep) (layer slot : Nat) : ChanRep := (s.locationApply c layer slot).2

/-- HARD_REPAIRS: the records of G-REPAIR-FIELD that the home location of a channel has in force. -/
def State.hardRepairs (s : State) (m : Nat) : Nat :=
  let c := (s.chan m).rep
  (s.gran.shadow.filter (fun e =>
    let v := e.2.toNat
    let k := nfield v 20 17
    decide (618 ≤ e.1 ∧ e.1 ≤ 873) && decide (e.2 ≠ BitVec.allOnes 32) && decide (recordLayer v = s.home m) &&
      decide (recordSlot v = m % 8) &&
      ((decide (recordType v = 1) && (mfind c.remap (k * 32768 + nfield v 16 2)).isSome) ||
        (decide (recordType v = 2) && c.cols.contains (k, nfield v 16 13, nfield v 12 6))))).length

/-- Apply one record at power-up (R287): the state, with an ignored record counted (DEDUCED, log entry 78). -/
def State.applyRecord (s : State) (v : Nat) : State :=
  let ignored := fun (s : State) => { s with repair := { s.repair with ignored := s.repair.ignored + 1 } }
  let t := recordType v
  if t = 0 then ignored s
  else if t = 1 ∨ t = 2 then
    if 16 ≤ recordLayer v then s
    else
      let m := recordLayer v * 8 + recordSlot v
      match (s.chan m).rep.applyRecord v with
      | some r => s.modChan m (fun c => { c with rep := r })
      | none => ignored s
  else if t = 3 then
    let m := nfield v 28 22
    let hop := nfield v 21 17
    let f := nfield v 16 11
    let sp := 46 + nfield v 10 9
    let c := s.chan m
    let stored := fun (i : Nat) => mget (siteDefault i) c.vl.sites (hop * 50 + i)
    if stored sp / 2 ^ 13 ≠ 4 then ignored s
    else
      let was := [46, 47, 48, 49].filter (fun i => decide (stored i = f))
      let c := was.foldl (fun c i => c.setSite hop i (5 * 2 ^ 13 + 0x3F)) c
      s.setChan m ((c.setSite hop sp f).setSite hop f (2 * 2 ^ 13 + 0x3F))
  else if t = 4 then
    let m := nfield v 28 22
    (s.modChan m (fun c => { c with st := .retired })).rset (chanKey m 0xD5) 7
  else
    let src := nfield v 28 24
    if nfield v 23 19 = 16 then
      { s with repair := { s.repair with assign16 := some (s.repair.assign16.getD src) } }
    else { s with repair := { s.repair with assign17 := some (s.repair.assign17.getD src) } }

/-- Apply every record, as each power-up and chip reset does before training (R287). Those of the spare layers' locations, which
no channel has as its home yet, are judged with the others. -/
def State.applyRecords (s : State) : State :=
  let lost := ((List.range 16).map (fun i => (s.locationApply {} (16 + i / 8) (i % 8)).1)).sum
  s.records.foldl State.applyRecord { s with repair := { s.repair with ignored := lost } }

/-! ### HARDEN (R288) -/

/-- The unprogrammed records of G-REPAIR-FIELD. -/
def State.freeRecords (s : State) : List Nat := (regionWords 6).filter (fun w => decide (s.shadow w = 0))

/-- A record has been written: the repair-list entries that it covers are hard repaired. -/
def State.hardened (s : State) (v : Nat) : State :=
  let hit := fun (e : BitVec 64) =>
    decide (rlState e = 1) && decide (rlKind e = recordType v) && decide (rlLayer e = recordLayer v) &&
      decide (rlChan e % 8 = recordSlot v) && decide (rlBank e = nfield v 20 17) &&
      (if recordType v = 1 then decide (rlRow e = nfield v 16 2)
       else decide (rlCol e = nfield v 16 13) && decide (rlSym e = nfield v 12 6))
  { s with repair := { s.repair with
    unhardened := s.repair.unhardened.drop 1
    list := s.repair.list.map (fun e => if hit e then rlSetState e 2 else e) } }

/-- Write the records still due, `n` words at most: each at the lowest unprogrammed index, made void on a mismatch and
written again at the next. The status of the end, and the state (DEDUCED, log entry 79). -/
def State.hardenGo (s : State) (env : ProgEnv) (i : Nat) : Nat → Nat × State
  | 0 => (0, s)
  | n + 1 =>
    match s.repair.unhardened, s.freeRecords with
    | [], _ => (0, s)
    | _, [] => (0x0401, s)
    | r :: _, w :: _ =>
      let (e, t) := s.programStep w r env i
      match e with
      | .ok => ((t.count (ekey 0x5000 0x09) 1).hardened r.toNat).hardenGo env (i + 1) n
      | .stopped => (0x0109, if gword t.gran.margin w = r then t.hardened r.toNat else t)
      | .failed => (t.programWord w (BitVec.allOnes 32) 0).2.hardenGo { env with stuck := 0 } (i + 1) n

/-- Why HARDEN is refused, or 0. -/
def State.hardenRefused (s : State) : Nat :=
  if !s.progOk || nbit s.gran.wlock 6 then 0x0109
  else if s.freeRecords.length < s.repair.unhardened.length then 0x0401 else 0

/-- HARDEN: the status and the state. -/
def State.hardenAll (s : State) (env : ProgEnv) : Nat × State := s.hardenGo env 0 257

end Sys2Proof.Machine
end

