-- ==== Sys2Proof/Machine/Repair.lean ====
section
/-!
DEFINITION. Repair: soft row and column repair (R281–R283) and the evacuation of a layer (R289–R293).
-/

namespace Sys2Proof.Machine

/-! ### Candidates that can be repaired (R281) -/

/-- A slice tests the row: its candidate waits until the slice has ended (Table 7 of the self-test chapter). -/
def Chan.sliceAt (c : Chan) (k w : Nat) : Bool := c.rep.slice.any (fun x => decide (x.bank = k) && decide (x.row = w))

/-- A pending candidate of a kind that a channel can repair now: it names the channel's home location, and its repair is
automatic or has been asked for by REPAIR_REQUEST. -/
def State.nextRepair (s : State) (m kind : Nat) : Option (BitVec 64) :=
  s.repair.list.find? (fun e =>
    decide (rlKind e = kind) && decide (rlState e = 0) && decide (rlChan e = m) && decide (rlLayer e = s.home m) &&
      s.wanted e && s.spareFor e &&
      !(decide (kind = 1) && (s.chan m).sliceAt (rlBank e) (rlRow e)))

/-- A repair has been made: its list entry is soft repaired, and HARDEN has a record to write, once. -/
def State.softRepaired (s : State) (e : BitVec 64) (record : Nat) : State :=
  let s := { s with repair := { s.repair with
    list := mapFirst (fun x => sameLocation x e && decide (rlState x = 0)) (fun x => rlSetState x 1) s.repair.list
    asked := s.repair.asked.filter (fun x => !sameLocation x e) } }
  if s.repair.unhardened.contains (BitVec.ofNat 32 record) then s else s.note record

/-- Location bits of a row or column record. -/
def recordPlace (type layer slot bank : Nat) : Nat := type * 2 ^ 29 + layer * 2 ^ 24 + slot * 2 ^ 21 + bank * 2 ^ 17

/-! ### Row repair (R282) -/

/-- A block that has been read is written as a new codeword of its data, zero where it is not valid. -/
def State.recodeBlock (m : Nat) (s : State) (h : Nat) (o : ReadOut) : State :=
  s.storeWord m h (if o.valid then encodeBlock o.data else 0)

/-- The row of a candidate moves to the lowest-numbered idle spare: a soft repair. Candidates that find no spare any more are
judged. -/
def State.remapRow (s : State) (m : Nat) (e : BitVec 64) : State :=
  let k := rlBank e
  let s := s.modChan m (fun c =>
    let u := mget 0 c.rep.usedRows k
    { c with rep := { c.rep with
      remap := mput c.rep.remap (k * 32768 + rlRow e) u, usedRows := mset 0 c.rep.usedRows k (u + 1) } })
  (s.softRepaired e (recordPlace 1 (rlLayer e) (m % 8) k + rlRow e * 4)).rejudge

/-- Repair the row of a candidate onto the lowest-numbered idle spare. Both rows are activated, and both activations count under
the row address (R194) (DESIGN CHOICE, log entry 164). -/
def State.repairRow (s : State) (m : Nat) (e : BitVec 64) (noise : List Nat) (env : ChanEnv) : State :=
  let k := rlBank e
  let w := rlRow e
  let h := localOf k w 0
  let (written, s) := s.lookupRegion m (regionOf h) env.rmapBad
  let s := s.maintCheck m env
  if s.retired m then s
  else
    let s := if written then
        State.readRow (State.recodeBlock m) ((s.maintRow m h).activate m k w) m h 16 noise (env.vNoise, env.pNoise)
      else s
    (s.maintained m).remapRow m e

/-- ROW_REPAIR: one maintenance entry. -/
def State.rowRepair (s : State) (m : Nat) (noise : List Nat) (env : ChanEnv) : State :=
  match s.nextRepair m 1 with
  | some e => if s.mayRun m then s.repairRow m e noise env else s
  | none => s

/-! ### Column repair (R283) -/

/-- The decoded symbol of a block of the column under migration is stored; one that does not decode keeps the symbol as read. -/
def State.migrateBlock (m col sym : Nat) (s : State) (h : Nat) (o : ReadOut) : State :=
  if colOf h = col ∧ o.valid ∧ !o.failed then
    let at_ := fun (v : Nat) => nfield v (8 * sym + 7) (8 * sym) * 2 ^ (8 * sym)
    s.modMem m (fun c =>
      let v := mget 0 c.arr h
      { c with arr := mset 0 c.arr h (v - at_ v + at_ (encodeBlock o.data)) })
  else s

/-- The column migration of a channel moves on by one row; after the last one the repair stands. -/
def State.migrate (s : State) (m : Nat) (k col sym w : Nat) (noise : List Nat) (env : ChanEnv) : State :=
  let h := localOf k w 0
  let (written, s) := s.lookupRegion m (regionOf h) env.rmapBad
  let s := if written then
      State.readRow (State.migrateBlock m col sym) (s.maintRow m h) m h 16 noise (env.vNoise, env.pNoise)
    else s
  let s := s.maintained m
  if w < 32767 then s.modChan m (fun c => { c with rep := { c.rep with migr := some (k, col, sym, w + 1) } })
  else
    let s := s.modChan m (fun c => { c with rep := { c.rep with migr := none, cols := c.rep.cols ++ [(k, col, sym)] } })
    s.softRepaired (candidate 2 0 (s.home m) m k 0 col sym 0 false)
      (recordPlace 2 (s.home m) (m % 8) k + col * 2 ^ 13 + sym * 2 ^ 6)

/-- A migration starts: it takes the next spare column of the bank. -/
def State.startMigration (s : State) (m : Nat) (e : BitVec 64) : State :=
  let k := rlBank e
  (s.modChan m (fun c => { c with rep := { c.rep with
    migr := some (k, rlCol e, rlSym e, 0), usedCols := mset 0 c.rep.usedCols k (mget 0 c.rep.usedCols k + 1) } })).rejudge

/-- MIGRATION_STEP: one maintenance entry of the column migration that runs on a channel, or of the one that starts. While
the channel's layer is being evacuated none starts (R293). -/
def State.migrationStep (s : State) (m : Nat) (noise : List Nat) (env : ChanEnv) : State :=
  if !s.mayRun m then s
  else
    let s := match (s.chan m).rep.migr, s.nextRepair m 2 with
      | none, some e => if (s.chan m).rep.evac = 0 then s.startMigration m e else s
      | _, _ => s
    match (s.chan m).rep.migr with
    | some (k, col, sym, w) =>
      let s := s.maintCheck m env
      if s.retired m then s else s.migrate m k col sym w noise env
    | none => s

/-- REPAIR_REQUEST: its status and the state (R281, Table 7). A row is repaired at once where a maintenance entry may run, else
in the channel's next entry for it; a column starts its migration, or waits for the one that runs (DEDUCED, log entry 81). -/
def State.repairRequest (s : State) (arg : List Byte) : Nat × State :=
  let v := BitVec.ofNat 64 (bytesNat arg)
  let m := rlChan v
  let e := candidate (rlKind v) 4 (rlLayer v) m (rlBank v) (if rlKind v = 1 then rlRow v else 0) (rlCol v) (rlSym v)
    (nfield v.toNat 13 11) (nbit v.toNat 10)
  if (rlKind v ≠ 1 ∧ rlKind v ≠ 2) ∨ enabled s.variant ≤ m ∨ s.retired m ∨ rlLayer v ≠ s.home m ∨
      (rlKind v = 2 ∧ 71 < rlSym v) then (0x0105, s)
  else if !s.spareFor e then (0x0400, s)
  else
    let s := (s.addCandidate e).wake m true
    let listed := s.repair.list.any (fun x => sameLocation x e && decide (rlState x = 0))
    let s : State := if listed then { s with repair := { s.repair with asked := s.repair.asked ++ [e] } } else s
    if !listed then (0, s)
    else if rlKind e = 1 then
      (0, if !s.mayRun m || (s.chan m).sliceAt (rlBank e) (rlRow e) then s else s.repairRow m e [] {})
    else if (s.chan m).rep.migr = none ∧ (s.chan m).rep.evac = 0 then (0, s.startMigration m e) else (0, s)

/-! ### Evacuation (R289–R293) -/

/-- Why EVACUATE is refused, or 0 (R289). -/
def State.evacRefused (s : State) (k : Nat) : Nat :=
  if layerCount s.variant ≤ k ∨ !(s.map.any (fun m => decide (s.home m = k))) then 0x0105
  else if s.evacRuns then 0x0107
  else if s.evacTarget.isNone then 0x0402 else 0

/-- EVAC_TARGET_READY: the target's supplies are in regulation and its PLL is locked, or it fails (R290, R293). VDD_REP is on
for every layer that an extended column passes (R344). -/
def State.evacTargetReady (s : State) (ok : Bool) : State :=
  if s.chanClocked && decide (s.repair.evacState = 1) then
    let dst := s.repair.evacDst
    if ok then
      let slot := (s.refSlotOf s.repair.evacSrc).getD 0
      let s := s.modLayer dst (fun l => { l with supply := 2, locked := true, refSlot := slot })
      let s := s.each ((List.range dst).filter (fun k => decide (layerCount s.variant ≤ k)))
        (fun t k => t.modLayer k (fun l => { l with phases := if l.phases = 0 then 2 else l.phases }))
      ({ s with repair := { s.repair with evacState := 2 } } : State).evacCheck
    else s.layerFail dst 5
  else s

/-- Hops that the column of a channel still lacks to the target. -/
def State.hopsLeft (s : State) (m : Nat) : Nat := s.repair.evacDst - s.home m - (s.chan m).vl.extHops

/-- The failing sites of a hop that has been added take the idle spares of the hop; whether there were enough (R264, R275). -/
def State.spareHop (s : State) (m hop : Nat) (fails : List Site) : Bool × State :=
  (fails.filter (fun x => decide (x.hop = hop))).foldl (fun r x =>
    let c := r.2.chan m
    if c.siteInUse x.hop x.site && decide (c.freeSpares x.hop = 0) then (false, r.2) else (r.1, r.2.coilFail m true x))
    (true, s)

/-- EXTENSION_SLICE: 256 slices train one hop; sites of it that cannot reach the margin minimum are spared as the hop is done.
Once the target is reached, dual writing and copying start (R275, R290). -/
def State.extensionSlice (s : State) (m : Nat) (fails : List Site) (ok : Bool) (env : ChanEnv) : State :=
  if !(decide (s.repair.evacState = 2) && decide ((s.chan m).rep.evac = 1)) then s
  else if (s.chan m).st = .inSr then s.wake m true
  else if !s.windowOpens m || (s.chan m).interimStop then s
  else if !ok then s.evacFail
  else
    let hop := (s.chan m).hopsTrained
    let done := decide (256 ≤ (s.chan m).vl.extSlices + 1)
    let s := ((s.refreshCmd m).caCount m env).modChan m (fun c =>
      if done then { c with vl := { c.vl with extSlices := 0, extHops := c.vl.extHops + 1 } }
      else { c with vl := { c.vl with extSlices := c.vl.extSlices + 1 } })
    let (good, s) := if done then (s.measure m).spareHop m hop fails else (true, s)
    if !good then s.evacFail
    else if 0 < s.hopsLeft m then s
    else
      let s := s.modChan m (fun c => { c with
        rep := { c.rep with evac := 2, copyAt := 0 }, mem := { c.mem with arrT := [] } })
      if (s.homedOn s.repair.evacSrc).any (fun j => decide ((s.chan j).rep.evac = 1)) then s
      else { s with repair := { s.repair with evacState := 3 } }

/-- The next row that the copy of a channel reaches in a written region, as a channel-local address (R291). -/
def Chan.nextCopy (c : Chan) : Option Nat :=
  let h := c.rep.copyAt
  match (c.mem.rmap.filter (fun e => decide (regionOf h ≤ e.1))).head? with
  | some (r, _) => if 2 ^ 23 ≤ h then none else some (if r = h / 1024 then h else r * 1024)
  | none => none

/-- EVAC_ROWS_LEFT. -/
def Chan.rowsLeft (c : Chan) : Nat :=
  if c.rep.evac ≠ 2 ∨ 2 ^ 23 ≤ c.rep.copyAt then 0
  else
    let h := c.rep.copyAt
    (c.mem.rmap.map (fun e => if e.1 < h / 1024 then 0 else if e.1 = h / 1024 then 64 - h % 1024 / 16 else 64)).sum

/-- A block that has been read is written to the target with new check symbols; one found uncorrectable keeps its symbols as
they stand (R291). -/
def State.copyBlock (m : Nat) (s : State) (h : Nat) (o : ReadOut) : State :=
  s.modMem m (fun c => { c with
    arrT := mset 0 c.arrT h (if o.failed then mget 0 c.arr h else if o.valid then encodeBlock o.data else 0) })

/-- EVAC_COPY_STEP: one maintenance entry copies one row. A copy waits for a column migration, and wakes a channel from
automatic self-refresh (R291, R293). -/
def State.evacCopyStep (s : State) (m : Nat) (noise : List Nat) (env : ChanEnv) : State :=
  let c := s.chan m
  if !(s.evacRuns && decide (c.rep.evac = 2) && decide (c.rep.migr = none)) then s
  else if c.st = .inSr then s.wake m true
  else if !s.mayRun m then s
  else match c.nextCopy with
    | none => s
    | some h =>
      let (_, s) := s.lookupRegion m (regionOf h) env.rmapBad
      let s := s.maintCheck m env
      if s.retired m then s
      else
        let s := (State.readRow (State.copyBlock m) (s.maintRow m h) m h 16 noise (env.vNoise, env.pNoise)).maintained m
        s.modChan m (fun c => { c with rep := { c.rep with copyAt := h + 16 } })

/-- EVAC_CHANNEL_SWITCH: between two entries the channel takes the target as its home; what belonged to the source location
is cleared, and the repairs of the target location hold (R290, R292) (DEDUCED, log entry 77). -/
def State.evacChannelSwitch (s : State) (m : Nat) : State :=
  let c := s.chan m
  if s.evacRuns && decide (c.rep.evac = 2) && decide (c.rep.migr = none) && s.chanRuns m && s.layerClocked m &&
      decide (c.nextCopy = none) then
    let src := s.home m
    let dst := s.repair.evacDst
    let rep := s.locationRepairs c.rep dst (m % 8)
    let s := s.setChan m { c with
      openRows := [], ceRows := List.replicate 32 none
      mem := { c.mem with arr := c.mem.arrT, arrT := [] }
      ref := { c.ref with tabs := [], pending := [], forced := false }
      vl := { c.vl with home := some dst, hops := c.hopsTrained, extHops := 0 }
      rep := { rep with evac := 0, copyAt := 0 } }
    let old := fun (r : BitVec 32) => decide (recordType r.toNat = 1 ∨ recordType r.toNat = 2) &&
      decide (recordLayer r.toNat = src) && decide (recordSlot r.toNat = m % 8)
    let s := { s with repair := { s.repair with
      switched := nset s.repair.switched (m % 8) true, unhardened := s.repair.unhardened.filter (fun r => !old r) } }
    s.evacCheck
  else s

/-- SOFT_REPAIRS: repairs of the home location in force and not hardened. -/
def State.softRepairs (s : State) (m : Nat) : Nat :=
  (s.repair.unhardened.filter (fun r => decide (recordType r.toNat = 1 ∨ recordType r.toNat = 2) &&
    decide (recordLayer r.toNat = s.home m) && decide (recordSlot r.toNat = m % 8))).length

end Sys2Proof.Machine
end

