-- ==== Sys2Proof/Machine/Stop.lean ====
section
/-!
DEFINITION. Stop: the numbered steps of the orderly stop (Table 5 of the thermal chapter, R328), which test hold, the power
states and the return of a stack perform too (R302, R354, R420).
-/

namespace Sys2Proof.Machine

/-- ENQs of which no cell has been filled have not been taken by the engine: they are answered RETRY_UNAVAILABLE, the one that
the link is still receiving once its remaining flits have been discarded, and what they hold is given back (R118, R328). -/
def State.refuseWaiting (s : State) (n : Nat) : State :=
  let js := (s.link n).enqs.filter (fun j => decide (j.cells = []))
  let s := s.modLink n (fun l => { l with
    enqs := l.enqs.filter (fun j => decide (j.cells ≠ []))
    enqIn := l.enqIn.map (fun e => if js.any (fun j => decide (some j.id = e.job)) then
      { tag := e.tag, status := 3, refused := true } else e) })
  js.foldl (fun s j =>
    let k := packetCells j.len
    let s := if j.silent || decide (j.toCome ≠ 0) then s else s.noExec n j.tag 0x40 3
    (((if j.silent then s else s.returnQdat n j.data.length).modQueue j.queue (fun x => { x with reserved := x.reserved - k }))).modSlice
      (s.sliceOf j.queue) (fun y => { y with reserved := y.reserved - k })) s

/-- Step 1: everything that waits at the ports is answered RETRY_UNAVAILABLE (Table 12 of the transactions chapter)
(DEDUCED, log entry 44). -/
def State.stopPorts (s : State) : State :=
  s.each (linkNums s) (fun t n => ((t.refuseHeld n 3 (fun _ => true)).refuseQcmds n 3).refuseWaiting n)

/-- Steps 2 and 3: every channel completes its work, pays its debt and enters forced self-refresh (R174). -/
def State.forceAll (s : State) : State := s.each (chanNums s) State.force

/-- Every channel that is not retired has executed what it had admitted, and has reached the commit point of its forced entry. -/
def State.allForced (s : State) : Bool :=
  (chanNums s).all (fun m => s.retired m || (decide ((s.chan m).st = .inSr ∨ (s.chan m).st = .blockReset) && (s.chan m).forced &&
    decide ((s.chan m).queue = [])))

/-- Every completion of a link has been sent: nothing waits in its buffers or is being answered. -/
def State.linkQuiet (s : State) (n : Nat) : Bool :=
  let l := s.link n
  decide (l.resp = []) && decide (l.qout = []) && decide (l.tx.msg = []) && decide (l.enqs = []) &&
    decide (l.enqIn = none) && decide (l.deqs = []) && decide ((s.port n).held = []) && decide ((s.port n).qcmds = [])

/-- The links are being idled by another chapter: an orderly stop, test hold, or a power state of P1 or deeper. -/
def State.idling (s : State) : Bool :=
  decide (s.therm.stop = 1 ∨ s.therm.stop = 2) || s.therm.testHeld || decide (s.power.target ≠ 0 ∨ s.power.st ≠ 0)

/-- Step 5 at one link: the transmitter idles once the link's completions have been sent. -/
def State.idleQuiet (s : State) (n : Nat) : State :=
  if s.idling && !(s.link n).idled && s.linkQuiet n then s.idleLink n else s

/-- Step 5 at every link. -/
def State.idleQuietAll (s : State) : State := s.each (linkNums s) State.idleQuiet

/-- Step 5 at its latest: every transmitter idles; what has not been sent stays. -/
def State.idleAll (s : State) : State := s.each (linkNums s) (fun t n => if (t.link n).idled then t else t.idleLink n)

end Sys2Proof.Machine
end

