-- ==== Sys2Proof/Machine/SelfTest.lean ====
section
/-!
DEFINITION. SelfTest: the power-up quick test and the map build (R298–R300, R131), the IEEE 1149.1 port (R301), test hold
(R302) and the Sparge (R303–R311).
-/

namespace Sys2Proof.Machine

/-! ### The map build (R130, R131, R398) -/

/-- The channels that a map built now would hold (R130). -/
def State.nextMap (s : State) : List Nat :=
  (chanNums s).filter (fun m => !s.retired m && decide (s.rget (chanKey m 0xE3) = 0))

/-- The map is built. Under the policy of G-REPAIR-MFG every channel of it starts a full sweep (R398). The first map after a
power-on reset has no map before it (DEDUCED, log entry 85). -/
def State.buildMap (s : State) : State :=
  let new := s.nextMap
  let s := (if s.repair.mapEver ∧ new ≠ s.map then s.count (ekey 0x1C00 0xC3) 1 else s).reason 2
  let s := { s with
    map := new, mapBuilt := true, boot := .up
    repair := { s.repair with mapEver := true, rebuilt := [] } }
  if nbit s.gran.policy 5 then
    s.each new (fun t m => t.modChan m (fun c => { c with rep := { c.rep with fullTest := true } }))
  else s

/-! ### What an instruction of the TAP is open to (R301) -/

/-- An instruction of Table 4 that is not reserved. -/
def tapKnown (code : Nat) : Bool := decide (code ∈ [0xFF, 0x01, 0x02, 0x03, 0x04, 0x05, 0x10, 0x20] ∨ (0x80 ≤ code ∧ code ≤ 0xFE))

/-- An instruction is open and usable (Table 4). -/
def State.tapOpen (s : State) (code : Nat) : Bool :=
  let mfg := decide (s.lc.st = .mfg)
  let test := mfg || decide (s.lc.st = .ret)
  if code = 0xFF ∨ code = 0x01 then true
  else if code = 0x02 then test
  else if code ∈ [0x03, 0x04, 0x05, 0x10, 0x20] then test && s.therm.testHeld
  else mfg && s.therm.testHeld && tapKnown code

/-- The bypass register is selected in place of an instruction. -/
def State.tapToBypass (s : State) : State := { s with tap := { s.tap with ir := 0xFF, sel := .bypass, drive := 0 } }

/-- An instruction that is no longer open is replaced by BYPASS. -/
def State.tapJudge (s : State) : State :=
  if !tapKnown s.tap.ir || s.tapOpen s.tap.ir then s else s.tapToBypass

/-! ### Power-up quick test (R298–R300) -/

/-- The quick test starts: the joint is calibrated, and the supplies of the in-service layers start (Table 6 of the power
chapter). -/
def State.quickStart (s : State) : State :=
  let s := { s with boot := .qtRemap, qt := {} }
  s.each (List.range (layerCount s.variant)) (fun t k => t.modLayer k (fun l => { l with supply := 2, phases := 2 }))

/-- GRANARY_SENSING_END: in VOID the sequence stops there (R421); else the joint is calibrated (R259). -/
def State.sensingEnd (s : State) (at' : List SenseAt) (jointOk : Bool) : State :=
  if s.boot ≠ .sensing then s
  else
    let s := (s.sensed at').tapJudge
    if s.lc.st = .void then
      s.each (linkNums { s with boot := .voidStop }) (fun t n => t.modLink n (fun l => { l with st := .disabled }))
        |> fun t => { t with boot := .voidStop }
    else if jointOk then s.quickStart else s.jointFail 0 1 true

/-- SRAM groups with a failure. -/
def QuickTest.addGroups (q : QuickTest) (gs : List Nat) : QuickTest :=
  { q with groups := gs.foldl (fun w g => if g < 7 then nset w g true else w) q.groups }

/-- The quick test retires channels, with RETIRE_CAUSE 0x04. -/
def State.quickRetire (s : State) (ms : List Nat) : State :=
  ms.foldl (fun s m =>
    if m < enabled s.variant ∧ s.retired m = false then
      let s := s.retire m 4
      { s with qt := { s.qt with chanLost := vset s.qt.chanLost m true } }
    else s) s

/-- Hold a link in RESET until the next chip reset. -/
def State.holdLink (s : State) (n : Nat) : State := s.modLink n (fun l => { l with st := .reset, qtHeld := true })

/-- A global failure, or the limit of 60 ms (R300). -/
def State.quickFail (s : State) (us : Nat) (limit : Bool) : State :=
  let s := { s with
    boot := .qtFailed
    qt := { s.qt with result := 3, us := us, timeLimit := limit, globalSram := s.qt.globalSram || !limit } }
  ((s.each (linkNums s) State.holdLink).reason 2).report 27

/-- QUICK_TEST_PHASE_END: the remap, base SRAM and loopback phases (Tables 1 and 2). -/
def State.quickPhase (s : State) (f : QtFound) : State :=
  let noted := { s with qt := s.qt.addGroups (f.groups ++ if f.chans = [] then [] else [5]) }
  match s.boot with
  | .qtRemap =>
    let s := (noted.quickRetire f.chans).applyRecords
    let s := s.each (List.range (layerCount s.variant)) (fun t k => t.modLayer k (fun l => { l with st := 1 }))
    { s with boot := .qtBase }
  | .qtBase =>
    if s.qt.baseDone then s
    else
      let s := ({ s with qt := s.qt.addGroups f.groups }).quickRetire f.chans
      let s := f.links.foldl (fun s n =>
        if n < enabled s.variant then
          let s := s.holdLink n
          { s with qt := { s.qt with linkLost := vset s.qt.linkLost n true } }
        else s) s
      let s := { s with
        qt := { s.qt with rmapSram := s.qt.rmapSram || f.rmap, baseDone := true }
        qe := { s.qe with failed := s.qe.failed || f.qe } }
      if f.global then s.quickFail f.us false
      else { s with boot := if s.qt.trainDone then .qtLoopback else .qtBase }
  | .qtLoopback =>
    let s := f.coils.foldl (fun s x =>
      if x.1 < enabled s.variant ∧ s.retired x.1 = false then
        let t := s.coilFail x.1 true x.2
        if t.retired x.1 then { t with qt := { t.qt with chanLost := vset t.qt.chanLost x.1 true } } else t
      else s) s
    { s with qt := { s.qt with loopback := decide (f.coils ≠ []) }, boot := .qtSanity }
  | _ => s

/-- The failing rows of one channel: candidates, repaired at once (R281, R299). -/
def State.quickRow (s : State) (r : Nat × Nat × Nat) : State :=
  let m := r.1
  if s.retired m then s
  else
    let e := candidate 1 3 (s.home m) m r.2.1 r.2.2 0 0x7F 0 false
    let s := s.addCandidate e
    let s := { s with qt := { s.qt with rows := s.qt.rows + 1 } }
    match s.nextRepair m 1 with
    | some e => s.remapRow m e
    | none => s

/-- The losses of Table 2 (DEDUCED, log entry 86). -/
def QuickTest.losses (q : QuickTest) (qe : Bool) : Bool :=
  decide (q.chanLost ≠ 0) || decide (q.linkLost ≠ 0) || qe || q.loopback || decide (q.rows ≠ 0) || q.layerLoss

/-- QUICK_TEST_END: the layer sanity phase ends, and the channel map is built. -/
def State.quickEnd (s : State) (f : QtFound) (us : Nat) : State :=
  if s.boot ≠ .qtSanity then s
  else
    let rows := (f.rows.filter (fun r => decide (r.1 < enabled s.variant))).dedup
    let bad := (chanNums s).filter (fun m => !s.retired m &&
      (f.metaChans.contains m || decide (8 < (rows.filter (fun r => decide (r.1 = m))).length)))
    let s := rows.foldl State.quickRow (s.quickRetire bad)
    let s := { s with qt := { s.qt with us := us, layerLoss := decide (bad ≠ []) } }
    ({ s with qt := { s.qt with result := if s.qt.losses s.qe.failed then 2 else 1 } }).buildMap

/-- QUICK_TEST_TIME_LIMIT (R300) (DEDUCED, log entry 88). -/
def State.quickLimit (s : State) : State := if s.quickRuns then s.quickFail 60000 true else s

/-! ### The TAP (R301, R371) -/

/-- The register that an instruction selects (PRESUMED, log entry 40). -/
def tapSelect (code : Nat) : TapReg :=
  if code = 0x01 then .idcode
  else if code = 0x02 ∨ code = 0x03 then .boundary
  else if code = 0x10 then .wrapper
  else if code = 0x20 then .layer
  else if 0x80 ≤ code ∧ code ≤ 0xFE then .vendor
  else .bypass

/-- What an instruction does to the pins. -/
def tapDrive (code : Nat) : Nat := if code = 0x03 then 1 else if code = 0x04 then 2 else if code = 0x05 then 3 else 0

/-- TAP_UPDATE_IR: an open instruction takes effect; one that is not open selects the bypass register and is counted. -/
def State.tapUpdate (s : State) (code : Nat) : State :=
  if !tapKnown code then { s with tap := { s.tap with ir := code, sel := .bypass, drive := 0 } }
  else if s.tapOpen code then
    { s with tap := { s.tap with ir := code, sel := tapSelect code, drive := tapDrive code } }
  else s.tapToBypass.count (ekey 0x4800 0x12) 1

/-- The identification register. -/
def State.idcode (s : State) : Nat :=
  s.shadowField 0 31 28 * 2 ^ 28 + 0x6400 * 2 ^ 12 + s.shadowField 0 10 0 * 2 + 1

/-- An instruction is loaded, and where it is open its data registers are shifted (DESIGN CHOICE, log entry 87). -/
def State.tapRun (s : State) (code : Nat) (f : State → State) : State :=
  let t := s.tapUpdate code
  if s.tapOpen code then f t else t

/-- IDCODE captures the identification register. -/
def State.tapIdcodeRun (s : State) : State :=
  s.tapRun 0x01 (fun t => { t with tap := { t.tap with captured := t.idcode } })

/-- SAMPLE/PRELOAD captures the levels of the pins and loads the cells. -/
def State.tapSample (s : State) (pins cells : Nat) : State :=
  s.tapRun 0x02 (fun t => { t with tap := { t.tap with captured := pins, cells := cells } })

/-- EXTEST drives the pins from the cells. -/
def State.tapExtestRun (s : State) (cells : Nat) : State :=
  s.tapRun 0x03 (fun t => { t with tap := { t.tap with cells := cells } })

/-- A wrapper instruction of base-A (0) or base-B (1): what its test register captures is not published. -/
def State.tapWrap (s : State) (core wir : Nat) : State :=
  s.tapRun 0x10 (fun t => ({ t with tap := { t.tap with
    wir0 := if core = 0 then wir else t.tap.wir0, wir1 := if core = 0 then t.tap.wir1 else wir
    test := Config.testCapture t.free core wir } }).tick)

/-- Layer access. -/
def State.tapLayerRun (s : State) (layer cfg : Nat) : State :=
  s.tapRun 0x20 (fun t => ({ t with tap := { t.tap with
    layerSel := layer, layerCfg := cfg, test := Config.testCapture t.free (2 + layer) cfg } }).tick)

/-- A vendor private instruction. -/
def State.tapVendorRun (s : State) (code : Nat) : State :=
  if 0x80 ≤ code ∧ code ≤ 0xFE then
    s.tapRun code (fun t => ({ t with tap := { t.tap with test := Config.vendorTap t.free code } }).tick)
  else s.tapUpdate code

/-- Test-Logic-Reset selects IDCODE (R301, R371) (DEDUCED, log entry 139). -/
def State.tapTestReset (s : State) : State := { s with tap := { s.tap with ir := 0x01, sel := .idcode, drive := 0 } }

/-! ### Test hold (R302) -/

/-- TEST_HOLD: steps 1–3 and 5 of the orderly stop, without THERM_N; only a chip reset leaves the hold. -/
def State.testHold (s : State) : State :=
  let s := { s with therm := { s.therm with testHeld := true } }
  s.stopPorts.forceAll.idleQuietAll

/-! ### The Sparge (R303–R311) -/

/-- The Sparge of a channel runs (R303, R398). -/
def State.spargeRuns (s : State) (m : Nat) : Bool :=
  s.chanClocked && s.map.contains m && !s.retired m && !s.therm.testHeld &&
    (decide (s.blockSetting (.channel m) (ekey 0x4800 0x20) (ekey 0x4800 0x30) = 1) || (s.chan m).rep.fullTest)

/-- Bank and row of a position (R304). -/
def spargeBank (n : Nat) : Nat := n % 16
def spargeRow (n : Nat) : Nat := n / 16

/-- A ppm figure lies within ±0.5 %. -/
def inHalfPercent (w : Nat) : Bool := decide (-5000 ≤ i20Val w) && decide (i20Val w ≤ 5000)

/-- A telemetry entry reads within ±3 % of a nominal value in 10 µV. -/
def State.within3 (s : State) (sub nominal : Nat) : Bool :=
  let v := s.rget (ekey 0x6000 sub)
  decide (97 * nominal ≤ 100 * v) && decide (100 * v ≤ 103 * nominal)

/-- VDD_ARR, VDD_PERI and VPP of the home layer, and VIN_MEM, are within ±3 % by the telemetry (R344). -/
def State.railsOk (s : State) (m : Nat) : Bool :=
  let k := s.home m
  s.within3 (0x90 + k) 105000 && s.within3 (0xA2 + k) 70000 && s.within3 (0xB4 + k) 180000 && s.within3 0x84 120000

/-- Conditions 0–2 of Table 6, as cause bits: clocks, supplies, zone. -/
def State.spargeCauses (s : State) (m : Nat) : Nat :=
  b2n (!(inHalfPercent (s.rget (ekey 0x1C00 (0x60 + s.home m))) && inHalfPercent (s.rget (ekey 0x0500 0x25)))) +
    2 * b2n (!s.railsOk m) + 4 * b2n (decide (s.therm.zone ≠ 0))

/-- A row repair is pending for a row. -/
def State.rowPending (s : State) (m k w : Nat) : Bool :=
  s.repair.list.any (fun e => decide (rlKind e = 1) && decide (rlState e = 0) && decide (rlChan e = m) &&
    decide (rlLayer e = s.home m) && decide (rlBank e = k) && decide (rlRow e = w) &&
    s.wanted e && s.spareFor e)

/-- The cause bits of all the conditions of Table 6. -/
def State.deferCauses (s : State) (m k w : Nat) : Nat :=
  let c := s.chan m
  s.spargeCauses m + 8 * b2n (c.forced || decide (c.st = .inSr)) +
    16 * b2n (s.evacRuns && decide (s.home m = s.repair.evacSrc ∨ s.home m = s.repair.evacDst)) +
    32 * b2n (c.rep.migr.any (fun x => decide (x.1 = k)) || s.rowPending m k w) +
    64 * b2n (decide (c.st = .blockReset) || s.inReset 1 m || c.interim)

/-- The position of a channel advances by one (R304, R308, R398). -/
def State.spargeNext (s : State) (m : Nat) : State :=
  let n := s.rget (chanKey m 0xF0)
  if n < 524287 then s.rset (chanKey m 0xF0) (n + 1)
  else
    ((s.rset (chanKey m 0xF0) 0).count (chanKey m 0xF6) 1).modChan m (fun c =>
      { c with rep := { c.rep with tally := [], fullTest := false } })

/-- SPARGE_SLICE_DUE: the slice starts, is deferred, or is skipped for want of a spare (R303, R309, R310)
(DEDUCED, log entry 83). -/
def State.sliceDue (s : State) (m : Nat) : State :=
  let c := s.chan m
  if !s.spargeRuns m || c.rep.slice.isSome then s
  else
    let n := s.rget (chanKey m 0xF0)
    let k := spargeBank n
    let why := s.deferCauses m k (spargeRow n)
    if why ≠ 0 then
      (s.modChan m (fun c => { c with rep := { c.rep with lastDefer := why } })).count (chanKey m 0xF2) 1
    else if 64 ≤ mget 0 c.rep.usedRows k then (s.count (chanKey m 0xF5) 1).spargeNext m
    else s.modChan m (fun c => { c with rep := { c.rep with slice := some { bank := k, row := spargeRow n } } })

/-- A position before another in the reading order of Table 5 within one block column. -/
def bitBefore (a b : BitAt) : Bool := decide (a.symbol < b.symbol ∨ (a.symbol = b.symbol ∧ a.bit ≤ b.bit))

/-- The failure that a reading entry confirms: in the first block column with a difference, the lowest bit at which the
reread differs too (R307). -/
def confirmed (erased : Option Nat) (down : Bool) (diffs rereads : List BitAt) : Option BitAt :=
  let ds := diffs.filter (fun b => decide (erased ≠ some (b.symbol / 2)))
  match ds with
  | [] => none
  | d :: r =>
    let col := r.foldl (fun c b => if down then Nat.max c b.column else Nat.min c b.column) d.column
    match ds.filter (fun b => decide (b.column = col) && rereads.contains b) with
    | [] => none
    | x :: y => some (y.foldl (fun a b => if bitBefore a b then a else b) x)

/-- Count a confirmed failure in the column tally of a channel; at four rows the column becomes a candidate (R308). -/
def State.tallyFail (s : State) (m k col sym : Nat) : State :=
  let t := (s.chan m).rep.tally
  let same := fun (e : Nat × Nat × Nat × Nat) => decide (e.1 = k ∧ e.2.1 = col ∧ e.2.2.1 = sym)
  let put := fun (l : List (Nat × Nat × Nat × Nat)) => s.modChan m (fun c => { c with rep := { c.rep with tally := l } })
  match t.find? same with
  | some e =>
    if 4 ≤ e.2.2.2 + 1 then
      (put (t.filter (fun x => !same x))).addCandidate (candidate 2 2 (s.home m) m k 0 col sym 0 false)
    else put (t.map (fun x => if same x then (x.1, x.2.1, x.2.2.1, x.2.2.2 + 1) else x))
  | none => if t.length < 8 then put (t ++ [(k, col, sym, 1)]) else s

/-- The confirmed failure of a slice is recorded, and its row repaired where that may be (R307). -/
def State.sliceFailed (s : State) (m : Nat) (x : Slice) (b : BitAt) : State :=
  let e := candidate 1 2 (s.home m) m x.bank x.row b.column b.symbol b.bit true
  let s := ((s.count (chanKey m 0xF4) 1).report 26 m).rset (ekey 0x4800 0x40) e.toNat
  let repair := s.repairAuto m && s.spareFor e
  let s := (s.addCandidate e).tallyFail m x.bank b.column b.symbol
  if repair then s.remapRow m e else s

/-- One entry of a slice: E0–E8 move on, E9 ends it (Table 5). -/
def State.sliceEntry (s : State) (m : Nat) (x : Slice) (diffs rereads : List BitAt) : State :=
  let erased := (s.chan m).erased
  let s := (s.activate m x.bank x.row).maintained m
  let s := s.modChan m (fun c => { c with openRows := mdel c.openRows x.bank })
  if x.entry < 9 then
    let found := if x.entry ∈ [2, 3, 4, 5, 6, 8] then confirmed erased (decide (x.entry = 4 ∨ x.entry = 5)) diffs rereads else none
    s.modChan m (fun c => { c with rep := { c.rep with
      slice := some { x with entry := x.entry + 1, fail := if x.fail.isSome then x.fail else found } } })
  else
    let s := s.modChan m (fun c => { c with rep := { c.rep with slice := none } })
    let s := match x.fail with
      | some b => s.sliceFailed m x b
      | none => s
    (s.count (chanKey m 0xF1) 1).spargeNext m

/-- SPARGE_ENTRY: conditions 0–2 are checked again before E1–E8 (R311), and a forced self-refresh to come aborts the slice too
(Table 7) (DEDUCED, log entry 84). -/
def State.spargeEntry (s : State) (m : Nat) (diffs rereads : List BitAt) (env : ChanEnv) : State :=
  match (s.chan m).rep.slice with
  | none => s
  | some x =>
    if !s.mayRun m then s
    else
      let s := s.maintCheck m env
      if s.retired m then s
      else if (decide (1 ≤ x.entry ∧ x.entry ≤ 8) && decide (s.spargeCauses m ≠ 0)) || (s.chan m).forced then s.abortSlice m
      else s.sliceEntry m x diffs rereads

end Sys2Proof.Machine
end

