-- ==== Sys2Proof/Machine/Answer.lean ====
section
/-!
DEFINITION. Answer: how the result of a dictionary access returns to its master, in band or over the management bus
(R50–R52, R433–R435).
-/

namespace Sys2Proof.Machine

/-- The status codes that every dictionary access shares (Table 6 of the dictionary chapter). -/
def tableCodes : List Nat :=
  [0x0000, 0x0100, 0x0101, 0x0102, 0x0103, 0x0104, 0x0105, 0x0106, 0x0107, 0x0108, 0x0109, 0x010A, 0x0200, 0x0201, 0x0202, 0x0203]

/-- The code of Table 6 that a free value of 16 bits stands for: no other is returned (R41). -/
def freeStatus (v : BitVec 16) : Nat := tableCodes.getD (v.toNat % 16) 0

/-! ### In band -/

/-- A MGMT message waits for the transmitter of a link. -/
def State.sendMgmt (s : State) (n : Nat) (msg : List Flit) : State :=
  s.modLink n (fun l => { l with mgmtOut := l.mgmtOut ++ [msg] })

/-- The link can still answer what it has received: it has not been reset since. -/
def Link.answers (l : Link) : Bool :=
  decide (l.st = .active ∨ l.st = .laneSwitch ∨ l.st = .recover ∨ l.st = .idle)

/-! ### Over the management bus -/

/-- The access that the target holds completes (R430, R435); RESULT is set where its frame was returned as pending. -/
def State.busDone (s : State) (status : Nat) (value : List Byte) : State :=
  match s.bus.acc with
  | none => s
  | some a =>
    let s := { s with bus := { s.bus with
      state := 0, status := status, value := if status = 0 then value else [], acc := none } }
    if a.told then s.reason 1 else s

/-- The access that the target holds ends with STATE lost (R435). -/
def State.busLost (s : State) : State :=
  match s.bus.acc with
  | none => s
  | some a =>
    let s := { s with bus := { s.bus with state := 3, status := 0, value := [], acc := none } }
    if a.told then s.reason 1 else s

/-- A flag of MB_FLAGS is set; a flag that was 0 reports MBUS_ERROR (R441). -/
def State.busFlag (s : State) (i : Nat) : State :=
  if s.bus.flags.getLsbD i then s
  else ({ s with bus := { s.bus with flags := vset s.bus.flags i true } }).report 83

/-! ### Answers that wait (R39) -/

/-- The answer to a write that has waited for its action: a WRITE_RSP, or the result frame. -/
def State.answerWait (s : State) (m : Master) (key status : Nat) : State :=
  match m with
  | .link n t =>
    if (s.link n).mgmtBy.contains t then
      let s := s.modLink n (fun l => { l with mgmtBy := l.mgmtBy.filter (fun x => decide (x ≠ t)) })
      s.sendMgmt n (mgmtMessage 0x82 t key status [])
    else s
  | .bus => if s.bus.acc.any BusAcc.waits then s.busDone status [] else s

end Sys2Proof.Machine
end

