-- ==== Sys2Proof/Machine/Commit.lean ====
section
/-!
DEFINITION. Commit: staging and commit (R42–R49), the checks of a commit (R135, R139, R155, R178, R235, R299), the quiet
boundaries of the blocks (R46, R47) and the change of profile (R25–R27).
-/

namespace Sys2Proof.Machine

/-! ### Staged and committed values (R6) -/

/-- The committed copy of a staged entry. -/
def actKey (k : Nat) : Option Nat :=
  match entryRow k with
  | some r => if r.right = .rws then some (k + r.act) else none
  | none => none

/-- The staged entries whose staged or committed copy lies at a register key. -/
def stagedAt (k : Nat) : List Nat :=
  [k, k - 1, k - 0x10, k - 0x20, k - 0x100].filter (fun j => decide (actKey j = some k) || (decide (j = k) && (actKey k).isSome))

/-- Every staged entry that differs from its committed copy, in index order, queue limit sets apart. -/
def State.staged (s : State) : List (Nat × Nat) :=
  let ks := (s.regs.flatMap (fun e => stagedAt e.1)).foldl insertOnce []
  (ks.filter (fun k => decide (s.rget k ≠ s.rget ((actKey k).getD k)))).map (fun k => (k, s.rget k))

/-- The queues whose staged limit set differs from the committed one, with their staged sets (R253). -/
def State.stagedLimits (s : State) : List (Nat × Nat) :=
  let qs := (s.qe.limitStage.map Prod.fst ++ s.qe.limitAct.map Prod.fst).foldl insertOnce []
  (qs.filter (fun q => decide (mget 0 s.qe.limitStage q ≠ mget 0 s.qe.limitAct q))).map (fun q => (q, mget 0 s.qe.limitStage q))

/-- Staging takes the committed values (R15, R44). -/
def State.unstage (s : State) : State :=
  let s := s.staged.foldl (fun t e => t.rset e.1 (t.rget ((actKey e.1).getD e.1))) s
  { s with qe := { s.qe with limitStage := s.qe.limitAct } }

/-- The blocks that hold an entry (Table 8). -/
def State.owners (s : State) (k : Nat) : List Block :=
  let i := k / 256
  let sub := k % 256
  if i = 0x0300 then [.stack]
  else if 0x0800 ≤ i ∧ i ≤ 0x087F then [.link (i - 0x0800)]
  else if 0x1000 ≤ i ∧ i ≤ 0x107F then (if sub = 0xE2 then [.addressMap] else [.channel (i - 0x1000)])
  else if i = 0x1800 then (chanNums s).map Block.integrity
  else if i = 0x1400 ∨ i = 0x1C00 ∨ i = 0x4800 then (chanNums s).map Block.channel
  else if i = 0x3000 then [.queueEngine]
  else [.regulator]

/-! ### Checks -/

/-- First and last eighth that a pool touches (R128, R178). -/
def State.poolEighths (s : State) (base k : Nat) : List Nat :=
  let n := s.map.length * 2 ^ 20
  if k = 0 ∨ n = 0 then []
  else (List.range 8).filter (fun e => decide (base < (e + 1) * n) && decide (e * n < base + poolBlocks s.variant k))

/-- The PASR_MASK entries that a pool contradicts (R178). -/
def State.pasrBad (s : State) : List Nat :=
  let k := ekey 0x3000
  let es := s.poolEighths (s.rget (k 2)) (s.rget (k 3)) ++ s.poolEighths (s.rget (k 0x22)) (s.rget (k 0x23))
  (s.map.filter (fun m => es.any (fun e => !(nbit (s.rget (chanKey m 2)) e && nbit (s.rget (chanKey m 0x22)) e)))).map
    (fun m => chanKey m 2)

/-- The EXCLUDE entry of a set that would leave no channel in the next map (R135). Where every channel is retired and no staged
EXCLUDE is 1, the set contradicts as much and LAST_REFUSED_ENTRY names none (DEDUCED, log entry 166). -/
def State.excludeBad (s : State) : List Nat :=
  if (chanNums s).all (fun m => s.retired m || decide (s.rget (chanKey m 0xE2) = 1)) then
    [((chanNums s).find? (fun m => decide (s.rget (chanKey m 0xE2) = 1))).elim 0 (fun m => chanKey m 0xE2)]
  else []

/-- The staged class parameters that contradict one another (R139). -/
def State.classBad (s : State) : List Nat :=
  (List.range 16).flatMap (fun c =>
    let g := fun i => s.rget (classKey c i)
    (if (g 1 ≤ 1 ∧ g 4 < g 3) ∨ (g 1 = 2 ∧ g 3 ≠ 0) then [classKey c 3] else []) ++
    (if g 1 = 1 ∧ g 5 = 0 then [classKey c 5] else []) ++
    (if g 7 < g 4 ∧ (List.range 16).any (fun p => decide (s.rget (ekey 0x2300 p) = c)) then [classKey c 7] else []))

/-- Some cell of the committed pool is in use (R235). -/
def State.poolUsed (s : State) : Bool := (List.range (slices s.variant)).any (fun i => decide (0 < (s.slice i).inUse))

/-- The pool entries that contradict one another (R235). -/
def State.poolBad (s : State) (set : List (Nat × Nat)) : List Nat :=
  let k := ekey 0x3000
  let changed := [2, 3].filter (fun i => set.any (fun e => decide (e.1 = k i)))
  (if s.rget (k 1) = 1 ∧ s.rget (k 3) = 0 then [k 1] else []) ++
  (if changed ≠ [] ∧ (s.rget (k 0x21) = 1 ∨ s.poolUsed) then (changed.head?.map k).toList else []) ++
  (if s.map.length * 2 ^ 23 < s.rget (k 2) + poolBlocks s.variant (s.rget (k 3)) then [k 3] else [])

/-- The entries of a set that contradict the tables of their blocks, in index order (DESIGN CHOICE, log entry 24). -/
def State.contradictions (s : State) (set : List (Nat × Nat)) : List Nat :=
  let index := fun (lo hi : Nat) => set.any (fun e => decide (lo ≤ e.1 / 256 ∧ e.1 / 256 ≤ hi))
  let has := fun (lo hi sub : Nat) => set.any (fun e => decide (lo ≤ e.1 / 256 ∧ e.1 / 256 ≤ hi ∧ e.1 % 256 = sub))
  let pool := has 0x3000 0x3000 2 || has 0x3000 0x3000 3
  ((if has 0x1000 0x107F 2 || pool then s.pasrBad else []) ++
    (if has 0x1000 0x107F 0xE2 then s.excludeBad else []) ++
    (if index 0x2000 0x2300 then s.classBad else []) ++
    (if index 0x3000 0x3000 then s.poolBad set else [])).foldl insertOnce []

/-- The staged reservation of a class: guarantee part and urgent part (R155). -/
def State.stagedParts (s : State) (c : Nat) : Nat × Nat :=
  let g := guarPart (s.rget (classKey c 1)) (s.rget (classKey c 3))
  (g, if (List.range 16).any (fun p => decide (s.rget (ekey 0x2300 p) = c)) then s.rget (classKey c 7) - g else 0)

/-- The committed reservation of a class. -/
def State.committedParts (s : State) (c : Nat) : Nat × Nat :=
  let g := guarPart (s.classAct c 1) (s.classAct c 3)
  (g, if (List.range 16).any (fun p => decide (s.rget (ekey 0x2300 (0x10 + p)) = c)) then s.classAct c 7 - g else 0)

/-- A profile by its code. -/
def profileOf (v : Nat) : Profile := if v = 1 then .deterministic else if v = 2 then .economy else .throughput

/-- The code of a profile. -/
def Profile.code : Profile → Nat
  | .throughput => 0
  | .deterministic => 1
  | .economy => 2

/-- Admission control (R155): the entry that decides a refusal (DEDUCED, log entry 50). The classes are ordered by their staged
PRIORITY, where the commit changes that too (DESIGN CHOICE, log entry 167). -/
def State.overSubscribed (s : State) (profile : Bool) : Option Nat :=
  let total := fun (x : Nat × Nat) => x.1 + x.2
  let risen := (List.range 16).filter (fun c => decide (total (s.committedParts c) < total (s.stagedParts c)))
  let sum := ((List.range 16).map (fun c => total (s.stagedParts c))).sum
  if (profile ∨ risen ≠ []) ∧ s.deliverable (profileOf (s.rget (ekey 0x0300 1))) < sum then
    match (List.range 16).flatMap (fun pr => risen.reverse.filter (fun c => decide (s.rget (classKey c 2) = pr))) with
    | c :: _ => some (if (s.committedParts c).1 < (s.stagedParts c).1 then classKey c 3 else classKey c 7)
    | [] => some (ekey 0x0300 1)
  else none

/-- The set changes what admission control reads (R42). -/
def admissionKey (k : Nat) : Bool :=
  let i := k / 256
  decide ((0x2000 ≤ i ∧ i ≤ 0x200F) ∨ i = 0x2100 ∨ (0x2200 ≤ i ∧ i ≤ 0x227F) ∨ (i = 0x2300 ∧ k % 256 < 0x10) ∨ k = ekey 0x0300 1)

/-! ### Applying (R46, R47) -/

def kCommit : Nat := ekey 0x7000 1
def kProfile : Nat := ekey 0x0300 1

/-- A COMMIT that was processed is recorded: its status and the deciding entry (R44). -/
def State.commitRecord (s : State) (status entry : Nat) : State :=
  let s := { s with dict := { s.dict with lastCommit := status, lastRefused := entry } }
  s.cmdEnd kCommit status

/-- While the management processor is down its staging has reverted (Table 5), so what a block applies then it stages too (R48). -/
def State.unstageDown (s : State) : State := if s.dict.mpDown then s.unstage else s

/-- The last block has applied: the commit completes with OK. -/
def State.commitDone (s : State) (c : CommitRun) : State :=
  let s := { s with dict := { s.dict with commit := none, commitTime := (s.now - c.since) / 2 } }
  let s := s.commitRecord 0 0
  match c.answer with
  | some m => s.answerWait m kCommit 0
  | none => s

/-- Swap the tables of a block that the set holds: an entry of several blocks shows its new value when the last of them has
applied. -/
def State.swapTables (s : State) (c : CommitRun) (b : Block) (left : List Block) : State :=
  (c.set.filter (fun e =>
    let os := s.owners e.1
    os.contains b && os.all (fun o => !left.contains o))).foldl (fun t e => t.rset ((actKey e.1).getD e.1) e.2) s

/-- What a block does beside the swap: a link acts on its settings, the engine starts on a new pool and takes the limit
sets, a sleeping channel drops the eighths that it no longer retains, a channel takes the new refresh rate, the regulator
starts its windows afresh, recomputes its shares and drops the stuck bits of pins that it unbinds (R96, R141, R152, R157, R177,
R186, R236). -/
def State.afterSwap (s : State) (was : State) (c : CommitRun) (b : Block) : State :=
  let has := fun (k : Nat) => c.set.any (fun e => decide (e.1 = k))
  match b with
  | .link n => s.linkApply n (was.linkAct n 1) (was.linkAct n 2) (was.linkAct n 3)
  | .queueEngine =>
    let s := { s with qe := { s.qe with limitAct := c.limits.foldl (fun m e => mset 0 m e.1 e.2) s.qe.limitAct } }
    let s := if has (ekey 0x3000 2) || has (ekey 0x3000 3) then s.poolInit false else s
    if has (ekey 0x3000 3) || has (ekey 0x3000 4) then s.shareRecompute else s
  | .channel m =>
    let s := if has (chanKey m 2) ∧ (s.chan m).asleep then
        (s.modChan m (fun c => { (c.dropEighths (s.pasr m) s.free) with retained := s.pasr m })).tick else s
    if has (ekey 0x1400 1) then s.rateChange m else s
  | .regulator =>
    let s := if has (ekey 0x2300 0x40) then s.windowZero else s
    let s := s.shareRecompute
    let gone := (List.range 16).filter (fun p => has (ekey 0x2300 p) && decide (s.rget (ekey 0x2300 (0x10 + p)) = 0xFF))
    if gone = [] then s
    else
      let stuck := gone.foldl (fun v p => vset v p false) s.reg.urgStuck
      ({ s with reg := { s.reg with urgStuck := stuck } }).stuckLevel
  | _ => s

/-- A block has applied its part of the commit. -/
def State.blockApplied (s : State) (b : Block) : State :=
  match s.dict.commit with
  | none => s
  | some c =>
    if c.left.contains b then
      let left := c.left.filter (fun x => decide (x ≠ b))
      let t := { s with dict := { s.dict with commit := some { c with left := left } } }
      let t := ((t.swapTables c b left).afterSwap s c b).unstageDown
      if left = [] then t.commitDone { c with left := left } else t
    else s

/-- A block that is in self-refresh, stopped, retired, in reset or without its clock is quiet, and applies at once (R47, R92).
PROFILE and the channel map have their own sequences. -/
def State.quietBlock (s : State) (b : Block) : Bool :=
  match b with
  | .channel m | .integrity m =>
    s.retired m || (s.chan m).asleep || (s.chan m).stopped || (s.chan m).interimStop || !s.chanPowered
  | .regulator => s.inReset 3 0 || !s.fabricClocked
  | .queueEngine => s.inReset 2 0 || !s.fabricClocked
  | .link n => !s.linkLive n || decide ((s.link n).st ∈ [.disabled, .reset, .detect, .failed])
  | .addressMap | .stack => false

/-- The quiet blocks of a commit apply. -/
def State.applyQuiet (s : State) : State :=
  match s.dict.commit with
  | none => s
  | some c => (c.left.filter s.quietBlock).foldl State.blockApplied s

/-- COMMIT_APPLY_BLOCK: a block reaches its quiet boundary: a channel's is the cycle of its next refresh command, which only a
channel that can refresh issues (Table 8). PROFILE applies by the sequence of R26. -/
def State.applyBlock (s : State) (b : Block) : State :=
  match b with
  | .stack => s
  | .channel m => if s.quietBlock b || s.chanRefreshes m then s.blockApplied b else s
  | _ => s.blockApplied b

/-! ### The change of profile (R26, R27) -/

/-- A profile cannot be applied yet: P2–P4, or a stop (R27). -/
def State.profileMustWait (s : State) : Bool :=
  decide (2 ≤ s.power.st ∨ 2 ≤ s.power.target) || decide (s.therm.stop ≠ 0) || s.therm.trip

/-- Every request that was admitted or held has been completed: channel queues and ports are empty, and no ENQ or DEQ that the
engine has in full is still in work (R26). -/
def State.drained (s : State) : Bool :=
  s.chans.all (fun c => decide (c.2.queue = [])) && s.ports.all (fun p => decide (p.2.held = []) && decide (p.2.qcmds = [])) &&
    s.links.all (fun l => decide (l.2.deqs = []) && l.2.enqs.all (fun j => decide (j.toCome ≠ 0)))

/-- Credits are granted again, on a link that retrains after its training (Table 6) (DEDUCED, log entry 41). -/
def State.undrain (s : State) : State :=
  let s := { s with dict := { s.dict with draining := false } }
  s.each (linkNums s) State.grantLink

/-- The committed profile is in force; where lane rate or lane count change, every trained link retrains, and a training in
progress starts over at the new settings (R26, R54). -/
def State.switchProfile (s : State) : State :=
  let old := s.profile
  let new := profileOf (s.rget (kProfile + 1))
  let s := { s with profile := new, dict := { s.dict with profileWait := false } }
  if old ≠ new ∧ (old = .economy ∨ new = .economy) then
    s.each (linkNums s) (fun t n =>
      if (t.link n).st ∈ [.active, .laneSwitch, .recover] then t.enterRecover n
      else if (t.link n).st ∈ [.equalize, .align, .config] then t.modLink n Link.toDetect else t)
  else s

/-- The change of profile stops at the point reached and waits; its commit completes (R27, R47, R329). -/
def State.holdProfile (s : State) : State :=
  match s.dict.commit with
  | some c =>
    if c.left.contains .stack then ({ s with dict := { s.dict with profileWait := true } }).blockApplied .stack else s
  | none => if s.dict.draining ∧ s.rget (kProfile + 1) ≠ s.profile.code then
      { s with dict := { s.dict with profileWait := true } } else s

/-! ### COMMIT and DISCARD (R42–R45) -/

/-- An accepted commit: the applying state. PROFILE is recorded, or its drain starts. -/
def State.commitApply (s : State) (m : Master) (set limits : List (Nat × Nat)) : Option Nat × State :=
  let profile := set.any (fun e => decide (e.1 = kProfile))
  let blocks := (set.flatMap (fun e => s.owners e.1) ++ if limits = [] then [] else [Block.queueEngine]).dedup
  let c : CommitRun := { set := set, limits := limits, left := blocks, answer := some m, since := s.now }
  let s := { s with dict := { s.dict with commit := some c, commitSeq := s.dict.commitSeq + 1 } }
  let s := s.cmdStart kCommit
  let excludes := set.any (fun e => decide (e.1 / 256 < 0x1080 ∧ e.1 % 256 = 0xE2))
  let s := if excludes then s.blockApplied .addressMap else s
  let s : State := if profile then
      if s.profileMustWait then s.holdProfile else { s with dict := { s.dict with draining := true } }
    else s
  if s.dict.commit.isNone then (some 0, s) else (none, s)

/-- COMMIT with its generation: the status, or `none` while the commit is applied (DEDUCED, log entry 97). -/
def State.commitOp (s : State) (m : Master) (g : Nat) : Option Nat × State :=
  if s.dict.commit.isSome then (some 0x0202, s.setCmd kCommit { (s.cmd kCommit) with refused := true })
  else if g ≠ 0xFFFFFFFF ∧ g ≠ s.dict.stageGen.toNat then (some 0x0203, s.commitRecord 0x0203 0)
  else
    let set := s.staged
    let limits := s.stagedLimits
    if set = [] ∧ limits = [] then (some 0, s.commitRecord 0 0)
    else
      let bad := s.contradictions set
      let noEngine := s.qe.failed && set.any (fun e => decide (e = (ekey 0x3000 1, 1)))
      match bad with
      | k :: _ => if noEngine ∧ ekey 0x3000 0 ≤ k then (some 0x0109, s.commitRecord 0x0109 0)
                  else (some 0x0201, s.commitRecord 0x0201 k)
      | [] =>
        if noEngine then (some 0x0109, s.commitRecord 0x0109 0)
        else match (if set.any (fun e => admissionKey e.1) then
              s.overSubscribed (set.any (fun e => decide (e.1 = kProfile))) else none) with
          | some k => (some 0x0200, s.commitRecord 0x0200 k)
          | none => s.commitApply m set limits

def kDiscard : Nat := ekey 0x7000 2

/-- DISCARD: staging takes the committed values. -/
def State.discardOp (s : State) : Nat × State :=
  if s.dict.commit.isSome then (0x0202, s.setCmd kDiscard { (s.cmd kDiscard) with refused := true })
  else
    let s := s.unstage
    (0, ({ s with dict := { s.dict with stageGen := s.dict.stageGen + 1 } }).cmdEnd kDiscard 0)

end Sys2Proof.Machine
end

