-- ==== Sys2Proof/Machine/Thermal.lean ====
section
/-!
DEFINITION. Thermal: sensors and group values (R314–R322), zones (R323–R326), the orderly stop (R328–R331), the hardware
trip (R332, R333), sensing failure (R334), the fans (R335–R338) and the board inputs (R339). Temperatures are in units of
1/1024 °C.
-/

namespace Sys2Proof.Machine

/-! ### Figures -/

/-- No valid sample: −512.000 °C (R315) (DESIGN CHOICE, log entry 146). -/
def noSample : Int := -524288

/-- A whole number of °C. -/
def celsius (n : Int) : Int := n * 1024

/-- Entry temperature of a zone (Table 3); that of Z4 is the comparator's. -/
def zoneEntry (z : Nat) : Int :=
  if z = 0 then noSample else if z = 1 then celsius 85 else if z = 2 then celsius 95 else if z = 3 then celsius 100
  else celsius 108

/-- ZONE: 4 while a trip is in force (R333). -/
def State.zoneNow (s : State) : Nat := if s.therm.trip then 4 else s.therm.zone

/-- The converter of a diode (Table 1): 0 A, 1 B. -/
def converterOf (g : Nat) : Nat := if g ≤ 8 ∨ g = 18 then 0 else 1

/-- The groups of a converter. -/
def converterGroups (conv : Nat) : List Nat := (List.range 20).filter (fun g => decide (converterOf g = conv))

/-- The neighbours of a layer group (R319, R320): for L0 base-B and L1, for L17 only L16. -/
def layerNeighbours (k : Nat) : List Nat := if k = 0 then [19, 1] else if k = 17 then [16] else [k - 1, k + 1]

/-! ### Accessors -/

def State.group (s : State) (g : Nat) : Group := mget {} s.therm.groups g
def State.setGroup (s : State) (g : Nat) (x : Group) : State :=
  { s with therm := { s.therm with groups := mset {} s.therm.groups g x } }

/-- Latest sample of a sensor. -/
def State.reading (s : State) (i : Nat) : Int := mget noSample s.therm.sample i

/-- The trusted diodes of a group. -/
def State.trusted (s : State) (g : Nat) : List Nat :=
  [4 * g, 4 * g + 1, 4 * g + 2, 4 * g + 3].filter (fun i => !s.therm.diodeBad.getLsbD i)

/-- The latest readings of some diodes, those without a sample apart. -/
def State.readings (s : State) (is : List Nat) : List Int := (is.map s.reading).filter (fun v => decide (v ≠ noSample))

/-- 8,000 times A_k: the activations of the last 8 ms, none for a layer that only repeats or is unpowered (R319). -/
def State.acts8000 (s : State) (k : Nat) : Nat :=
  if s.homedOn k = [] ∨ (s.layer k).supply ≠ 2 then 0 else (mget [] s.therm.acts k).sum

/-- The unit of the model term, as a part of 1/1024 °C: 2^−16 °C over 8,000 µs. -/
def modelUnit : Int := 64 * 8000

/-- The model term of a layer group in its unit: MODEL_GAIN × 8,000 A_k (R319). -/
def State.model (s : State) (k : Nat) : Int := ((s.rget (ekey 0x0400 0x13) * s.acts8000 k : Nat) : Int)

/-- A millisecond of A_k closes with every eighth minor cycle of converter A (DEDUCED, log entry 89). -/
def State.actsTick (s : State) : State :=
  let t := s.therm
  if t.minor < 7 then { s with therm := { t with minor := t.minor + 1 } }
  else { s with therm := { t with
    minor := 0, actNow := []
    acts := (List.range 18).foldl (fun a k => mset [] a k ((mget 0 t.actNow k :: mget [] a k).take 8)) t.acts } }

/-! ### TJ (R322) -/

/-- The highest value of some groups, with its group; the lowest group on a tie. -/
def State.highest (s : State) (gs : List Nat) : Int × Nat :=
  gs.foldl (fun b g => let v := (s.group g).value; if b.1 < v then (v, g) else b) (noSample, 0)

/-- TJ and the hottest-layer estimate. -/
def State.updateTj (s : State) : State :=
  let a := s.highest (List.range 20)
  { s with therm := { s.therm with tj := a.1, tjFrom := a.2, hottest := (s.highest (List.range 18)).1 } }

/-! ### Samples of a group (R319, R320, R324) -/

/-- What the samples of one conversion bring about beside the values: a dwell window has closed, and a value has reached
the comparator at 108 °C. -/
structure Evaluated where
  s : State
  closed : Bool := false
  hot : Bool := false

/-- One sample of a group: its value and its place in the windows. Window j closes at sample 3j + 3. -/
def Evaluated.sample (e : Evaluated) (g : Nat) (v : Int) : Evaluated :=
  let x := e.s.group g
  let recent := (v :: x.recent).take 4
  let closes := decide (3 ≤ x.count) && decide (x.count % 3 = 0)
  { e with
    s := (e.s.setGroup g { x with
      value := v, count := x.count + 1, recent := recent, window := if closes then recent else x.window }).updateTj
    closed := e.closed || closes }

/-- The estimate of a suspect group from the values around it, in units of the model term; `none` where both base groups
are without two trusted diodes (R320). -/
def State.estimated (s : State) (g : Nat) : Option Int :=
  if g < 18 then
    some ((layerNeighbours g).foldl (fun m n => max m (s.group n).value) noSample * modelUnit + s.model g)
  else
    let other := 37 - g
    if s.therm.groupBad.getLsbD other then none else some (((s.group other).value + celsius 5) * modelUnit)

/-- The group whose samples an estimate follows: the hotter neighbour, or the other base group. -/
def State.follows (s : State) (g n : Nat) : Bool :=
  if g < 18 then
    (layerNeighbours g).contains n && (layerNeighbours g).all (fun j => decide ((s.group j).value ≤ (s.group n).value))
  else decide (n = 37 - g)

/-- A suspect group takes its estimate, which is a sample of it and is compared with 108 °C (R320, R332). A part of a unit
is rounded by a free choice. -/
def Evaluated.estimate (e : Evaluated) (g : Nat) : Evaluated :=
  match e.s.estimated g with
  | none => e
  | some w =>
    let q := w / modelUnit
    let v := if w % modelUnit = 0 then q else if Config.tempRoundUp e.s.free then q + 1 else q
    let s := if w % modelUnit = 0 then e.s else e.s.tick
    let v := min v 524287
    let e := { e with s := s }.sample g v
    { e with hot := e.hot || decide (celsius 108 ≤ v) }

/-- The estimates that depend on a sample just taken follow, each group once (R320). -/
def Evaluated.cascade : Nat → List Nat → List Nat → Evaluated → Evaluated
  | 0, _, _, e => e
  | _, _, [], e => e
  | fuel + 1, seen, g :: rest, e =>
    let next := (List.range 20).filter (fun k => e.s.therm.groupBad.getLsbD k && !seen.contains k && e.s.follows k g)
    cascade fuel (seen ++ next) (rest ++ next) (next.foldl Evaluated.estimate e)

/-- A group becomes suspect: counted once, its numbering restarts, and its estimate is sample 0 (R320, R324). -/
def Evaluated.suspectGroup (e : Evaluated) (g : Nat) : Evaluated :=
  let s := { e.s with therm := { e.s.therm with groupBad := vset e.s.therm.groupBad g true } }
  let x := s.group g
  let s := (s.setGroup g { x with count := 0, recent := [] }).report 48
  { e with s := s }.estimate g

/-- The neighbour check (R319): every trusted diode of a layer group reads more than 6 °C below the expected lower bound. -/
def State.neighbourFails (s : State) (g : Nat) : Bool :=
  let rs := s.readings (s.trusted g)
  let sum := ((layerNeighbours g).map (fun n => (s.group n).value)).sum
  decide (g < 17) && decide (rs ≠ []) &&
    rs.all (fun r => decide (2 * modelUnit * r < modelUnit * sum + 2 * s.model g - 2 * modelUnit * celsius 6))

/-- A sample of a group's diodes: the group becomes suspect, or takes its highest trusted reading. -/
def Evaluated.groupSample (e : Evaluated) (g : Nat) : Evaluated :=
  let s := e.s
  if s.therm.groupBad.getLsbD g then e
  else if (s.trusted g).length < 2 ∨ s.neighbourFails g then e.suspectGroup g
  else match s.readings (s.trusted g) with
    | [] => e
    | r :: rs => e.sample g (rs.foldl max r)

/-! ### Cross-check of a diode (R318) -/

/-- Sort readings. -/
def sortInts : List Int → List Int
  | [] => []
  | x :: r => (sortInts r).takeWhile (fun y => decide (y < x)) ++ x :: (sortInts r).dropWhile (fun y => decide (y < x))

/-- Twice the median of some readings. -/
def median2 (l : List Int) : Int :=
  let t := sortInts l
  let n := t.length
  if n % 2 = 1 then 2 * t.getD (n / 2) 0 else t.getD (n / 2 - 1) 0 + t.getD (n / 2) 0

/-- A sample differs by more than 4 °C from the median of the other trusted diodes; two of them must have a reading. -/
def State.sampleStrays (s : State) (i : Nat) (v : Int) : Bool :=
  let others := s.readings ((s.trusted (i / 4)).filter (fun j => decide (j ≠ i)))
  decide (2 ≤ others.length) && decide (celsius 8 < 2 * v - median2 others ∨ celsius 8 < median2 others - 2 * v)

/-- A diode becomes suspect. -/
def State.suspectDiode (s : State) (i : Nat) : State :=
  ({ s with therm := { s.therm with diodeBad := vset s.therm.diodeBad i true } }).report 48

/-! ### Power state and trip (R333) -/

/-- POWER_STATE takes a value; a change is counted. -/
def State.setPower (s : State) (n : Nat) : State :=
  if s.power.st = n then s
  else ({ s with power := { s.power with st := n } }).count (ekey 0x0300 0x17) 1

/-- VDD_ARR, VDD_PERI and VPP of a layer are off (R333). -/
def Layer.arrayOff (l : Layer) : Layer :=
  { l with st := if l.failed then 5 else 0, locked := false, supply := 0, light := false }

/-- A layer's supplies are off, those of its repeaters too (R356). -/
def Layer.unpowered (l : Layer) : Layer := { l.arrayOff with phases := 0 }

/-- A trip with its cause (R333): the links go idle, the core clocks stop, and the layers lose their array supplies
(DEDUCED, log entry 91). -/
def State.tripNow (s : State) (cause : Nat) : State :=
  if s.therm.trip then s
  else
    let s := (s.rset (ekey 0x0400 0x09) cause).rset (ekey 0x0400 0x0A) (i20 s.therm.tj)
    let s := (s.each (linkNums s) State.idleLink).each (List.range 18) (fun t k => t.modLayer k Layer.arrayOff)
    let s := s.setPower 0
    let s := { s with
      therm := { s.therm with trip := true, thermN := true, step := 0 }
      power := { s.power with target := 0, changing := false } }
    s.report 51

/-! ### Orderly stop (R328) -/

/-- A stop begins, at t = 0 of Table 5, unless one runs. -/
def State.beginStop (s : State) : State :=
  if s.therm.stop ≠ 0 ∨ s.therm.trip ∨ s.power.st = 4 then s
  else
    let s := ({ s with therm := { s.therm with stop := 1 } }).report 50
    s.holdProfile.stopPorts.forceAll.idleQuietAll

/-- Step 4: THERM_N is asserted at the instant at which every channel has reached its commit point. -/
def State.stopPins (s : State) : State :=
  if decide (s.therm.stop = 1) && !s.therm.thermN && s.allForced then { s with therm := { s.therm with thermN := true } } else s

/-- STOP_COMPLETE: every channel past its commit point, THERM_N asserted, every link idle. -/
def State.stopComplete (s : State) : State :=
  if s.therm.stop ≠ 1 ∨ s.therm.trip then s
  else
    let t := s.each (chanNums s) State.forceNow
    if t.allForced then
      let t := t.idleAll
      ({ t with therm := { t.therm with stop := 2, thermN := true } }).count (ekey 0x0400 0x08) 1
    else s

/-- STOP_TIMEOUT: 400 µs have passed. -/
def State.stopTimeout (s : State) : State := if s.therm.stop = 1 then s.tripNow 3 else s

/-- The conditions of R330: every cause clear, and the zone is Z0. -/
def State.mayResume (s : State) : Bool :=
  !s.therm.causeSense && !s.therm.causePower && !s.therm.causeThermal && decide (s.therm.zone = 0) && !s.therm.trip

/-- The stop ends (R330, R357): the channels leave forced self-refresh, THERM_N is released and the links enter RECOVER, as
far as the power state and a test hold leave them to; a profile that waits is applied by its drain (R27). -/
def State.resumeNow (s : State) : State :=
  let st := s.power.st
  let s := if st ≤ 1 ∧ !s.therm.testHeld then s.each (chanNums s) State.unforce else s
  let s := { s with therm := { s.therm with stop := 0, thermN := false } }
  if st = 0 ∧ !s.therm.testHeld then
    let s := s.each (linkNums s) State.releaseLink
    if s.dict.profileWait then { s with dict := { s.dict with draining := true } } else s
  else s

/-- RESUME: its status. Without a stop in force it completes with no effect (DEDUCED, log entry 90). -/
def State.resumeOp (s : State) : Nat × State :=
  if !s.mayResume ∨ s.therm.stop = 1 then (0x0109, s) else if s.therm.stop = 2 then (0, s.resumeNow) else (0, s)

/-! ### Zones (R325) -/

/-- The target zone from the latest closed windows. -/
def State.targetZone (s : State) : Nat :=
  let z := s.therm.zone
  let ws := ((List.range 20).map (fun g => (s.group g).window)).filter (fun w => decide (w ≠ []))
  let up := [3, 2, 1].find? (fun j => decide (z < j) && ws.any (fun w => w.all (fun v => decide (zoneEntry j ≤ v))))
  let down := [3, 2, 1].find? (fun j =>
    decide (j ≤ z) && ws.any (fun w => w.any (fun v => decide (zoneEntry j - celsius 2 ≤ v))))
  up.getD (down.getD 0)

/-- The projection at entry into Z3, in µs: `none` for an infinite one (R328). `us` is the time from the first to the last
sample of the latest closed window of the group that sets TJ. The exact figure is the quotient of the two numbers. -/
def State.project (s : State) (us : Nat) : Option (Nat × Nat) :=
  let w := (s.group s.therm.tjFrom).window
  let slope := w.headD 0 - w.getLastD 0
  if slope ≤ 0 then none else some (((celsius 108 - s.therm.tj) * us).toNat, slope.toNat)

/-- A quotient in whole µs; a part of a µs is rounded by a free choice. -/
def State.wholeUs (s : State) (q : Nat × Nat) : Nat × State :=
  if q.1 % q.2 = 0 then (q.1 / q.2, s) else (q.1 / q.2 + b2n (Config.usRoundUp s.free), s.tick)

/-- A change of zone, with the stop or the trip that entry into Z3 brings. -/
def State.changeZone (s : State) (z us : Nat) : State :=
  let old := s.therm.zone
  let s := { s with therm := { s.therm with
    zone := z, limit := true, held := false
    step := if z = 2 then (if old = 2 then s.therm.step else 1) else 0
    causeThermal := s.therm.causeThermal && decide (z ≠ 0) } }
  let s := (s.count (ekey 0x0400 0x06) 1).report 49
  if z = 3 then
    let p := s.project us
    let (v, s) := match p with
      | some q => s.wholeUs q
      | none => (0xFFFFFFFF, s)
    let s := { s with therm := { s.therm with projection := Nat.min v 0xFFFFFFFF } }
    if p.any (fun q => decide (q.1 ≤ 400 * q.2)) then s.tripNow 2
    else ({ s with therm := { s.therm with causeThermal := true } }).beginStop
  else s

/-- A window closes: the zone takes its target, or the change is held by the 10 ms limit. AUTO_RESUME acts. -/
def State.windowClose (s : State) (us : Nat) : State :=
  if s.therm.trip then s
  else
    let z := s.targetZone
    let s :=
      if z = s.therm.zone then { s with therm := { s.therm with held := false } }
      else if s.therm.limit then
        if s.therm.held then s
        else ({ s with therm := { s.therm with held := true } }).count (ekey 0x0400 0x07) 1
      else s.changeZone z us
    if s.flag (ekey 0x0400 0x11) && decide (s.therm.stop = 2) && s.mayResume then s.resumeNow else s

/-- ZONE_HOLD_EXPIRY: 10 ms have passed since the last change; a held change takes the target computed at the next window
close. -/
def State.zoneHoldExpiry (s : State) : State := { s with therm := { s.therm with limit := false } }

/-- Z2_STEP_PERIOD_EXPIRY (R326). -/
def State.z2Step (s : State) : State :=
  if s.therm.zone ≠ 2 ∨ s.therm.trip ∨ s.inReset 4 0 then s
  else
    let n := s.therm.step
    let n := if celsius 97 ≤ s.therm.tj then Nat.min (n + 1) 4 else if s.therm.tj < celsius 96 then Nat.max (n - 1) 1 else n
    { s with therm := { s.therm with step := n } }

/-! ### Sensing failure (R334) -/

/-- Both base groups lack two trusted diodes. -/
def State.basesBad (s : State) : Bool := decide ((s.trusted 18).length < 2) && decide ((s.trusted 19).length < 2)

/-- A sensing failure begins or ends. -/
def State.judgeSensing (s : State) : State :=
  let bad := decide (s.therm.convBad ≠ 0) || s.basesBad
  if bad = s.therm.causeSense then s
  else
    let s := ({ s with therm := { s.therm with causeSense := bad } }).setLevel 52 bad
    if bad then s.beginStop else s

/-- SENSING_FAILURE: a converter has given no valid sample for 16 ms, or the base groups are both without trust. -/
def State.sensingFailure (s : State) (conv : Option Nat) : State :=
  if s.boot = .held ∨ s.power.st = 4 then s
  else
    let s := match conv with
      | some c => { s with therm := { s.therm with convBad := nset s.therm.convBad c true } }
      | none => s
    s.judgeSensing

/-! ### Rows of the evaluator -/

/-- The evaluator samples: outside P4 and its own block reset (R314, R373). -/
def State.senses (s : State) : Bool := decide (s.power.st ≠ 4) && !s.inReset 4 0

/-- The evaluation of a conversion up to the group values; a suspect diode is not compared. -/
def State.evaluate (s : State) (i : Nat) (value : Option Int) : Evaluated :=
  let g := i / 4
  let v := value.getD noSample
  let valid := decide (v ≠ noSample)
  let s := { s with therm := { s.therm with sample := mset noSample s.therm.sample i v } }
  let s := if valid then { s with therm := { s.therm with convBad := nset s.therm.convBad (converterOf g) false } } else s
  let s := if s.therm.diodeBad.getLsbD i then s
    else if !valid || s.sampleStrays i v then s.suspectDiode i else s
  let hot := !s.therm.diodeBad.getLsbD i && decide (celsius 108 ≤ v)
  let e := ({ s := s, hot := hot } : Evaluated)
  let before := e.s.therm.groupBad
  let e := e.groupSample g
  if before.getLsbD g then e else e.cascade 64 [g] [g]

/-- SENSOR_SAMPLE: a conversion of a diode; in the evaluator's block reset only the comparator acts (R373). -/
def State.sensorSample (s : State) (i : Nat) (value : Option Int) (us : Nat) : State :=
  if s.power.st = 4 then s
  else if !s.senses then
    if !s.therm.diodeBad.getLsbD i && value.any (fun v => decide (celsius 108 ≤ v)) then s.tripNow 1 else s
  else
    let e := s.evaluate i value
    let s := e.s
    let s := if e.hot then s.tripNow 1 else if e.closed && decide (s.boot ≠ .held) then s.windowClose us else s
    if s.boot = .held then s else s.judgeSensing

/-- The tier that a group's margin asks for: 0 S, 1 M, 2 F (Table 2). -/
def State.ownTier (s : State) (g : Nat) : Nat :=
  let m := zoneEntry (s.therm.zone + 1) - (s.group g).value
  if m ≤ celsius 2 then 2 else if m ≤ celsius 5 then 1 else 0

/-- The tier of a group; a layer group beside a suspect group takes the faster of the two. -/
def State.wantedTier (s : State) (g : Nat) : Nat :=
  if g < 18 then
    ((layerNeighbours g).filter (fun n => s.therm.groupBad.getLsbD n)).foldl (fun t n => Nat.max t (s.ownTier n)) (s.ownTier g)
  else s.ownTier g

/-- Serve `n` groups of a list, the smallest margins first; equal ones by the rotating tie-break, whose pointer moves past
each winner (R148). -/
def State.serve (s : State) : Nat → Nat → List Nat → List Nat × Nat
  | 0, p, _ => ([], p)
  | n + 1, p, gs =>
    let top := gs.foldl (fun m g => max m (s.group g).value) noSample
    match tieBreak p (gs.filter (fun g => decide ((s.group g).value = top))) with
    | none => ([], p)
    | some g =>
      let (r, q) := State.serve s n ((g + 1) % 20) (gs.filter (fun x => decide (x ≠ g)))
      (g :: r, q)

/-- CONVERTER_MINOR_CYCLE: the groups of a converter get their tiers; a group served below its tier is counted. -/
def State.minorCycle (s : State) (conv : Nat) : State :=
  if !s.senses || decide (s.boot = .held) then s
  else
    let s := if conv = 0 then s.actsTick else s
    let gs := converterGroups conv
    let want := fun t => gs.filter (fun g => decide (s.wantedTier g = t))
    let (f, p) := s.serve 2 (mget 0 s.therm.demotePtr (2 * conv)) (want 2)
    let mCount := if f.length = 0 then 10 else if f.length = 1 then 9 else 6
    let (m, q) := s.serve mCount (mget 0 s.therm.demotePtr (2 * conv + 1))
      (want 1 ++ (want 2).filter (fun g => !f.contains g))
    let tier := fun g => if f.contains g then 2 else if m.contains g then 1 else 0
    let s := gs.foldl (fun t g => t.setGroup g { (t.group g) with tier := tier g }) s
    let s := { s with therm := { s.therm with
      demotePtr := mset 0 (mset 0 s.therm.demotePtr (2 * conv) p) (2 * conv + 1) q } }
    s.count (ekey 0x0400 0x17) ((gs.filter (fun g => decide (tier g < s.wantedTier g))).length)

/-- GROUP_CLEAR: every diode of the group is trusted again, and its numbering restarts (R321, R324). -/
def State.groupClear (s : State) (g : Nat) : Nat × State :=
  if 19 < g then (0x0105, s)
  else
    let s := { s with therm := { s.therm with
      diodeBad := [4 * g, 4 * g + 1, 4 * g + 2, 4 * g + 3].foldl (fun w i => vset w i false) s.therm.diodeBad
      groupBad := vset s.therm.groupBad g false } }
    (0, (s.setGroup g { (s.group g) with count := 0, recent := [] }).judgeSensing)

/-! ### Fans (R335–R338) -/

/-- A condition of R338 forces both outputs to 100 %. -/
def State.fansForced (s : State) : Bool :=
  decide (s.power.st ≠ 4) &&
    (decide (2 ≤ s.zoneNow) || decide (s.therm.stop ≠ 0) || s.therm.causeSense || decide (s.therm.fanBad ≠ 0) ||
      s.therm.fwLate || s.dict.mpDown || s.inReset 4 0)

/-- The duty now driven, in 0.1 %: low in P4 (R356). -/
def State.fanDuty (s : State) (n : Nat) : Nat :=
  if s.power.st = 4 then 0 else if s.fansForced then 1000 else s.rget (ekey 0x0400 (0x26 + n))

/-- FAN_LOOP_TICK: the firmware computes a duty and writes it to both outputs. A part of 0.1 % is rounded by a free
choice. -/
def State.fanLoop (s : State) : State :=
  if !s.mpRuns then s
  else
    let write := fun (s : State) (d : Nat) =>
      ({ s with therm := { s.therm with fwLate := false } }.rset (ekey 0x0400 0x26) d).rset (ekey 0x0400 0x27) d
    let g := fun i => s.rget (ekey 0x0400 i)
    if g 0x20 = 1 then write s (g 0x25)
    else
      let e := s.therm.hottest - i20Val (g 0x21)
      let i := max 0 (min (s.therm.integral + (g 0x23 : Int) * e) (1000 * 10240))
      let d := 10 * (g 0x22 : Int) * e + i
      let whole := d / 10240
      let up := decide (d % 10240 ≠ 0) && Config.dutyRoundUp s.free
      let s := { s with therm := { s.therm with integral := i } }
      let s := if d % 10240 = 0 then s else s.tick
      let d := if up then whole + 1 else whole
      write s (max (g 0x24 : Int) (min d 1000)).toNat

/-- FAN_SPEED_UPDATE: 60 × pulses per second ÷ FAN_PULSES, whole rpm. -/
def State.fanSpeed (s : State) (fan pulses : Nat) : State :=
  if s.boot = .held ∨ s.power.st = 4 then s
  else
    let p := s.rget (ekey 0x0400 0x2A)
    let v := 60 * pulses / p
    let odd := decide (60 * pulses % p ≠ 0)
    let v := if odd && Config.rpmRoundUp s.free then v + 1 else v
    (if odd then s.tick else s).rset (ekey 0x0400 (0x28 + fan)) (Nat.min v 65535)

/-- FAN_FAIL follows the failed fans (R337). -/
def State.fanLevel (s : State) : State :=
  let on := decide (s.therm.fanBad ≠ 0)
  if s.faults.now.getLsbD 53 = on then s else s.setLevel 53 on

/-- FAN_FAIL_DETECT. -/
def State.fanFail (s : State) (fan : Nat) (recovered : Bool) : State :=
  if s.boot = .held ∨ s.power.st = 4 then s
  else
    let set := fun b => ({ s with therm := { s.therm with fanBad := nset s.therm.fanBad fan b } }).fanLevel
    if recovered then set false
    else if s.rget (ekey 0x0400 (0x2B + fan)) ≠ 0 ∧ 300 ≤ s.fanDuty fan then set true else s

/-- FAN_DUTY_TIMEOUT: the firmware has written no duty for 500 ms. -/
def State.fanTimeout (s : State) : State :=
  if s.power.st = 4 then s else { s with therm := { s.therm with fwLate := true } }

/-! ### Board inputs (R339) -/

/-- A value within the range of a valid sample (R315). -/
def sampleRange (v : Int) : Int := max (-524287) (min v 524287)

/-- A TD sample: what the converter measures is the product of the absolute temperature, in 1/1024 K, and the diode's
ideality; TD_IDEALITYn divides it out (DESIGN CHOICE, log entry 172). A part of a unit is rounded by a free choice. -/
def State.diodeTemp (s : State) (n raw : Nat) : Int × State :=
  let i := s.rget (ekey 0x0400 (0x39 + n))
  let num : Int := (raw * 100000 : Nat) - (2797056 * i : Nat)
  let den : Int := (10 * i : Nat)
  if num % den = 0 then (sampleRange (num / den), s)
  else (sampleRange (if Config.tempRoundUp s.free then num / den + 1 else num / den), s.tick)

/-- A TH sample: the β model from a resistance in ohms, which gives 25 °C at 10 kΩ, more below it and less above it; its value
elsewhere, a logarithm, is left to the implementation's rounding (DESIGN CHOICE, log entry 172). -/
def State.thermistorTemp (s : State) (n ohms : Nat) : Int :=
  let v := Config.thermistor (s.rget (ekey 0x0400 (0x3D + n))) ohms
  sampleRange (if ohms = 10000 then celsius 25 else if ohms < 10000 then max v (celsius 25) else min v (celsius 25))

/-- What a board input reads. -/
def State.boardTemp (s : State) (input : Nat) : Option Nat → Int × State
  | none => (noSample, s)
  | some raw => if input < 4 then s.diodeTemp input raw else (s.thermistorTemp (input - 4) raw, s)

/-- BOARD_SENSOR_SAMPLE: TD0–TD3, then TH0–TH3; sampled while enabled. `raw` is what the converter or the bridge measures. -/
def State.boardSample (s : State) (input : Nat) (raw : Option Nat) : State :=
  if s.boot = .held ∨ !s.senses ∨ !nbit (s.rget (ekey 0x0400 0x30)) input then s
  else
    let (v, s) := s.boardTemp input raw
    let high := decide (v ≠ noSample) && decide (i20Val (s.rget (ekey 0x0400 (0x31 + input))) ≤ v)
    let run := if high then mget 0 s.therm.boardRun input + 1 else 0
    let s := { s with therm := { s.therm with
      sample := mset noSample s.therm.sample (80 + input) v
      boardRun := mset 0 s.therm.boardRun input (Nat.min run 4) } }
    let s := if v = noSample ∨ run = 3 then s.report 54 else s
    if v ≠ noSample ∧ input < 4 then
      ({ s with therm := { s.therm with convBad := nset s.therm.convBad (input / 2) false } }).judgeSensing
    else s

end Sys2Proof.Machine
end

