-- ==== Sys2Proof/Machine/Reset.lean ====
section
/-!
DEFINITION. Reset: the chip reset and what survives it (R40, R134, R371, R382), the start of the power-up sequence (R359),
the block resets (R175, R373), the crossings (R369, R370) and the clock monitor (R364, R365).
-/

namespace Sys2Proof.Machine

/-! ### Chip reset (R371) -/

/-- The registers of the always-on domain (R134, R333, R371); a committed exclusion is also its staged value
(DEDUCED, log entry 82). -/
def alwaysOn (k : Nat) : Bool :=
  let i := k / 256
  let sub := k % 256
  decide ((0x1000 ≤ i ∧ i ≤ 0x107F ∧ (sub = 0xD5 ∨ sub = 0xE3)) ∨ k = ekey 0x1C00 0xC3 ∨ k = ekey 0x0400 0x09 ∨
    k = ekey 0x0400 0x0A ∨ k = ekey 0x0300 0x16)

/-- The registers after a chip reset. -/
def keptRegs (m : SMap Nat) : SMap Nat :=
  m.foldr (fun e r =>
    if !alwaysOn e.1 then r
    else if 0x1000 ≤ e.1 / 256 ∧ e.1 / 256 ≤ 0x107F ∧ e.1 % 256 = 0xE3 then (e.1 - 1, e.2) :: e :: r
    else e :: r) []

/-- A channel after a chip reset: the record of channels retired since power-up keeps it retired. -/
def State.keptChan (s : State) (m : Nat) : Chan :=
  let c := s.rget (chanKey m 0xD5)
  { st := .retired, vl := { coilRetired := decide (c = 1 ∨ c = 2) } }

/-- A chip reset with a cause of Table 11 and, for cause 0x02, its source. The antifuses, the TAP, the pins and the always-on
items are kept; a trip keeps FAULT_N until the power-up sequence starts (DESIGN CHOICE, log entry 10). -/
def State.chipResetNow (s : State) (cause source : Nat) : State :=
  let p : Power := { coreOk := s.power.coreOk, phyOk := s.power.phyOk, memOk := s.power.memOk, vauxOk := s.power.vauxOk,
                     vprogOk := s.power.vprogOk, pwrwarn := s.power.pwrwarn, railLost := s.power.railLost }
  let c : Clocks := { refclkOk := s.clk.refclkOk, resetN := s.clk.resetN, count := s.clk.count + 1, cause := cause,
                      source := source, maddr := s.clk.maddr }
  let r : Repair := { retired := s.repair.retired, assign16 := s.repair.assign16, assign17 := s.repair.assign17,
                      mapEver := s.repair.mapEver
                      unhardened := s.repair.unhardened.filter (fun v => decide (4 ≤ v.toNat / 2 ^ 29)) }
  let t : Therm := { tj := s.therm.tj, tjFrom := s.therm.tjFrom, hottest := s.therm.hottest, trip := s.therm.trip,
                     thermN := s.therm.trip, sample := s.therm.sample
                     groups := s.therm.groups.map (fun g => (g.1, { value := g.2.value })) }
  ({ pending := s.pending, now := s.now, free := s.free, variant := s.variant, gradeFs := s.gradeFs
     regs := keptRegs s.regs, map := s.map, reg := { winFrom := s.now }
     chans := s.repair.retired.map (fun m => (m, s.keptChan m))
     repair := r, therm := t, power := p, clk := c
     faults := { disarmed := s.faults.disarmed }
     gran := { c0 := s.gran.c0, c1 := s.gran.c1 }
     lc := { st := s.lc.st }
     tap := s.tap } : State).tapJudge

/-- PWRWARN_N stands asserted: the level source reports, and a stop begins (R358). -/
def State.warnNow (s : State) : State :=
  (({ s with therm := { s.therm with causePower := true } }).setLevel 57 true).beginStop

/-- The collector restarts (R382, R342): a source whose CHIPRST has acted is set again with its other reactions, and a rail
loss is reported (DEDUCED, log entry 93). -/
def State.collectorRestart (s : State) : State :=
  let n := s.clk.source
  let s := if s.clk.cause = 2 ∧ n < 128 then
      let t := { s with faults := { s.faults with sticky := vset s.faults.sticky n true } }
      t.onset n (t.reaction n) false
    else if s.clk.cause = 3 then s.report 56 else s
  if s.power.pwrwarn then s.warnNow else s

/-- t = 0 of the power-up sequence: Granary sensing starts (Table 6 of the power chapter). The evaluator starts afresh
(DEDUCED, log entry 92). -/
def State.startBoot (s : State) : State :=
  { s with boot := .sensing, therm := {}, clk := { s.clk with locks := 31 } }.collectorRestart

/-- The reset is left once RESET_N is high and no rail loss or REFCLK loss holds it. Where RESET_N was released with TJ at 83 °C
or above, TJ must first fall below that value, and THERM_N is asserted meanwhile (R333, R342, R365). -/
def State.tryBoot (s : State) : State :=
  if s.boot = .held ∧ s.clk.resetN ∧ s.power.railLost = none ∧ s.clk.refclkOk then
    if s.therm.hotHold ∧ celsius 83 ≤ s.therm.tj then { s with therm := { s.therm with thermN := true } } else s.startBoot
  else s

/-- A chip reset that is left at once where nothing holds it. -/
def State.chipReset (s : State) (cause source : Nat) : State := (s.chipResetNow cause source).tryBoot

/-! ### Rows of power-on, rails and RESET_N -/

/-- POWER_ON_RESET: nothing is kept but the antifuses (R342, R390). -/
def State.powerOn (s : State) : State :=
  { State.reset with
    pending := s.pending, now := s.now, free := s.free, reg := { winFrom := s.now }, gran := { c0 := s.gran.c0, c1 := s.gran.c1 } }

/-- A rail is in range or not. -/
def Power.setRail (p : Power) (r : Rail) (b : Bool) : Power :=
  match r with
  | .core => { p with coreOk := b }
  | .phy => { p with phyOk := b }
  | .mem => { p with memOk := b }

/-- The code of a rail in LAST_POWER_EVENT. -/
def railCode : Rail → Nat
  | .core => 1
  | .phy => 2
  | .mem => 3

/-- RAIL_LOSS: outside P4 a chip reset that holds until RAIL_RESTART. -/
def State.railLoss (s : State) (r : Rail) : State :=
  let lost := fun (t : State) => { t with power := { t.power.setRail r false with railLost := some r } }
  if s.power.st = 4 then { s with power := s.power.setRail r false }
  else if s.boot = .held then lost s
  else (lost (s.rset (ekey 0x0300 0x16) (railCode r))).chipReset 3 0xFF

/-- RAIL_RESTART: all three rails have been in range for 1 ms. -/
def State.railRestart (s : State) : State :=
  if s.power.railLost = none then s
  else ({ s with power := { s.power with coreOk := true, phyOk := true, memOk := true, railLost := none } }).tryBoot

/-- RESET_N_ASSERT: a chip reset with cause 0x01, which holds while RESET_N is low; from P4 it is also a wake (R355). -/
def State.resetAssert (s : State) : State :=
  let low := { s with clk := { s.clk with resetN := false } }
  if s.boot = .held then low
  else
    let p4 := decide (s.power.st = 4)
    let t := low.chipReset 1 0xFF
    if p4 then t.rset (ekey 0x0300 0x15) 5 else t

/-- RESET_N_RELEASE: the rails have been in range (R359); MADDR is sampled (R426) (PRESUMED, log entry 94). -/
def State.resetRelease (s : State) (maddr : Nat) : State :=
  if s.clk.resetN ∨ s.boot ≠ .held then s
  else ({ s with
    clk := { s.clk with resetN := true, maddr := maddr }
    therm := { s.therm with hotHold := decide (celsius 83 ≤ s.therm.tj) }
    power := { s.power with coreOk := true, phyOk := true, memOk := true, vauxOk := true, railLost := none } }).tryBoot

/-- CHIP_RESET with its key. -/
def State.chipResetOp (s : State) (arg : Nat) : Nat × State := if arg = 0xA5C3 then (0, s.chipReset 4 0xFF) else (0x0105, s)

/-! ### Block resets (R373) -/

/-- Clear the counters of some rows at an index (R40) (DEDUCED, log entry 96). -/
def State.clearCounters (s : State) (index : Nat) (rows : List EntryRow) : State :=
  rows.foldl (fun s r =>
    if r.chk = .counter then
      s.each ((List.range (r.hi + 1 - r.lo)).map (· + r.lo)) (fun t sub => t.rset (ekey index sub) 0)
    else s) s

/-- The block reset of a channel, steps 1 to 3: the requests of links are answered, those of the engine wait to be issued
again, and the debt is paid before the self-refresh, which is a forced one (R174, R175, R118, R200, R226, R248, R308). -/
def State.channelReset (s : State) (m : Nat) : State :=
  let s := s.each (linkNums s) (fun t n => t.refuseHeld n 3 (fun h => (t.chansOf h).contains m))
  let s := ((s.refuseQueued m 3).reissue m).abortSlice m
  let c := s.chan m
  let live := decide (c.st ∈ [.serving, .entering, .steep, .exiting]) && !c.stopped && s.layerClocked m
  let s := if live then s.payDebt m else s
  let s := if c.st = .inSr then s else s.sre m .blockReset
  let s := s.modChan m (fun c => { c with
    st := .blockReset, sinceMaint := 7, ceRows := List.replicate 32 none
    ref := { c.ref with tabs := [], pending := [], forced := false }
    rep := { c.rep with tally := [] } })
  let s := s.clearCounters (0x1000 + m) chanRows
  { s with clk := { s.clk with nrChan := vset s.clk.nrChan m true } }

/-- The channel leaves reset: the exit runs a full Steep window in place of the exit check (R175). Where another chapter still
forces the channel it stays in self-refresh, and leaves it later by the exit of R174 (DESIGN CHOICE, log entry 171). -/
def State.channelResetEnd (s : State) (m : Nat) : State :=
  let s := s.modChan m (fun c => { c with st := .inSr })
  if (s.chan m).forced then s else s.srx m true

/-- The block reset of the regulator (Table 8, R150). -/
def State.regulatorReset (s : State) : State :=
  let s := ({ s with reg := { s.reg with tok := [], ptr := [], urgLevel := 0, urgStuck := 0 } }).windowZero
  let s := s.each (List.range 16) (fun t c => t.clearCounters (0x2000 + c) classRows)
  let s := s.each (List.range 128) (fun t p => t.clearCounters (0x2200 + p) portRows)
  (s.clearCounters 0x2300 urgRows).stuckLevel

/-- The block reset of the management processor: staging is lost, and so are the answers that wait (R15, R48, R435). -/
def State.mgmtReset (s : State) : State :=
  let s := s.unstage.busLost
  let s := s.each (linkNums s) (fun t n => t.modLink n (fun l => { l with mgmtBy := [] }))
  { s with
    dict := { s.dict with mpDown := true, accPtr := 0, commit := s.dict.commit.map (fun c => { c with answer := none }) }
    clk := { s.clk with nrOther := 7 } }

/-- The restart of the management processor: staging reads as committed (R15, R48), traps that wait are taken while their bits still stand (R383), and READY is
set (R442). -/
def State.mgmtResetEnd (s : State) : State :=
  let s := s.unstage
  let now := s.faults.nmiWait.filter (fun n => if n < 256 then s.faults.sticky.getLsbD n else s.faults.wire.getLsbD (n - 256))
  ({ s with
    dict := { s.dict with mpDown := false }
    clk := { s.clk with locks := nset s.clk.locks 1 true }
    faults := { s.faults with nmi := now.reverse ++ s.faults.nmi, nmiWait := [] } }).reason 2

/-- An instance can be reset: it exists on the variant, and a channel is not retired (DEDUCED, log entry 131). -/
def State.canReset (s : State) (code inst : Nat) : Bool :=
  if code = 0 then decide (inst < enabled s.variant)
  else if code = 1 then decide (inst < enabled s.variant) && !s.retired inst
  else if code = 2 then decide (inst = 0) && decide (slices s.variant ≠ 0)
  else decide (code ≤ 5) && decide (inst = 0)

/-- A block reset starts; one that runs already is merged (DEDUCED, log entry 95; DESIGN CHOICE, log entry 143). -/
def State.startBlockReset (s : State) (code inst : Nat) : State :=
  if s.boot = .held ∨ s.power.st = 4 ∨ !s.canReset code inst ∨ s.inReset code inst then s
  else
    let s := (s.count (ekey 0x0500 0x15) 1)
    let s := { s with clk := { s.clk with resets := s.clk.resets ++ [(code, inst)] } }
    if code = 0 then s.linkReset inst 0xA
    else if code = 1 then s.channelReset inst
    else if code = 2 then s.engineReset
    else if code = 3 then s.regulatorReset
    else if code = 4 then
      let s := s.clearCounters 0x0400 thermRows
      { s with clk := { s.clk with nrOther := nset s.clk.nrOther 1 true } }
    else s.mgmtReset

/-- BLOCK_RESET_END. -/
def State.endBlockReset (s : State) (code inst : Nat) : State :=
  if !s.inReset code inst then s
  else
    let s := { s with clk := { s.clk with resets := s.clk.resets.filter (fun x => decide (x ≠ (code, inst))) } }
    if code = 0 then
      s.modLink inst (fun l => if l.st = .reset then { l with st := s.freshState inst } else l)
    else if code = 1 then (if s.retired inst then s else s.channelResetEnd inst)
    else if code = 5 then s.mgmtResetEnd
    else s

/-- BLOCK_RESET: block code, then the instance. -/
def State.blockResetOp (s : State) (code inst : Nat) : Nat × State :=
  if s.canReset code inst then (0, s.startBlockReset code inst)
  else if code = 1 ∧ inst < enabled s.variant then (0, s)
  else (0x0105, s)

/-! ### Crossings (R370) -/

/-- CDC_RESYNC: the handshake of the queues of one kind completes once neither side is in reset; those of a channel to its layer
once the layer has its clock (R263). -/
def State.cdcResync (s : State) (q : CdcQueue) : State :=
  match q with
  | .link n => if s.inReset 0 n then s else { s with clk := { s.clk with nrLink := vset s.clk.nrLink n false } }
  | .channel m => if s.inReset 1 m then s else { s with clk := { s.clk with
      nrChan := vset s.clk.nrChan m false, nrLayer := if s.layerClocked m then vset s.clk.nrLayer m false else s.clk.nrLayer } }
  | .dictionary => if s.inReset 5 0 then s else { s with clk := { s.clk with nrOther := nset s.clk.nrOther 0 false } }
  | .thermal =>
    if s.inReset 5 0 || s.inReset 4 0 then s else { s with clk := { s.clk with nrOther := nset s.clk.nrOther 1 false } }
  | .bus => if s.inReset 5 0 then s else { s with clk := { s.clk with nrOther := nset s.clk.nrOther 2 false } }

/-! ### Clocks (R364, R365) -/

/-- CLOCK_MONITOR_WINDOW: the errors are recorded, and REFCLK is judged. -/
def State.clockWindow (s : State) (errs : List Int) (ok : Bool) : State :=
  if s.power.st = 4 then s
  else if s.boot = .held then (if ok then s else { s with clk := { s.clk with refclkOk := false } })
  else
    let s := s.each (List.range 6) (fun t i => t.rset (ekey 0x0500 (0x20 + i)) (i20 (errs.getD i 0)))
    if ok then { s with clk := { s.clk with refclkOk := true } }
    else
      let was := s.clk.holdover
      let s := { s with clk := { s.clk with refclkOk := false, holdover := true } }
      if was then s else (s.count (ekey 0x0500 0x02) 1).report 64

/-- REFCLK_RETURN: the holdover ends, or the reset that REFCLK has held. -/
def State.refclkReturn (s : State) (us : Nat) : State :=
  if s.boot = .held then ({ s with clk := { s.clk with refclkOk := true } }).tryBoot
  else if s.clk.holdover then
    ({ s with clk := { s.clk with holdover := false, refclkOk := true } }).peak (ekey 0x0500 0x03) us (2 ^ 32 - 1)
  else s

/-- HOLDOVER_TIMEOUT. -/
def State.holdoverTimeout (s : State) : State :=
  if s.clk.holdover then ({ s with clk := { s.clk with refclkOk := false } }).chipReset 5 0xFF else s

/-- The domain of a PLL runs (Table 2). -/
def State.pllRuns (s : State) (p : Pll) : Bool :=
  decide (s.boot ≠ .held) && decide (s.power.st ≠ 4) &&
    (match p with
      | .sense | .mgmt => true
      | .chan => !s.therm.trip
      | .linkCore | .fabric => !s.therm.trip && decide (s.power.st ≤ 2))

/-- PLL_LOSS_OF_LOCK (Table 3). -/
def State.pllLoss (s : State) (p : Pll) : State :=
  if !s.pllRuns p then s
  else if p = .mgmt then
    ({ s with clk := { s.clk with locks := nset s.clk.locks 1 false } }).startBlockReset 5 0
  else s.chipReset 6 0xFF

end Sys2Proof.Machine
end

