-- ==== Sys2Proof/Machine/Power.lean ====
section
/-!
DEFINITION. Power: faults of the layer supplies (R345, R346), the PMBus controller with AVS (R347–R352), the power states
and their exits (R353–R357), the power warning (R358), and the end of a profile change (R26, R27).
-/

namespace Sys2Proof.Machine

/-! ### Layer supplies (R345, R346) -/

/-- LAYER_SUPPLY_FAULT: the array supplies of the layer go off, and its PLL loses lock. -/
def State.supplyFault (s : State) (k : Nat) : State :=
  if s.boot = .held ∨ s.therm.trip ∨ 3 < s.power.st ∨ (s.layer k).supply = 0 ∨ (s.layer k).supply = 3 then s
  else
    let s := (s.modLayer k (fun l => { l with supply := 3 })).count (ekey 0x0300 0x71) 1
    (s.report 21 k).loseLock k

/-- The column of a channel, an extension among it, crosses a layer: the layer regenerates it (R256, R275). -/
def State.crosses (s : State) (m k : Nat) : Bool := decide (k < s.home m + (s.chan m).vl.extHops)

/-- VDD_REP_PHASE_LOSS: one phase interrupts nothing; without both, the channels that cross the layer are retired
(DEDUCED, log entry 103). -/
def State.phaseLoss (s : State) (k : Nat) : State :=
  if s.boot = .held ∨ s.therm.trip ∨ 3 < s.power.st ∨ (s.layer k).phases = 0 then s
  else
    let s := (s.modLayer k (fun l => { l with phases := l.phases - 1 })).count (ekey 0x0300 0x71) 1
    let s := s.report 21 k
    if (s.layer k).phases = 0 then
      s.each ((chanNums s).filter (fun m => s.crosses m k)) (fun t m => t.retire m 3)
    else s

/-! ### The PMBus controller (R347, R348) -/

/-- PMBus polling and AVS run from the end of the joint's calibration on, outside P4 (Table 6 of the power chapter). -/
def State.pmbusRuns (s : State) : Bool :=
  !decide (s.boot ∈ [.held, .sensing, .jointFailed, .voidStop]) && decide (s.power.st ≠ 4)

/-- The slots in use that hold a role. -/
def State.slotOf (s : State) (role : Nat) : Option Nat :=
  [0, 1, 2, 3].find? (fun d => let x := s.power.slots.getD d (0, 0); decide (x.1 ≠ 0) && decide (x.2 = role))

/-- STALE of a slot. -/
def State.stale (s : State) (d : Nat) : Bool := nbit (s.rget (ekey 0x0300 0x4A)) (28 + d)

/-- Set STALE of a slot. -/
def State.setStale (s : State) (d : Nat) (b : Bool) : State :=
  s.rset (ekey 0x0300 0x4A) (nset (s.rget (ekey 0x0300 0x4A)) (28 + d) b)

/-- One slot is polled (DEDUCED, log entry 100). -/
def State.pollSlot (s : State) (d : Nat) (r : Option PmbReply) (voutMode : Nat) : State :=
  let k := ekey 0x0300
  let x := s.power.slots.getD d (0, 0)
  if x.1 = 0 then s.setStale d false
  else match r with
    | none => (s.count (k 0x61) 1).setStale d true
    | some r =>
      let s := (((s.rset (k (0x50 + d)) r.statusWord).rset (k (0x54 + d)) r.vout).rset (k (0x58 + d)) r.iout).rset
        (k (0x5C + d)) r.temp
      let s := s.setStale d false
      if x.2 = 1 ∧ s.power.avsMode = none ∧ !s.power.avsHeld then
        { s with power :=
          if voutMode / 32 = 0 then { s.power with avsMode := some voutMode } else { s.power with avsHeld := true } }
      else s

/-- READ_IOUT of the device bound to a role, 0 if none is bound. -/
def State.boundCurrent (s : State) (role : Nat) : Nat :=
  match s.slotOf role with
  | some d => s.rget (ekey 0x0300 (0x58 + d))
  | none => 0

/-- What base-A has measured goes into the telemetry and POWER_STATUS (R341, R342, Table 9) (DEDUCED, log entry 106). -/
def State.takeReadings (s : State) (r : RailReadings) : State :=
  let k := ekey 0x6000
  let t := s.rget (ekey 0x0300 0x21)
  let in' := fun (v lo hi : Nat) => decide (lo ≤ v) && decide (v ≤ hi)
  let s := { s with power := { s.power with
    coreOk := decide (98 * t ≤ 100 * r.core) && decide (100 * r.core ≤ 102 * t)
    phyOk := in' r.phy 77600 82400, memOk := in' r.mem 116400 123600
    vauxOk := in' r.vaux 174600 183000, vprogOk := in' r.vprog 242000 252000 } }
  let s := [(0x80, r.core), (0x81, s.boundCurrent 1), (0x82, r.phy), (0x83, s.boundCurrent 2), (0x84, r.mem), (0x85, r.memI),
    (0x86, r.vaux), (0x87, r.vprog)].foldl (fun s (e : Nat × Nat) => s.rset (k e.1) e.2) s
  let s := s.each (List.range r.layers.length) (fun t i =>
    let x := r.layers.getD i {}
    (((t.rset (k (0x90 + i)) x.arr).rset (k (0xA2 + i)) x.peri).rset (k (0xB4 + i)) x.vpp).rset (k (0xC6 + i)) x.ma)
  let p := r.core * s.boundCurrent 1 + r.phy * s.boundCurrent 2 + r.mem * r.memI
  if p % 100000 = 0 then s.rset (ekey 0x0300 0x30) (p / 100000)
  else (s.rset (ekey 0x0300 0x30) (p / 100000 + b2n (Config.powerRoundUp s.free))).tick

/-- PMBUS_POLL: the slots are taken as they stand and polled in turn; with the data line stuck the poll waits (R352). -/
def State.pmbusPoll (s : State) (replies : List (Option PmbReply)) (voutMode : Nat) (rails : RailReadings) : State :=
  if !s.pmbusRuns then s
  else
    let k := ekey 0x0300
    let s := if s.power.stuck then s
      else
        let s := { s with power := { s.power with
          slots := [0, 1, 2, 3].map (fun d => (s.rget (k (0x40 + d)), s.rget (k (0x44 + d)))) } }
        s.each [0, 1, 2, 3] (fun t d => t.pollSlot d (replies.getD d none) voutMode)
    s.takeReadings rails

/-- PMBUS_ALERT: the device is read and cleared, and RAIL_FAULT is reported (DEDUCED, log entry 101). -/
def State.pmbusAlert (s : State) (slot : Option Nat) (statusWord : Nat) : State :=
  if !s.pmbusRuns || s.power.stuck then s
  else
    let s := match slot with
      | some d => s.rset (ekey 0x0300 (0x50 + d)) statusWord
      | none => s.count (ekey 0x0300 0x61) 1
    s.report 56

/-- PMBUS_RECOVERY: up to three recoveries of a stuck data line (R352) (DEDUCED, log entry 102). -/
def State.pmbusRecovery (s : State) (after : Option Nat) : State :=
  if !s.pmbusRuns then s
  else
    let s := s.count (ekey 0x0300 0x60) (after.getD 3)
    let bad := after.isNone
    let was := s.power.stuck
    let s := { s with power := { s.power with stuck := bad } }
    if bad = was then s else s.setLevel 59 bad

/-! ### AVS (R349–R351) -/

def kTarget : Nat := ekey 0x0300 0x21

/-- AVS cannot write: a mode that is not linear, a stuck bus, a NAK, P4, AVS_ENABLE at 0, or the policy of an invalid
G-TRIM. -/
def State.avsHeldNow (s : State) : Bool :=
  s.power.avsHeld || s.power.stuck || (s.slotOf 1).any s.stale || decide (s.power.st = 4) ||
    !s.flag (ekey 0x0300 0x20) || nbit s.gran.policy 1

/-- The code of VOUT_COMMAND for a target, with the exponent that VOUT_MODE carries: the nearest, where a tie may go
either way. -/
def voutCode (mode target : Nat) : Nat :=
  let e := mode % 32
  let num := if e < 16 then target else target * 2 ^ (32 - e)
  let den := if e < 16 then 100000 * 2 ^ e else 100000
  let q := num / den
  let r := num % den
  if 2 * r < den then q else if den < 2 * r then q + 1 else if Config.voutTieUp target then q + 1 else q

/-- The target takes a value, which is written as VOUT_COMMAND. -/
def State.setTarget (s : State) (v : Nat) : State :=
  match s.power.avsMode with
  | none => s
  | some mode =>
    if s.avsHeldNow || (s.slotOf 1).isNone then s
    else
      let s := { s with power := { s.power with avsCode := voutCode mode v } }
      (s.rset kTarget v).count (ekey 0x0300 0x22) 1

/-- AVS_ADJUST: the speed monitor's comparison of 1 ms. In P3 the target stays at 0.70 V (DEDUCED, log entry 99). -/
def State.avsAdjust (s : State) (slack : Int) (confirmed : Bool) : State :=
  if !s.pmbusRuns || decide (2 < s.power.st) then s
  else
    let t := s.rget kTarget
    let s := if confirmed then { s with power := { s.power with confirmed := t } } else s
    if s.avsHeldNow then
      let n := if slack < 0 then Nat.min (s.power.lowSlack + 1) 11 else 0
      let s := ({ s with power := { s.power with lowSlack := n } }).rset kTarget s.power.confirmed
      if n = 10 then s.report 58 else s
    else
      let s := { s with power := { s.power with lowSlack := 0 } }
      if slack < 0 then (if t < 85000 then s.setTarget (Nat.min (t + 500) 85000) else s)
      else if 0 < slack ∧ s.power.confirmed = t ∧ 70000 < t then s.setTarget (Nat.max (t - 500) 70000)
      else s

/-! ### Power states (R353–R357) -/

def kPower : Nat := ekey 0x0300 0x10

/-- A committed profile has still to be applied. -/
def State.profileDue (s : State) : Bool :=
  s.dict.profileWait || s.dict.commit.any (fun c => c.left.contains .stack)

/-- Credits are granted again, unless a profile change goes on to withhold them. -/
def State.endDrain (s : State) : State :=
  if s.profileDue then { s with dict := { s.dict with draining := true } } else s.undrain

/-- Into P3: AVS to 0.70 V, confirmed, and the layer regulators in light-load mode. -/
def State.enterP3 (s : State) : State :=
  let s := { s with power := { s.power with p0Target := s.rget kTarget } }
  let s := s.setTarget 70000
  let s := { s with power := { s.power with confirmed := s.rget kTarget } }
  let s := s.each (List.range 18) (fun t k => t.modLayer k (fun l => if l.supply = 2 then { l with light := true } else l))
  s.setPower 3

/-- Out of P3: VIN_CORE at the last P0 target, confirmed, and the regulators back. -/
def State.leaveP3 (s : State) : State :=
  let s := s.setTarget s.power.p0Target
  let s := { s with power := { s.power with confirmed := s.rget kTarget } }
  s.each (List.range 18) (fun t k => t.modLayer k (fun l => { l with light := false }))

/-- Out of P4 by WAKE_N: the rails are back, and the power-up sequence runs (R355, R356, R359). -/
def State.leaveP4 (s : State) : State :=
  let s := { s with power := { s.power with coreOk := true, phyOk := true, memOk := true } }
  (s.chipReset 7 0xFF).rset (ekey 0x0300 0x15) 2

/-- P4: the bound devices are switched off, the layers and the management processor stop; a WAKE_N that met the entry
follows at once (R356, R357). -/
def State.enterP4 (s : State) : State :=
  let off := fun (r : Nat) => (s.slotOf r).isSome && !s.power.stuck
  let s := { s with power := { s.power with
    phyOk := s.power.phyOk && !off 2, memOk := s.power.memOk && !off 3, coreOk := s.power.coreOk && !off 1
    changing := false } }
  let s := (s.each (List.range 18) (fun t k => t.modLayer k Layer.unpowered)).setPower 4
  if s.power.wakeLater then s.leaveP4 else s

/-- One step of a change of power state, and whether a state has been reached (Table 4) (DESIGN CHOICE, log entry 98). A test
hold keeps its channels in forced self-refresh (R302). -/
def State.powerStep (s : State) : Bool × State :=
  let p := s.power
  if !p.changing then (false, s)
  else if p.st = p.target then (false, ({ s with power := { p with changing := false } }).cmdEnd kPower 0)
  else if p.target = 4 ∧ s.therm.stop = 2 then (true, s.enterP4)
  else if s.therm.stop ≠ 0 then (false, s)
  else if p.st < p.target then
    if p.st = 0 then
      let s := s.idleQuietAll
      let s := if p.since + 600000 ≤ s.now then s.idleAll else s
      if s.drained && (linkNums s).all (fun n => (s.link n).idled) then (true, s.setPower 1) else (false, s)
    else if p.st = 1 then
      let s := s.forceAll
      if s.allForced then (true, s.setPower 2) else (false, s)
    else if p.st = 2 then (true, s.enterP3)
    else (true, s.enterP4)
  else if p.st = 3 then (true, s.leaveP3.setPower 2)
  else (true, (if s.therm.testHeld then s else s.each (chanNums s) State.unforce).setPower 1)

/-- As many steps as the state of the work allows. -/
def State.powerAdvance (s : State) : Nat → State
  | 0 => s
  | n + 1 => let r := s.powerStep; if r.1 then r.2.powerAdvance n else r.2

/-- A change is cut short, and stays at the state that it has reached. -/
def State.cutChange (s : State) : State :=
  let s := { s with power := { s.power with changing := false, target := s.power.st } }
  if s.power.st = 0 then s.endDrain else s

/-- What follows of a change from any event: an orderly stop cuts it, unless it goes to P4 (R357). -/
def State.powerSettle (s : State) : State :=
  let s := if s.power.changing ∧ s.therm.stop ≠ 0 ∧ s.power.target ≠ 4 then s.cutChange else s
  let s := if !s.power.changing && (s.cmd kPower).running then
      (s.cmdEnd kPower (freeStatus (Config.cutStatus s.free))).tick else s
  if s.power.changing then s.powerAdvance 6 else s

/-- An exit to P0 with its cause (R355). The channels and the links stay as a test hold has them. -/
def State.powerExit (s : State) (cause link : Nat) : State :=
  let s := if s.power.st = 3 then s.leaveP3 else s
  let s := ({ s with power := { s.power with changing := false, target := 0 } }).setPower 0
  let s := if s.therm.testHeld then s
    else (s.each (chanNums s) State.unforce).each (linkNums s) State.releaseLink
  ((s.rset (ekey 0x0300 0x15) cause).rset (ekey 0x0300 0x18) link).endDrain

/-- A wake source acts (R355, R357); it waits for the end of an entry into P4. Outside P0 alone has it an effect. -/
def State.wakeUp (s : State) (cause link : Nat) : State :=
  if s.boot = .held ∨ s.therm.trip ∨ (s.power.st = 0 ∧ !s.power.changing) then s
  else if s.power.target = 4 then
    (if cause = 2 ∧ s.power.changing then { s with power := { s.power with wakeLater := true } } else s)
  else if s.therm.stop ≠ 0 then s
  else s.powerExit cause link

/-- WAKE_N_ASSERT (DEDUCED, log entry 104). -/
def State.wakeN (s : State) : State :=
  if s.boot = .held then s
  else if s.power.st = 4 then s.leaveP4
  else if s.power.target = 4 ∨ nbit (s.rget (ekey 0x0300 0x14)) 0 then s.wakeUp 2 0xFF else s

/-- TRAIN frames with KEEP = 1 on a link (R355). -/
def State.wakeTrain (s : State) (n : Nat) : State :=
  if s.power.st ≠ 4 ∧ nbit (s.rget (ekey 0x0300 0x14)) 1 then s.wakeUp 3 n else s

/-- POWER_STATE_REQ: its status (R353, R357) (DEDUCED, log entry 105). -/
def State.powerReq (s : State) (n : Nat) : Nat × State :=
  if 4 < n then (0x0105, s)
  else if !decide (s.boot ∈ [.up, .qtFailed, .jointFailed, .voidStop]) then (0x0108, s)
  else if s.therm.trip ∨ (s.therm.stop ≠ 0 ∧ n ≠ 4) then (0x0109, s)
  else if n = s.power.st then (0, s.cmdEnd kPower 0)
  else if n = 0 then (0, (s.powerExit 1 0xFF).cmdEnd kPower 0)
  else
    let s := { s with
      power := { s.power with changing := true, target := n, since := s.now, wakeLater := false }
      dict := { s.dict with draining := true } }
    let s := if 2 ≤ n then s.holdProfile else s
    (0, (s.cmdStart kPower).powerAdvance 6)

/-! ### The power warning (R358) -/

/-- PWRWARN_ASSERT. -/
def State.pwrwarnOn (s : State) : State :=
  let s := { s with power := { s.power with pwrwarn := true } }
  if s.boot = .held ∨ s.power.st = 4 then s else s.warnNow

/-- PWRWARN_CLEAR: the pin has been high for PWRWARN_HOLD and every rail is in range. -/
def State.pwrwarnOff (s : State) : State :=
  let s := { s with power := { s.power with pwrwarn := false }, therm := { s.therm with causePower := false } }
  if s.faults.now.getLsbD 57 then s.setLevel 57 false else s

/-! ### The end of a profile change (R26, R27) -/

/-- PROFILE_DRAIN_COMPLETE: every queue is empty and nothing makes the change wait; one that was put off waits for the return to
P0. In P1 it takes the place of the exit. -/
def State.profileDrained (s : State) : State :=
  if s.dict.draining && s.profileDue && s.drained && !s.profileMustWait && !s.power.changing &&
      (!s.dict.profileWait || decide (s.power.st = 0)) then
    let s := (s.blockApplied .stack).switchProfile
    if s.power.st = 1 then s.powerExit 4 0xFF else s.endDrain
  else s

end Sys2Proof.Machine
end

