-- ==== Sys2Proof/Machine/LifeCycle.lean ====
section
/-!
DEFINITION. LifeCycle: the marks of the life cycle and its transitions (R409–R422), and the programming commands of the Granary
(R401, R404–R406). A command answers with how it was taken.
-/

namespace Sys2Proof.Machine

/-- How a CMD entry takes an invocation (R39). -/
inductive Taken where
  /-- Refused before it started. -/
  | refused (status : Nat)
  /-- It has started; its action keeps the state word of the entry itself (a running or a finished invocation). -/
  | ok
  /-- It started and has ended; the write completes with OK and LAST_STATUS takes the status. -/
  | ended (status : Nat)
  /-- It started and has ended, and the write completes with its status. -/
  | sync (status : Nat)
  /-- It started, and the write is answered when the action completes. -/
  | waits
deriving DecidableEq, Repr

/-! ### Granary commands -/

/-- GRAN_PROGRAM: word address, then mask (R404, R405). -/
def State.granProgram (s : State) (arg : Nat) (env : ProgEnv) : Taken × State :=
  let w := arg % 65536
  let mask := BitVec.ofNat 32 (arg / 65536)
  match s.programRefused w mask with
  | 0 =>
    let (e, t) := s.programStep w mask env 0
    (.ended e.status, if e = .ok then t.count (ekey 0x5000 0x09) 1 else t)
  | k => (.refused k, s)

/-- GRAN_LOCK: region, then locks (R406). -/
def State.granLock (s : State) (arg : Nat) (env : ProgEnv) : Taken × State :=
  let r := arg % 256
  match s.lockRefused r with
  | 0 =>
    let (e, t) := s.lockRegion r (arg / 256) env 0
    (.ended e.status, t)
  | k => (.refused k, s)

/-- HARDEN (R288). -/
def State.hardenOp (s : State) (env : ProgEnv) : Taken × State :=
  match s.hardenRefused with
  | 0 =>
    let (e, t) := s.hardenAll env
    (.ended e, t)
  | k => (.refused k, s)

/-! ### Marks (R409, R410) -/

/-- Word and mask of a mark: FIELD 0, RETURN 1, VOID 2. -/
def markWord (k : Nat) : Nat := if k = 2 then 89 else 88
def markMask (k : Nat) : BitVec 32 := if k = 1 then 0xFFFF0000 else 0x0000FFFF

/-- The mark of the state in force. -/
def LcState.mark : LcState → Option Nat
  | .mfg => none
  | .field => some 0
  | .ret => some 1
  | .void => some 2

/-- The mark in force has fewer than 16 bits reading 1. -/
def State.partialMark (s : State) : Option Nat := s.lc.st.mark.filter (fun k => decide (markCount s.gran.shadow k < 16))

/-- The life-cycle state changes: the report, and the TAP instruction that is no longer open (R415). -/
def State.lcEnter (s : State) (st : LcState) : State := ({ s with lc := { s.lc with st := st } }).tapJudge.report 88

/-- A transition programs its mark; the state changes once 9 of its bits read 1 at margin sense (R415). -/
def State.programMark (s : State) (k : Nat) (st : LcState) (env : ProgEnv) : ProgEnd × State :=
  let (e, t) := s.programStep (markWord k) (markMask k) env 0
  (e, if 9 ≤ markCount t.gran.margin k then t.lcEnter st else t)

/-- LC_MARK_COMPLETE: the missing bits of a partial mark (R410). -/
def State.markComplete (s : State) (env : ProgEnv) : State :=
  match s.partialMark with
  | some k => if s.boot ≠ .held ∧ s.boot ≠ .sensing ∧ s.progOk then (s.programStep (markWord k) (markMask k) env 0).2 else s
  | none => s

/-! ### Transitions (R415, R416) -/

/-- The life-cycle state has been decoded (DEDUCED, log entry 108). -/
def State.lcKnown (s : State) : Bool := decide (s.boot ≠ .held) && decide (s.boot ≠ .sensing)

/-- LC_TO_FIELD (DESIGN CHOICE, log entry 107). -/
def State.toField (s : State) (env : ProgEnv) : Taken × State :=
  let good := fun (r : Nat) => nbit s.gran.crcChecked r && !nbit s.gran.crcFail r
  if !s.lcKnown then (.refused 0x0108, s)
  else if s.lc.st ≠ .mfg ∨ !s.progOk ∨ !([0, 1, 2, 4, 5].all good) then (.refused 0x0109, s)
  else
    let (e, t) := s.programMark 0 .field env
    (.ended e.status, t)

/-! ### Return (R417–R420) -/

/-- The bytes of some words, each little-endian. -/
def State.shadowBytes (s : State) (from' n : Nat) : List Byte :=
  (List.range n).flatMap (fun i => natBytes 4 (s.shadow (from' + i)).toNat)

/-- A number of big-endian bytes. -/
def natOfBE (bs : List Byte) : Nat := bs.foldl (fun a b => a * 256 + b.toNat) 0

/-- The authorization in LC_AUTH verifies (R418). -/
def State.authorized (s : State) : Bool :=
  let v := s.rget (ekey 0x0200 0x04)
  let field := fun (i : Nat) => v / 2 ^ (384 * i) % 2 ^ 384
  let key := 0x04#8 :: ((natBytes 48 (field 0)).reverse ++ (natBytes 48 (field 1)).reverse)
  let device := ((s.gran.ident.drop 1).take 4).flatMap (fun w => natBytes 4 w.toNat)
  let msg := device ++ natBytes 16 s.lc.nonce.toNat
  decide (sha384 key = s.shadowBytes 90 12) &&
    ecdsaHolds (natOfBE (sha384 msg)) (field 0) (field 1) (field 2) (field 3)

/-- A nonce is drawn (R419) (DEDUCED, log entry 112). -/
def State.drawNonce (s : State) : State := ({ s with lc := { s.lc with nonce := Config.nonce s.free } }).tick

/-- A refusal that counts (R419) (DEDUCED, log entry 113). -/
def State.authRefusal (s : State) : State := ({ s with lc := { s.lc with refusals := s.lc.refusals + 1 } }).report 88

/-- A channel completes its admitted entries (step 2 of Table 5 of the thermal chapter); a window or an exit that runs ends
first. What cannot run is answered RETRY_UNAVAILABLE (DESIGN CHOICE, log entry 110). -/
def State.completeWork (s : State) (m : Nat) : State :=
  let s := if (s.chan m).st = .exiting then s.exitCheckEnd m [] [] 0 0
    else if (s.chan m).st = .steep then s.steepEnd m [] 0 else s
  let n := (s.chan m).queue.length
  ((List.range n).foldl (fun t _ => t.entryExecute m {}) s).refuseQueued m 3

/-- Steps 1 and 2 of the orderly stop. -/
def State.stopWork (s : State) : State := s.stopPorts.each (chanNums s) State.completeWork

/-- The wipe activates `n` rows of a bank, each once; the activate table counts them, and rows that it marks are served (R194,
R198) (DESIGN CHOICE, log entry 111). -/
def State.wipeRows (s : State) (m k : Nat) : Nat → State
  | 0 => s
  | n + 1 =>
    let s := (s.wipeRows m k n).activate m k n
    s.serveRows m (s.chan m).ref.pending

/-- The wipe of a channel (step 3 of Table 5): it leaves self-refresh, and every block of it takes the codeword of all-zero
data with valid and poison bits 0, row by row (DESIGN CHOICE, log entry 111). -/
def State.wipeChannel (s : State) (m : Nat) : State :=
  let s := if (s.chan m).st = .inSr ∧ !(s.chan m).forced then (s.srx m false).modChan m (fun c => { c with st := .serving })
    else if (s.chan m).st = .entering then s.modChan m (fun c => { c with st := .serving }) else s
  let s := s.each (List.range 16) (fun t k => t.wipeRows m k 32768)
  s.modChan m (fun c => { c with
    mem := { c.mem with arr := [], arrT := [], valid := [], poison := [], lost := [] }
    openRows := [], vl := { c.vl with writes := [] } })

/-- Every region map is cleared in one cycle. -/
def State.clearRegions (s : State) : State :=
  s.each (chanNums s) (fun t m => t.modChan m (fun c =>
    { c with forcedFill := false, mem := { c.mem with rmap := [], fills := [] } }))

/-- Steps 2 to 5 of the entry into RETURN (Table 5). -/
def State.returnSteps (s : State) (wipeUs : Nat) (env : ProgEnv) : Nat × State :=
  let s := s.stopWork.engineEmpty
  let s := (s.each (s.map.filter (fun m => !s.retired m)) State.wipeChannel).clearRegions
  let s := { s with lc := { s.lc with wipeUs := wipeUs } }
  let (e, s) := s.programMark 1 .ret env
  if e ≠ .ok then (e.status, s)
  else
    let (e, s) := s.programStep 1003 0x80 env 1
    (e.status, s.takeLocks)

/-- LC_RETURN: refused in the order of R419; at its end a new nonce is drawn. -/
def State.lcReturn (s : State) (wipeUs : Nat) (env : ProgEnv) : Taken × State :=
  if !s.lcKnown then (.refused 0x0108, s)
  else if 4 ≤ s.lc.refusals then (.refused 0x0422, s.authRefusal.drawNonce)
  else if nbit s.gran.policy 4 then (.refused 0x0421, s.authRefusal.drawNonce)
  else if s.lc.st ≠ .field ∨ !s.progOk ∨ s.evacRuns ∨ s.therm.testHeld ∨ s.therm.stop ≠ 0 ∨ s.therm.trip ∨
      s.power.st ≠ 0 ∨ s.power.changing then (.refused 0x0109, s.drawNonce)
  else if !s.authorized then (.ended 0x0420, s.authRefusal.drawNonce)
  else
    let (e, t) := s.returnSteps wipeUs env
    (.ended e, t.drawNonce)

/-! ### VOID (R421) -/

/-- LC_VOID: steps 1 and 2 of the orderly stop, the mark, the links DISABLED and the layers off. -/
def State.lcVoid (s : State) (arg : Nat) (env : ProgEnv) : Taken × State :=
  if !s.lcKnown then (.refused 0x0108, s)
  else if arg ≠ 0x44494F56 then (.refused 0x0105, s)
  else if ¬(s.lc.st = .mfg ∨ s.lc.st = .ret) ∨ !s.progOk then (.refused 0x0109, s)
  else
    let (e, s) := s.stopWork.programMark 2 .void env
    let s := s.each (linkNums s) (fun t n => (t.linkReset n (t.link n).cause).modLink n (fun l => { l with st := .disabled }))
    (.ended e.status, s.each (List.range 18) (fun t k => t.modLayer k Layer.unpowered))

end Sys2Proof.Machine
end

