-- ==== Sys2Proof/Machine/Faults.lean ====
section
/-!
DEFINITION. Faults: wire faults, the clears of sticky and WIRE bits, the reaction masks and the watchdog of the management
processor (R377, R379, R381, R382, R387). The report itself is in Ops, since every family uses it.
-/

namespace Sys2Proof.Machine

/-! ### Wire faults (R377) -/

/-- The collector judges the pair of a source: outside a chip reset and P4, and for the stack-wide blocks outside their block
reset (DEDUCED, log entry 121). -/
def State.judges (s : State) (n : Nat) : Bool :=
  decide (s.boot ≠ .held) && decide (s.power.st ≠ 4) &&
    (match sourceBlock n with
      | some b => decide (b < 2 ∨ b = 0xFE) || !s.inReset b 0
      | none => true)

/-- A WIRE bit is set; its change from 0 to 1 acts with IRQ and MPNMI of WIRE_REACTION. -/
def State.setWire (s : State) (n : Nat) : State :=
  if s.faults.wire.getLsbD n then s
  else ({ s with faults := { s.faults with wire := vset s.faults.wire n true } }).onset (0x100 + n) s.wireReaction false

/-- WIRE_FAULT: the pair reads equal, or is opposite again, and a level source that still reports is decoded again. -/
def State.wireFault (s : State) (n : Nat) (on : Bool) : State :=
  if on then
    if s.judges n then ({ s with faults := { s.faults with equal := vset s.faults.equal n true } }).setWire n else s
  else
    let t := { s with faults := { s.faults with equal := vset s.faults.equal n false } }
    if s.faults.equal.getLsbD n && s.faults.now.getLsbD n && t.judges n then t.report n else t

/-! ### Clears (R379, R382) -/

/-- Sticky bits are cleared, which re-arms their CHIPRST; a level source that still reports sets its bit again
(DEDUCED, log entry 122). -/
def State.clearSticky (s : State) (ns : BitVec 128) : State :=
  let s := { s with faults := { s.faults with
    sticky := s.faults.sticky &&& ~~~ns, disarmed := s.faults.disarmed &&& ~~~ns
    nmiWait := s.faults.nmiWait.filter (fun n => !(decide (n < 128) && ns.getLsbD n)) } }
  s.each ((List.range 128).filter (fun n => ns.getLsbD n && s.faults.now.getLsbD n)) (fun t n => t.report n)

/-- WIRE bits are cleared; the bit of a pair that still reads equal is set again. -/
def State.clearWire (s : State) (ns : BitVec 128) : State :=
  let s := { s with faults := { s.faults with
    wire := s.faults.wire &&& ~~~ns
    nmiWait := s.faults.nmiWait.filter (fun n => !(decide (256 ≤ n) && ns.getLsbD (n - 256))) } }
  s.each ((List.range 128).filter (fun n => ns.getLsbD n && s.faults.equal.getLsbD n)) (fun t n => t.setWire n)

/-- A write of STICKY or WIRE of a source; a report of the same cycle comes after the clear
(DESIGN CHOICE, log entry 141). -/
def State.writeBit (s : State) (n : Nat) (wire : Bool) (v : Nat) (again : Option (Nat × Nat)) : State :=
  let ns := BitVec.ofNat 128 (2 ^ n)
  let t := if v = 0 then s else if wire then s.clearWire ns else s.clearSticky ns
  match again with
  | none => t
  | some (code, inst) =>
    if wire then (if t.judges n then t.setWire n else t)
    else if isLevel n ∨ !isSource n ∨ !t.judges n then t
    else if sourceBlock n = some 0xFE then t.reportAt n code inst else t.report n inst

/-! ### Masks (R381, R388) -/

/-- A write of REACTION, or of WIRE_REACTION. -/
def State.writeReaction (s : State) (source : Option Nat) (v : Nat) : Nat × State :=
  match source with
  | none => if nbit v 2 || nbit v 3 then (0x0105, s) else (0, s.rset (ekey 0x4000 0x84) (v % 32))
  | some n =>
    if !isSource n then (0, s)
    else if nbit v 2 && (sourceBlock n).isNone then (0x0105, s)
    else (0, s.rset (sourceKey n 3) (v % 32))

/-! ### The watchdog (R387) -/

/-- MGMT_WDT_WARN and MGMT_WDT: the watchdog of a processor that runs. -/
def State.watchdog (s : State) (n : Nat) : State := if s.mpRuns then s.report n else s

end Sys2Proof.Machine
end

