-- ==== Sys2Proof/Machine/Views.lean ====
section
/-!
DEFINITION. Views: what the entries show that are no storage of their own: a piece of the machine, put together when it is read
(the entry tables of the chapters). Every other entry is a register.
-/

namespace Sys2Proof.Machine

/-! ### Presence, gates and availability (R34, R38, R411) -/

/-- An entry belongs to hardware that the variant does not enable: links, channels, ports, slices, the queue engine with its
fault sources, and in-service layers in the two tables of layers (R29–R31, R34, R253, R276, R388)
(DEDUCED, log entry 124). -/
def absentOn (v : Variant) (k : Nat) : Bool :=
  let i := k / 256
  let sub := k % 256
  if 0x0800 ≤ i ∧ i ≤ 0x087F then decide (enabled v ≤ i - 0x0800)
  else if 0x1000 ≤ i ∧ i ≤ 0x107F then decide (enabled v ≤ i - 0x1000)
  else if 0x2200 ≤ i ∧ i ≤ 0x227F then decide (enabled v ≤ i - 0x2200)
  else if i = 0x3000 then
    decide (slices v = 0) || (decide (0x80 ≤ sub ∧ sub ≤ 0x8F) && decide (slices v ≤ sub % 8))
  else if i = 0x3100 then decide (slices v = 0)
  else if i = 0x4028 ∨ i = 0x4029 then decide (slices v = 0)
  else if i = 0x1C00 then
    (decide (0x40 ≤ sub ∧ sub < 0x50) && decide (layerCount v ≤ sub - 0x40)) ||
      (decide (0x60 ≤ sub ∧ sub < 0x70) && decide (layerCount v ≤ sub - 0x60))
  else false

/-- The gates that a life-cycle state admits (Table 1 of the life-cycle chapter). -/
def gateOpen (st : LcState) (g : EGate) : Bool :=
  match st, g with
  | _, .identity => true
  | .void, _ => false
  | _, .field => true
  | .mfg, _ => true
  | .ret, .ret => true
  | _, _ => false

/-- The gate of an entry, a reserved one among them (R34, R413). -/
def gateOf (k : Nat) : EGate :=
  if k / 256 = 0xF000 then
    (match Config.vendorGate k with
      | some true => .ret
      | _ => .mfg)
  else match entryRow k with
    | some r => r.gate
    | none => .field

/-- The blocks of Table 7 of the clocks chapter have not come out of the power-up sequence. -/
def State.notReady (s : State) : Bool := !decide (s.boot ∈ [.up, .qtFailed])

/-- The owning block of an entry is in reset, not ready, or not built (Table 6 of the dictionary chapter, R132, R359, R373,
R394). In a block reset that holds for what the block itself counts (DEDUCED, log entry 125). -/
def State.unavailable (s : State) (k : Nat) : Bool :=
  let i := k / 256
  let sub := k % 256
  let counter := (entryRow k).any (fun r => decide (r.chk = .counter))
  !s.mpRuns ||
  (decide (s.boot = .sensing) && (decide (i = 0x5000) && decide (sub ≠ 1) || decide (i = 0x0100 ∨ i = 0x0200))) ||
  (!s.mapBuilt && (decide (i = 0x1C00 ∧ 0xC0 ≤ sub ∧ sub ≤ 0xC7) ||
    decide (0x1000 ≤ i ∧ i ≤ 0x107F ∧ 0xE0 ≤ sub ∧ sub ≤ 0xE3))) ||
  (s.notReady && decide ((0x0800 ≤ i ∧ i ≤ 0x087F) ∨ (0x1000 ≤ i ∧ i ≤ 0x107F) ∨ (0x2000 ≤ i ∧ i ≤ 0x2300) ∨
    i = 0x3000 ∨ i = 0x3100)) ||
  (counter && s.clk.resets.any (fun r =>
    (decide (r.1 = 0) && decide (i = 0x0800 + r.2)) || (decide (r.1 = 1) && decide (i = 0x1000 + r.2)) ||
    (decide (r.1 = 2) && decide (i = 0x3000)) || (decide (r.1 = 3) && decide (0x2000 ≤ i ∧ i ≤ 0x2300)) ||
    (decide (r.1 = 4) && decide (i = 0x0400))))

/-! ### Description (R53, Tables 11 and 12 of the dictionary chapter) -/

/-- Type codes (Table 1). -/
def ETy.code : ETy → Nat
  | .bool => 0
  | .u8 => 1
  | .u16 => 2
  | .u20 => 3
  | .i20 => 4
  | .u32 => 5
  | .u64 => 6
  | .str => 7
  | .blob => 8
  | .cmd => 9

/-- Right codes (Table 2). -/
def ERight.code : ERight → Nat
  | .ro => 0
  | .rw => 1
  | .wo => 2
  | .rws => 3

/-- Gate codes (Table 3). -/
def EGate.code : EGate → Nat
  | .identity => 0
  | .field => 1
  | .ret => 2
  | .mfg => 3

/-- Defined entries of some rows at an index that are present on a variant. -/
def presentIn (v : Variant) (index : Nat) (rows : List EntryRow) : Nat :=
  (rows.map (fun r => ((List.range (r.hi + 1 - r.lo)).filter (fun j => !absentOn v (ekey index (r.lo + j)))).length)).sum

/-- The indices of the map, the vendor range apart (Table 13). -/
def indexList : List Nat :=
  [0x0000, 0x0100, 0x0200, 0x0300, 0x0400, 0x0500] ++ (List.range 128).map (· + 0x0800) ++
  (List.range 128).map (· + 0x1000) ++ [0x1400, 0x1800, 0x1C00] ++ (List.range 16).map (· + 0x2000) ++ [0x2100] ++
  (List.range 128).map (· + 0x2200) ++ [0x2300, 0x3000, 0x3100] ++ (List.range 128).map (· + 0x4000) ++
  [0x4800, 0x5000, 0x5800, 0x6000, 0x7000]

/-- ENTRY_COUNT (DEDUCED, log entry 142). -/
def entryCount (v : Variant) : Nat := (indexList.map (fun i => presentIn v i ((rowsOf i).getD []))).sum

/-- DESC_INFO of a selection. -/
def State.descInfo (s : State) (k : Nat) : Nat :=
  if (rowsOf (k / 256)).isNone then (Config.descInfoOutside k).toNat
  else
    let absent := b2n (absentOn s.variant k)
    match entryRow k with
    | some r => r.len * 2 ^ 16 + r.ty.code * 2 ^ 12 + r.right.code * 2 ^ 8 + r.gate.code * 2 ^ 4 + absent
    | none => 4 * 2 ^ 16 + ETy.u32.code * 2 ^ 12 + ERight.rw.code * 2 ^ 8 + (gateOf k).code * 2 ^ 4 + 2 + absent

/-- The default of an entry that a chapter gives as "by variant". -/
def variantDefault (v : Variant) (k : Nat) : Option Nat :=
  if k = ekey 0x0000 0x02 then some (entryCount v)
  else if k = ekey 0x1C00 0xC0 ∨ k = ekey 0x2300 0x53 then some (enabled v)
  else if k = ekey 0x1C00 0xC1 then some (enabled v * 2 ^ 23)
  else if k = ekey 0x1C00 0xC2 ∨ k = ekey 0x1C00 0xC5 then some (enabled v * 2 ^ 29)
  else if k = ekey 0x2300 0x50 then some ((2 * (enabled v * 384 * 82 * (1000 - 35)) + 100000) / 200000)
  else if k = ekey 0x3000 0x71 then some (slices v)
  else none

/-- SRC_INFO of a source (Table 5 of the fault chapter). -/
def srcInfo (n : Nat) : Nat :=
  (if isSource n then (sourceBlock n).getD 0xFF else 0xFF) * 256 + 2 * b2n (!isSource n) + b2n (isLevel n)

/-- DESC_DEFAULT of a selection: empty for a CMD entry, free where the chapter states no value. -/
def State.descDefault (s : State) (k : Nat) : List Byte :=
  if (rowsOf (k / 256)).isNone then (Config.descDefaultOutside k).take 240
  else match entryRow k with
    | none => natBytes 4 0
    | some r =>
      if r.ty = .cmd then []
      else if 0x4000 ≤ k / 256 ∧ k / 256 ≤ 0x407F ∧ k % 256 = 5 then natBytes 2 (srcInfo (k / 256 - 0x4000))
      else match statedDefault k with
        | some d => natBytes r.len d
        | none => match variantDefault s.variant k with
          | some d => natBytes r.len d
          | none => (Config.descDefault k).take r.len

/-- DESC_MIRROR of a selection. -/
def descMirror (k : Nat) : Nat :=
  match entryRow k with
  | none => 0
  | some r =>
    if r.right ≠ .rws then 0
    else if k / 256 = 0x2100 then (if k % 256 < 128 then ekey 0x2300 0xF0 else ekey 0x2300 0xF1)
    else k + r.act

/-- The selected entry of DESC_SELECT. -/
def State.descSelected (s : State) : Nat := s.rget (ekey 0x0000 0x10)

def State.metaView (s : State) (sub : Nat) : Option Nat :=
  if sub = 0x02 then some (entryCount s.variant)
  else if sub = 0x11 then some (s.descInfo s.descSelected)
  else if sub = 0x13 then some (descMirror s.descSelected)
  else none

/-! ### Identity, life cycle and power -/

/-- Code of a variant in VARIANT (R423). -/
def variantCode : Variant → Nat
  | .axd6400 => 1
  | .axd4800 => 2
  | .axd3200 => 3

/-- A word of G-ID as identity shows it. -/
def State.ident (s : State) (i : Nat) : Nat := (s.gran.ident.getD i 0).toNat

/-- PART_NAME: part and grade. -/
def State.partName (s : State) : List Byte :=
  let digits : List Byte := match s.variant with
    | .axd6400 => [0x36, 0x34]
    | .axd4800 => [0x34, 0x38]
    | .axd3200 => [0x33, 0x32]
  [10, 0x41, 0x58, 0x44] ++ digits ++ [0x30, 0x30, 0x2D, 0x46, if s.gradeFs then 0x53 else 0x42]

def State.identityView (s : State) (sub : Nat) : Option Nat :=
  match sub with
  | 2 => some (variantCode s.variant)
  | 3 => some (b2n s.gradeFs)
  | 4 => some (b2n (decide (slices s.variant ≠ 0)))
  | 5 => some (b2n (!nbit s.gran.policy 0))
  | 6 => some (nfield (s.ident 0) 31 28)
  | 7 => some (nfield (s.ident 0) 27 24)
  | 8 => some (nfield (s.ident 0) 10 0)
  | 9 => some (s.ident 1 + 2 ^ 32 * s.ident 2 + 2 ^ 64 * s.ident 3 + 2 ^ 96 * s.ident 4)
  | 10 => some (s.ident 5)
  | 11 => some (s.ident 6)
  | _ => none

/-- LC_STATE codes (Table 8 of the life-cycle chapter). -/
def LcState.code : LcState → Nat
  | .mfg => 0
  | .field => 1
  | .ret => 2
  | .void => 3

/-- LC_STATUS (Table 9). A transition is one step of the model, so TRANSITION and STEP are never seen set. -/
def State.lcStatus (s : State) : Nat :=
  let g := s.gran
  b2n (decide (4 ≤ s.lc.refusals)) * 2 ^ 30 + b2n s.partialMark.isSome * 2 ^ 29 +
    b2n (g.marginal.contains 88 || g.marginal.contains 89) * 2 ^ 28 + markCount g.shadow 2 * 2 ^ 16 +
    markCount g.shadow 1 * 2 ^ 8 + markCount g.shadow 0

def State.lifeView (s : State) (sub : Nat) : Option Nat :=
  match sub with
  | 1 => some s.lc.st.code
  | 2 => some s.lcStatus
  | 3 => some s.lc.nonce.toNat
  | 8 => some (if s.lc.refusals < 256 then s.lc.refusals else Config.counterPast s.free (ekey 0x0200 0x08) % 256)
  | 9 => some s.lc.wipeUs
  | _ => none

/-- POWER_STATUS (Table 8 of the power chapter). -/
def State.powerStatus (s : State) : Nat :=
  let p := s.power
  p.st * 2 ^ 29 + (if p.changing then p.target else p.st) * 2 ^ 26 + b2n p.changing * 2 ^ 25 + b2n p.pwrwarn * 2 ^ 24 +
    b2n p.vprogOk * 2 ^ 12 + b2n p.vauxOk * 2 ^ 11 + b2n p.memOk * 2 ^ 10 + b2n p.phyOk * 2 ^ 9 + b2n p.coreOk * 2 ^ 8

/-- One byte of LAYER_REG_STATE. -/
def Layer.regState (l : Layer) : Nat := l.supply * 64 + b2n l.light * 32 + l.phases * 8

def State.powerView (s : State) (sub : Nat) : Option Nat :=
  match sub with
  | 0x02 => some s.profile.code
  | 0x03 => some (b2n s.dict.profileWait)
  | 0x11 => some s.power.st
  | 0x12 => some s.powerStatus
  | 0x4A => some (s.rget (ekey 0x0300 0x4A) + 2 * b2n s.power.stuck + b2n s.avsHeldNow)
  | 0x70 => some (((List.range 18).map (fun k => (s.layer k).regState * 256 ^ k)).sum)
  | _ => none

/-! ### Thermal and clocks -/

/-- THERM_STATUS (Table 9 of the thermal chapter). -/
def State.thermStatus (s : State) : Nat :=
  let t := s.therm
  s.zoneNow * 2 ^ 29 + t.step * 2 ^ 26 + (if t.trip then 3 else t.stop) * 2 ^ 24 + b2n t.causeSense * 2 ^ 23 +
    b2n t.causePower * 2 ^ 22 + b2n t.causeThermal * 2 ^ 21 + b2n t.held * 2 ^ 20 + b2n t.thermN * 2 ^ 19 +
    b2n s.fansForced * 2 ^ 18 + t.tjFrom * 2 ^ 12

def State.thermView (s : State) (sub : Nat) : Option Nat :=
  match sub with
  | 0x01 => some s.zoneNow
  | 0x02 => some s.thermStatus
  | 0x03 => some (i20 s.therm.tj)
  | 0x04 => some (i20 s.therm.hottest)
  | 0x05 => some s.therm.projection
  | 0x15 => some s.therm.diodeBad.toNat
  | 0x16 => some s.therm.groupBad.toNat
  | 0x26 => some (s.fanDuty 0)
  | 0x27 => some (s.fanDuty 1)
  | 0x2D => some (b2n s.fansForced * 4 + s.therm.fanBad)
  | _ => none

/-- CLK_STATUS (Table 12 of the clocks chapter). -/
def State.clkStatus (s : State) : Nat := b2n s.clk.holdover * 64 + b2n s.clk.refclkOk * 32 + s.clk.locks

def State.clockView (s : State) (sub : Nat) : Option Nat :=
  match sub with
  | 0x01 => some s.clkStatus
  | 0x10 => some (s.clk.source * 256 + s.clk.cause)
  | 0x11 => some (if s.clk.count < 2 ^ 32 then s.clk.count else Config.counterPast s.free (ekey 0x0500 0x11) % 2 ^ 32)
  | 0x14 => some (((List.range 6).map (fun c => b2n (s.clk.resets.any (fun r => decide (r.1 = c))) * 2 ^ c)).sum)
  | 0x30 => some s.clk.nrLink.toNat
  | 0x31 => some (s.clk.nrChan ||| s.clk.nrLayer).toNat
  | 0x32 => some s.clk.nrOther
  | _ => none

/-! ### Links and channels -/

/-- LINK_STATE codes (Table 9 of the link chapter). -/
def LinkState.code : LinkState → Nat
  | .disabled => 0
  | .reset => 1
  | .detect => 2
  | .equalize => 3
  | .align => 4
  | .config => 5
  | .active => 6
  | .recover => 7
  | .laneSwitch => 8
  | .idle => 9
  | .failed => 10

/-- LINK_STATUS (Table 14 of the link chapter). -/
def State.linkStatus (s : State) (n : Nat) : Nat :=
  let l := s.link n
  l.cause % 16 * 2 ^ 24 + l.rxLanes % 4 * 2 ^ 22 + l.txLanes % 4 * 2 ^ 20 + l.rxFailed % 4 * 2 ^ 18 +
    l.txFailed % 4 * 2 ^ 16 + l.polInv % 4 * 2 ^ 14 + b2n l.swap * 2 ^ 13 + b2n (s.mgmtActive n) * 2 ^ 12 +
    b2n l.halfRate * 2 ^ 8

def State.linkView (s : State) (n sub : Nat) : Option Nat :=
  match sub with
  | 7 => some (s.link n).st.code
  | 8 => some (s.linkStatus n)
  | _ => none

/-- CHAN_STATE codes (Table 6 of the channel chapter). -/
def ChanState.code : ChanState → Nat
  | .serving => 0
  | .entering => 1
  | .inSr => 2
  | .exiting => 3
  | .steep => 4
  | .blockReset => 5
  | .retired => 6

/-- CHAN_STATUS (Table 7 of the channel chapter). The self-refresh of a block reset is a forced one (R175). -/
def State.chanStatus (s : State) (m : Nat) : Nat :=
  let c := s.chan m
  b2n (s.retired m) * 2 ^ 15 + b2n c.vl.degraded * 2 ^ 14 + b2n (decide (c.rep.evac = 2)) * 2 ^ 13 +
    b2n (decide (c.st = .blockReset)) * 2 ^ 12 + b2n (decide (c.st = .blockReset) || c.forced && decide (c.st = .inSr)) * 2 ^ 11 +
    b2n s.closedPage * 2 ^ 10 + (if c.asleep then c.retained else s.pasr m)

/-- INTEG_STATUS (Table 9 of the integrity chapter). -/
def State.integStatus (s : State) (m : Nat) : Nat :=
  let c := s.chan m
  b2n c.erased.isSome * 2 ^ 15 + b2n c.vl.degraded * 2 ^ 14 + c.erased.getD 0 * 2 ^ 8 + b2n c.forcedFill * 2 + s.eccMode m

/-- Hops of a column, those that an evacuation has added among them (DEDUCED, log entry 73). -/
def State.hopCount (s : State) (m : Nat) : Nat := Nat.min 18 (s.home m + 1 + (s.chan m).vl.extHops)

/-- VL_STATUS (Table 8 of the vertical chapter). -/
def State.vlStatus (s : State) (m : Nat) : Nat :=
  let c := s.chan m
  let n := s.hopCount m
  let worst := (List.range n).foldl (fun w h => if (c.idleSpares h).length < (c.idleSpares w).length then h else w) 0
  let shown := c.interim || c.vl.degraded
  n * 2 ^ 22 + worst * 2 ^ 17 + (c.idleSpares worst).length * 2 ^ 14 + b2n c.interim * 2 ^ 13 +
    b2n c.vl.refFallback * 2 ^ 12 + b2n c.vl.degraded * 2 ^ 11 + b2n c.vl.coilRetired * 2 ^ 10 +
    (if shown then c.erased.getD 0 else 0)

/-- MIGRATION (Table 8 of the repair chapter). -/
def Chan.migration (c : Chan) : Nat :=
  match c.rep.migr with
  | some (k, _, _, w) => 2 ^ 31 + k * 2 ^ 15 + w % 2 ^ 15
  | none => 0

/-- MAP_STATE (Table 4 of the address-map chapter). -/
def State.mapState (s : State) (m : Nat) : Nat :=
  if s.map.contains m then (if s.retired m then 1 else 0) else if s.retired m then 2 else 3

/-- SPARGE_STATUS (Table 10 of the self-test chapter). -/
def State.spargeStatus (s : State) (m : Nat) : Nat :=
  let c := s.chan m
  (if c.rep.slice.isSome then 1 else if s.spargeRuns m then 0 else 2) * 2 ^ 28 + c.rep.tally.length * 2 ^ 16 +
    c.rep.lastDefer

/-- One byte for each bank. -/
def perBank (f : Nat → Nat) : Nat := ((List.range 16).map (fun k => f k % 256 * 256 ^ k)).sum

/-- The least of the values of the banks. -/
def leastBank (f : Nat → Nat) : Nat := (List.range 16).foldl (fun a k => Nat.min a (f k)) (f 0)

def State.chanView (s : State) (m sub : Nat) : Option Nat :=
  let c := s.chan m
  match sub with
  | 0x30 => some c.st.code
  | 0x31 => some (s.chanStatus m)
  | 0x32 => some c.queue.length
  | 0x80 => some (if c.ref.fast then 2 else 1)
  | 0x81 => some c.ref.nextBank
  | 0x82 => some c.ref.debt
  | 0x8B => some c.ref.pending.length
  | 0xA9 => some c.mem.rmap.length
  | 0xAF => some (s.integStatus m)
  | 0xB2 => some c.mem.fills.length
  | 0xC0 => some (s.home m)
  | 0xC1 => some (s.vlStatus m)
  | 0xD0 => some (leastBank c.idleRows)
  | 0xD1 => some (perBank c.idleRows)
  | 0xD2 => some (perBank c.idleCols)
  | 0xD3 => some (s.softRepairs m)
  | 0xD4 => some (s.hardRepairs m)
  | 0xD6 => some c.migration
  | 0xD7 => some c.rowsLeft
  | 0xE0 => some ((logicalIn s.map m).getD 0xFF)
  | 0xE1 => some (s.mapState m)
  | 0xF7 => some (s.spargeStatus m)
  | _ => none

/-! ### Refresh, integrity and repair -/

/-- The bank's activate table that RH_SELECT names. -/
def State.selectedTab (s : State) : ActTab :=
  let w := s.rget (ekey 0x1400 0x40)
  mget {} (s.chan (nfield w 10 4)).ref.tabs (nfield w 3 0)

/-- An entry of RH_TABLE (Table 8 of the refresh chapter). -/
def actWord : Option (Nat × Nat) → Nat
  | some (w, n) => 2 ^ 31 + w % 2 ^ 15 * 2 ^ 16 + n % 2 ^ 16
  | none => 0

/-- Words of 32 bits, the first lowest. -/
def words32 (ws : List Nat) : Nat := ws.foldr (fun w acc => w % 2 ^ 32 + 2 ^ 32 * acc) 0

def State.refreshView (s : State) (sub : Nat) : Option Nat :=
  let t := s.selectedTab
  match sub with
  | 0x32 => some (b2n (decide (s.rget (ekey 0x1400 0x21) = 1) && decide (s.therm.zone = 2 ∨ s.therm.zone = 3)))
  | 0x41 => some (words32 (t.rows.map actWord))
  | 0x42 => some (t.spillPrev % 2 ^ 16 * 2 ^ 16 + t.spillCur % 2 ^ 16)
  | 0x43 =>
    let w := s.rget (ekey 0x1400 0x40)
    some (mget 0 (s.chan (nfield w 10 4)).ref.ptr (nfield w 3 0))
  | _ => none

/-- An entry of CE_ROW_TABLE (Table 10 of the integrity chapter). -/
def ceWord : Option CeRow → Nat
  | some e => 2 ^ 31 + b2n e.cand * 2 ^ 30 + e.bank % 16 * 2 ^ 26 + e.row % 2 ^ 15 * 2 ^ 11 + e.count % 256
  | none => 0

def State.integView (s : State) (sub : Nat) : Option Nat :=
  if sub = 0x41 then some (words32 ((s.chan (s.rget (ekey 0x1800 0x40))).ceRows.map ceWord)) else none

/-- LAYER_STATUS (Table 6 of the vertical chapter) (DEDUCED, log entry 133). -/
def State.layerStatus (s : State) (k : Nat) : Nat :=
  let l := s.layer k
  l.st * 2 ^ 28 + Nat.min l.relocks 255 * 2 ^ 20 +
    ((chanNums s).filter (fun m => decide (s.home m = k))).length % 16 * 2 ^ 16 + l.refSlot % 8 * 2 ^ 8 + b2n l.locked

/-- Copying is paused: a source channel that is not switched is in forced self-refresh or in block reset (R293, Table 9). -/
def State.evacPaused (s : State) : Bool :=
  decide (s.repair.evacState = 2 ∨ s.repair.evacState = 3) && (chanNums s).any (fun m =>
    let c := s.chan m
    decide (c.rep.evac ≠ 0) && (decide (c.st = .blockReset) || (c.forced && decide (c.st = .inSr))))

/-- EVAC_STATE (Table 9 of the repair chapter). -/
def State.evacWord (s : State) : Nat :=
  let r := s.repair
  (if s.evacPaused then 4 else r.evacState) * 2 ^ 28 + r.evacSrc * 2 ^ 23 + r.evacDst * 2 ^ 18 + r.switched % 256

/-- DECODE_RESULT (Table 5 of the address-map chapter). -/
def State.decodeResult (s : State) : Nat :=
  match decodeAddr s.map (s.rget (ekey 0x1C00 0xC6)) with
  | none => 2 ^ 31
  | some (m, h) => b2n (s.retired m) * 2 ^ 30 + m * 2 ^ 23 + bankOf h * 2 ^ 19 + rowOf h * 2 ^ 4 + colOf h

/-- The column and hop of COIL_SELECT. -/
def State.coilSelected (s : State) : Nat × Nat :=
  let w := s.rget (ekey 0x1C00 0x78)
  (nfield w 11 5, nfield w 4 0)

/-- A site's margins within the minimums of R267: a timing margin of 3 to 15 and an amplitude margin of 2 to 15. -/
def marginByte (v : Nat) : Nat := (3 + v / 16 % 13) * 16 + (2 + v % 16 % 14)

/-- COIL_MARGIN of the selected column and hop: 0xFF at a site that is not in use. A measurement lasts until the next one, at a
window or an exit check. -/
def State.coilMargins (s : State) : Nat :=
  let (m, hop) := s.coilSelected
  let c := s.chan m
  ((List.range 50).map (fun i =>
    (if c.siteInUse hop i then marginByte (Config.coilMargin c.vl.measured m hop i).toNat else 0xFF) * 256 ^ i)).sum

/-- JOINT_STATUS. -/
def State.jointStatus (s : State) : Nat :=
  s.rget (ekey 0x1C00 0x7B) + b2n (!decide (s.boot ∈ [.held, .sensing, .jointFailed, .voidStop]))

def State.repairView (s : State) (sub : Nat) : Option Nat :=
  let r := s.repair
  if 0x40 ≤ sub ∧ sub ≤ 0x51 then some (s.layerStatus (sub - 0x40))
  else if 0x60 ≤ sub ∧ sub ≤ 0x71 then (if (s.layer (sub - 0x60)).supply = 0 then some 0 else none)
  else match sub with
  | 0x09 => some (r.list.getD (s.rget (ekey 0x1C00 0x08)) 0).toNat
  | 0x0A => some r.list.length
  | 0x0B => some (r.list.filter (fun e => decide (rlState e = 0))).length
  | 0x0F => some s.freeRecords.length
  | 0x11 => some s.evacWord
  | 0x12 => some (r.assign17.getD 0xFF * 256 + r.assign16.getD 0xFF)
  | 0x13 => some r.ignored
  | 0x79 =>
    let (m, hop) := s.coilSelected
    some (((List.range 50).map (fun i => (s.chan m).siteWord hop i * 65536 ^ i)).sum)
  | 0x7A => some s.coilMargins
  | 0x7B => some s.jointStatus
  | 0xC0 => some s.map.length
  | 0xC1 => some (s.map.length * 2 ^ 23)
  | 0xC2 => some (s.map.length * 2 ^ 29)
  | 0xC4 => some (r.rebuilt.filter s.map.contains).length
  | 0xC5 => some (s.nextMap.length * 2 ^ 29)
  | 0xC7 => some s.decodeResult
  | _ => none

/-! ### The regulator and the queue engine -/

def State.classView (s : State) (c sub : Nat) : Option Nat :=
  match sub with
  | 0x30 => some (s.minEff c)
  | 0x31 => some (s.urgEff c)
  | 0x32 => some (b2n (s.urgent c))
  | _ => none

/-- PORT_RATE, in 0.1 GB/s: 8 Gbit/s are 10 units (DEDUCED, log entry 51). -/
def State.portRate (s : State) (p : Nat) : Nat :=
  let g := 10 * s.portGbit p
  if g % 8 = 0 then g / 8 else g / 8 + b2n Config.portRateUp

def State.portView (s : State) (p sub : Nat) : Option Nat :=
  match sub with
  | 2 => some (s.portRate p)
  | 3 => some (s.port p).flits
  | _ => none

/-- The committed classes of 128 labels from `l` on. -/
def State.labelBytes (s : State) (l : Nat) : Nat :=
  ((List.range 128).map (fun i => s.labelClass (l + i) % 256 * 256 ^ i)).sum

def State.urgView (s : State) (sub : Nat) : Option Nat :=
  if 0x60 ≤ sub ∧ sub ≤ 0x67 then some (s.groupPorts (sub - 0x60)).length
  else match sub with
  | 0x30 => some s.reg.urgLevel.toNat
  | 0x31 => some s.reg.urgStuck.toNat
  | 0x50 => some s.dNow
  | 0x51 => some s.reservedSum
  | 0x52 => some s.derate
  | 0x53 => some s.healthy
  | 0x54 => some s.reg.shortfall
  | 0xF0 => some (s.labelBytes 0)
  | 0xF1 => some (s.labelBytes 128)
  | _ => none

/-- QE_STATE; the failure of a quick test shows as no pool (R299). -/
def State.qeState (s : State) : Nat :=
  if s.inReset 2 0 then 2 else if s.qe.failed ∨ s.poolK = 0 then 3 else if s.qeSet 1 = 1 then 1 else 0

def State.engineView (s : State) (sub : Nat) : Option Nat :=
  if 0x80 ≤ sub ∧ sub ≤ 0x87 then some (s.freeCells (sub - 0x80))
  else if 0x88 ≤ sub ∧ sub ≤ 0x8F then some (s.slice (sub - 0x88)).lost
  else match sub with
  | 0x70 => some (poolBlocks s.variant s.poolK)
  | 0x71 => some (slices s.variant)
  | 0x75 => some s.qeState
  | 0x97 => some (s.qe.flush.elim 0 Flush.left)
  | _ => none

/-- Q_STATE of a queue (Table 2 of the queue chapter), with its two parity bits. -/
def State.queueWord (s : State) (q : Nat) : Nat :=
  let x := s.queue q
  let w := x.head * 2 ^ 100 + x.tail * 2 ^ 72 + x.cells * 2 ^ 43 + x.packets * 2 ^ 14 + s.limitSet q * 2 ^ 10 +
    b2n x.broken * 2 ^ 9 + x.lockPtr * 2 ^ 2
  w + 2 * (weightGo 128 (nfield w 127 64) % 2) + weightGo 128 (nfield w 63 2) % 2

/-- The link entry of a cell as PEEK would find it, in the slice's cache or by a read of its block; `none` where it cannot be
trusted (R249, R250). Looking changes nothing (DEDUCED, log entry 133). -/
def State.entryNow (s : State) (i l : Nat) : Option (BitVec 64) :=
  let a := s.linkBlock i l
  let read := fun (o : ReadOut) => if o.poisoned then none else (entriesOf o.data)[l % 8]?
  if s.blockLost a then none
  else match (s.slice i).block a with
    | some b => if b.poisoned && !nbit b.written (l % 8) then none else b.entries[l % 8]?
    | none => (decodeAddr s.map a).bind (fun x => read (s.readBlock x.1 x.2 0 {}).1)

/-- Q_HEAD_INFO of a queue: as PEEK, which answers EMPTY where the head cannot be trusted. -/
def State.headInfo (s : State) (q : Nat) : Nat :=
  let x := s.queue q
  if x.packets = 0 then 2 ^ 31
  else
    let i := s.sliceOf q
    match s.entryNow i (x.head - i * s.poolK) with
    | some e => leLabel e * 2 ^ 16 + leLen e
    | none => 2 ^ 31

def State.queueView (s : State) (sub : Nat) : Option Nat :=
  let q := s.rget (ekey 0x3100 0x01)
  match sub with
  | 2 => some (mget 0 s.qe.limitStage q)
  | 3 => some (s.limitSet q)
  | 4 => some (s.queueWord q)
  | 5 => some (s.headInfo q)
  | _ => none

/-! ### Faults, self-test, Granary, bus, stage and commit -/

def State.sourceView (s : State) (n sub : Nat) : Option Nat :=
  let f := s.faults
  match sub with
  | 1 => some (b2n (f.sticky.getLsbD n))
  | 2 => some (b2n (f.wire.getLsbD n))
  | 4 => some (b2n (f.disarmed.getLsbD n) * 4 + b2n (f.equal.getLsbD n) * 2 + b2n (f.now.getLsbD n && !f.equal.getLsbD n))
  | 5 => some (srcInfo n)
  | _ => none

/-- PIN_STATUS. -/
def State.pinStatus (s : State) : Nat := b2n s.therm.trip * 4 + b2n s.irqN * 2 + b2n s.faultN

def State.collectorView (s : State) (sub : Nat) : Option Nat :=
  match sub with
  | 0x80 => some s.faults.sticky.toNat
  | 0x81 => some s.faults.wire.toNat
  | 0x85 => some s.pinStatus
  | 0x87 => some s.faults.disarmed.toNat
  | _ => none

/-- QT_STATUS (Table 3 of the self-test chapter). -/
def State.qtStatus (s : State) : Nat :=
  let q := s.qt
  q.result * 2 ^ 28 + b2n q.timeLimit * 2 ^ 11 + b2n q.layerLoss * 2 ^ 10 + b2n q.loopback * 2 ^ 9 +
    b2n q.globalSram * 2 ^ 8 + b2n q.rmapSram * 2 ^ 7 + q.groups % 128

def State.testView (s : State) (sub : Nat) : Option Nat :=
  match sub with
  | 1 => some s.qtStatus
  | 2 => some s.qt.us
  | 3 => some s.qt.chanLost.toNat
  | 4 => some s.qt.linkLost.toNat
  | 5 => some s.qt.rows
  | 0x11 => some (b2n s.therm.testHeld)
  | _ => none

/-- GRAN_STATUS (Table 10 of the Granary chapter). An operation of the sequencer is one step, so BUSY is never seen set. -/
def State.granStatus (s : State) : Nat :=
  s.gran.senseState * 2 ^ 28 + b2n s.gran.alarm * 2 ^ 27 + b2n s.progOk * 2 ^ 25 + b2n s.power.vprogOk * 2 ^ 24 +
    b2n s.power.vauxOk * 2 ^ 23 + b2n s.tempIn * 2 ^ 22

/-- A word reads as zero through the dictionary (R402, R414). -/
def State.readLocked (s : State) (w : Nat) : Bool :=
  let r := regionOfWord w
  nbit s.gran.rlock r || (decide (r = 7) && decide (s.lc.st = .ret ∨ s.lc.st = .void))

/-- GRAN_WORD of a word. -/
def State.granWord (s : State) (w : Nat) : Nat := if s.readLocked w then 0 else (s.shadow w).toNat

/-- GRAN_WORD_INFO of a word. -/
def State.granInfo (s : State) (w : Nat) : Nat :=
  regionOfWord w * 16 + b2n (s.readLocked w) * 8 + b2n (s.gran.changed.contains w) * 4 + b2n (s.gran.marginal.contains w) * 2

/-- REGION_STATUS (Table 11). -/
def State.regionStatus (s : State) (r : Nat) : Nat :=
  let g := s.gran
  let n := (g.marginal.filter (fun w => decide (regionOfWord w = r))).length
  b2n (nbit g.wlock r) * 2 ^ 15 + b2n (nbit g.rlock r) * 2 ^ 14 + b2n (nbit g.crcChecked r) * 2 ^ 13 +
    b2n (nbit g.crcFail r) * 2 ^ 12 + b2n (decide (n ≠ 0)) * 2 ^ 11 +
    b2n (g.changed.any (fun w => decide (regionOfWord w = r))) * 2 ^ 10 + b2n (nbit g.policy r) * 2 ^ 9 + Nat.min n 255

def State.granView (s : State) (sub : Nat) : Option Nat :=
  let w := s.rget (ekey 0x5000 0x02)
  if 0x20 ≤ sub ∧ sub ≤ 0x28 then some (s.regionStatus (sub - 0x20))
  else match sub with
  | 1 => some s.granStatus
  | 3 => some (s.granWord w)
  | 4 => some (s.granInfo w)
  | 5 => some (words32 ((List.range 16).map (fun j => s.granWord (w / 16 * 16 + j))))
  | 0x0C => some s.gran.marginal.length
  | 0x0D => some s.gran.changed.length
  | _ => none

def State.busView (s : State) (sub : Nat) : Option Nat :=
  match sub with
  | 1 => some (0x58 + s.clk.maddr % 8)
  | 2 => some s.bus.flags.toNat
  | 6 => some s.bus.reasons
  | _ => none

def State.teleView (s : State) (sub : Nat) : Option Nat :=
  if 0x50 ≤ sub ∧ sub ≤ 0x57 ∧ nbit (s.rget (ekey 0x0400 0x30)) (sub - 0x50) = false then some (i20 noSample)
  else if sub ≤ 0x57 then some (i20 (s.reading sub))
  else if 0x60 ≤ sub ∧ sub ≤ 0x73 then some (i20 (s.group (sub - 0x60)).value)
  else none

def State.stageView (s : State) (sub : Nat) : Option Nat :=
  let d := s.dict
  match sub with
  | 3 => some d.stageGen.toNat
  | 4 => some (s.staged.length + s.stagedLimits.length)
  | 5 => some (if d.commit.isSome then 2 else 0)
  | 6 => some d.commitSeq.toNat
  | 7 => some d.lastCommit
  | 8 => some d.lastRefused
  | 9 => some d.commitTime
  | _ => none

/-! ### The value of an entry -/

/-- The state word of a CMD entry (Table 4 of the dictionary chapter). -/
def State.cmdWord (s : State) (k : Nat) : Nat :=
  let c := s.cmd k
  c.last % 65536 * 2 ^ 16 + (if c.running then (Config.progress s.free k).toNat else 0) * 2 ^ 8 + 2 * b2n c.refused +
    b2n c.running

/-- What an entry shows of the machine, where it is no register. -/
def State.view (s : State) (k : Nat) : Option Nat :=
  let i := k / 256
  let sub := k % 256
  if i < 0x1000 then
    if 0x0800 ≤ i then s.linkView (i - 0x0800) sub
    else if i = 0x0000 then s.metaView sub else if i = 0x0100 then s.identityView sub
    else if i = 0x0200 then s.lifeView sub else if i = 0x0300 then s.powerView sub
    else if i = 0x0400 then s.thermView sub else if i = 0x0500 then s.clockView sub else none
  else if i < 0x2000 then
    if i < 0x1400 then s.chanView (i - 0x1000) sub else if i = 0x1400 then s.refreshView sub
    else if i = 0x1800 then s.integView sub else if i = 0x1C00 then s.repairView sub else none
  else if i < 0x4000 then
    if i < 0x2100 then s.classView (i - 0x2000) sub
    else if 0x2200 ≤ i ∧ i < 0x2300 then s.portView (i - 0x2200) sub
    else if i = 0x2300 then s.urgView sub else if i = 0x3000 then s.engineView sub
    else if i = 0x3100 then s.queueView sub else none
  else if i < 0x4800 then
    if i = 0x4000 ∧ 0x80 ≤ sub then s.collectorView sub else s.sourceView (i - 0x4000) sub
  else if i = 0x4800 then s.testView sub else if i = 0x5000 then s.granView sub else if i = 0x5800 then s.busView sub
  else if i = 0x6000 then s.teleView sub else if i = 0x7000 then s.stageView sub else none

/-- The bytes that a read of an entry returns (R35). -/
def State.entryBytes (s : State) (k : Nat) : List Byte :=
  match entryRow k with
  | none => if k / 256 = 0xF000 ∧ (Config.vendorGate k).isSome then (Config.vendorRead s.free k).take 240 else natBytes 4 0
  | some r =>
    if r.ty = .cmd then natBytes 4 (s.cmdWord k)
    else if k = ekey 0x0000 0x12 then s.descDefault s.descSelected
    else if k = ekey 0x0100 0x01 then s.partName
    else natBytes r.len ((s.view k).getD (s.rget k))

end Sys2Proof.Machine
end

