-- ==== Sys2Proof/Machine/Dictionary.lean ====
section
/-!
DEFINITION. Dictionary: a read and a write of an entry, with the order of their checks (R34–R39), the commands behind the CMD
entries, and the two paths by which a master reaches them (R50–R52, R433–R435).
-/

namespace Sys2Proof.Machine

/-- What the surroundings bring to a write: they matter to one command each, and are quiet where nothing is said. -/
structure AccEnv where
  prog : ProgEnv := {}
  sense : List SenseAt := []
  wipeUs : Nat := 0
  again : Option (Nat × Nat) := none
deriving DecidableEq, Repr

/-! ### Values (R11, R35) -/

/-- The bytes of a value are an encoding of its type (Table 1). -/
def typeOk (ty : ETy) (v : Nat) : Bool :=
  match ty with
  | .bool => decide (v ≤ 1)
  | .u20 => decide (v < 2 ^ 20)
  | .i20 => decide (v < 2 ^ 19 ∨ (0xF80000 ≤ v ∧ v < 2 ^ 24))
  | _ => true

/-- The value, without the bits of reserved fields, is one that the entry defines (DEDUCED, log entry 128). -/
def State.valueOk (s : State) (k : Nat) (r : EntryRow) (v : Nat) : Bool :=
  match r.chk with
  | .any => true
  | .counter => decide (v = 0)
  | .range lo hi => decide (lo ≤ v ∧ v ≤ hi)
  | .zeroOr lo hi => decide (v = 0 ∨ (lo ≤ v ∧ v ≤ hi))
  | .laneMask => decide (v ≠ 0)
  | .ffe => decide (nfield v 23 20 ≤ 10) && decide (nfield v 15 12 ≤ 12) && decide (0x3C ≤ nfield v 7 0 ∧ nfield v 7 0 ≤ 0x64)
  | .classOrFF => decide (v ≤ 15 ∨ v = 0xFF)
  | .window => decide (256 ≤ v ∧ v ≤ 1048576 ∧ v % 4 = 0)
  | .chanBank => decide (nfield v 10 4 < enabled s.variant)
  | .channel => decide (v < enabled s.variant)
  | .coilSel => decide (nfield v 11 5 < enabled s.variant) && decide (nfield v 4 0 ≤ 17)
  | .subCells => decide (v % 4096 = 0 ∧ v ≤ 0x2000000)
  | .alpha => decide (v ≤ 8 ∨ v = 0xFF)
  | .pmbAddr => decide (v ≠ 0x0C ∧ v < 0x78)
  | .role =>
    decide (v ≤ 4) && !(decide (v = 1) && [0x44, 0x45, 0x46, 0x47].any (fun sub =>
      decide (ekey 0x0300 sub ≠ k) && decide (s.rget (ekey 0x0300 sub) = 1)))

/-- The value that a write stores: reserved fields keep zero (R11) (DEDUCED, log entry 127). -/
def maskOf (r : EntryRow) (v : Nat) : Nat :=
  match r.mask with
  | some m => v &&& m
  | none => v

/-! ### Reads (R36–R38) -/

/-- The checks that come before the type: the range, the gate, absence, availability (R34, R38). -/
def State.judge (s : State) (k : Nat) : Nat :=
  if !s.mpRuns then 0x0108
  else if (rowsOf (k / 256)).isNone then 0x0100
  else if !gateOpen s.lc.st (gateOf k) then 0x0106
  else if absentOn s.variant k then 0x0101
  else if s.unavailable k then 0x0108 else 0

/-- The checks of a write that come before the type: a write that binds a link that is not enabled to a host group, or enables it for
management, is refused with INVALID_VALUE (R29). -/
def State.judgeWrite (s : State) (k : Nat) : Nat :=
  let i := k / 256
  if s.judge k = 0x0101 ∧ ((0x2200 ≤ i ∧ i ≤ 0x227F ∧ k % 256 = 1) ∨ (0x0800 ≤ i ∧ i ≤ 0x087F ∧ k % 256 = 2)) then 0x0105
  else s.judge k

/-- A read: its status and, with OK, the value. -/
def State.readEntry (s : State) (k : Nat) : Nat × List Byte :=
  match s.judge k with
  | 0 =>
    if (entryRow k).any (fun r => decide (r.right = .wo) && decide (r.ty ≠ .cmd)) then (0x0103, []) else (0, s.entryBytes k)
  | st => (st, [])

/-! ### Commands (R39) -/

/-- An operation that performs its action at once: refused before it started, or done. -/
def atOnce (r : Nat × State) : Taken × State := if r.1 = 0 then (.sync 0, r.2) else (.refused r.1, r.2)

/-- EVACUATE (R289). -/
def State.evacuate (s : State) (src : Nat) : Taken × State :=
  match s.evacRefused src, s.evacTarget with
  | 0, some dst => (.ok, (s.cmdStart kEvacuate).evacStart src dst true)
  | 0, none => (.refused 0x0402, s)
  | st, _ => (.refused st, s)

/-- REPAIR_REQUEST: NO_SPARE is a status of its own chapter, with which a started invocation ends (R39, R41). -/
def State.repairCmd (s : State) (arg : List Byte) : Taken × State :=
  let r := s.repairRequest arg
  if r.1 < 0x0400 then atOnce r else (.sync r.1, r.2)

/-- LS_FILL: one RWS write for every queue of the range (R253). -/
def State.lsFillCmd (s : State) (arg : Nat) : Taken × State :=
  let first := arg % 65536
  let last := arg / 65536 % 65536
  let set := arg / 2 ^ 32
  if last < first ∨ 15 < set then (.refused 0x0105, s)
  else
    let s := s.lsFill first last set
    (.sync 0, { s with dict := { s.dict with stageGen := s.dict.stageGen + 1 } })

/-- RAW_WRITE and RAW_READ: answered at once, or when their entry has run (R228). -/
def State.rawOp (s : State) (m : Master) (k : Nat) : Taken × State :=
  match s.rawCmd m k with
  | (some st, t) => (if st = 0 then .sync 0 else .refused st, t)
  | (none, t) => (.waits, t)

/-- COMMIT: answered at once, or when the last block has applied (R42, R47). It keeps its state word itself. -/
def State.commitCmd (s : State) (m : Master) (g : Nat) : Taken × State :=
  match s.commitOp m g with
  | (some st, t) => (if st = 0x0202 then .refused st else .sync st, t)
  | (none, t) => (.waits, t)

/-- The action behind a CMD entry whose argument has the right length and which does not run. An invocation of LINK_RESET ends
with OK at the write, as the link is reset, before its training (DESIGN CHOICE, log entry 169). -/
def State.runCmd (s : State) (m : Master) (k : Nat) (arg : List Byte) (env : AccEnv) : Taken × State :=
  let n := bytesNat arg
  if k = kCommit then s.commitCmd m n
  else if k = kDiscard then atOnce s.discardOp
  else if k = kPower then (let r := s.powerReq n; if r.1 = 0 then (.ok, r.2) else (.refused r.1, r.2))
  else if k = ekey 0x0400 0x10 then atOnce s.resumeOp
  else if k = ekey 0x0400 0x12 then atOnce (s.groupClear n)
  else if k = ekey 0x0500 0x12 then (let r := s.chipResetOp n; if r.1 = 0 then (.ok, r.2) else (.refused r.1, r.2))
  else if k = ekey 0x0500 0x13 then
    (let r := s.blockResetOp (n % 256) (n / 256); if r.1 = 0 then (.ended 0, r.2) else (.refused r.1, r.2))
  else if 0x0800 ≤ k / 256 ∧ k / 256 ≤ 0x087F then (.ended 0, s.linkReset (k / 256 - 0x0800) 0x9)
  else if k = kRawWrite ∨ k = kRawRead then s.rawOp m k
  else if k = ekey 0x1C00 0x0D then s.repairCmd arg
  else if k = ekey 0x1C00 0x0E then s.hardenOp env.prog
  else if k = kEvacuate then s.evacuate n
  else if k = ekey 0x3000 0x72 then (if s.inReset 2 0 then (.refused 0x0108, s) else atOnce s.poolReset)
  else if k = kFlush then (if s.inReset 2 0 then (.refused 0x0108, s) else (.ok, (s.qflush n).2))
  else if k = ekey 0x3000 0x74 then s.lsFillCmd n
  else if k = ekey 0x4800 0x10 then (.sync 0, s.testHold)
  else if k = ekey 0x5000 0x06 then s.granProgram n env.prog
  else if k = ekey 0x5000 0x07 then s.granLock n env.prog
  else if k = ekey 0x5000 0x08 then (.ended 0, s.resense env.sense)
  else if k = ekey 0x0200 0x05 then s.toField env.prog
  else if k = ekey 0x0200 0x06 then s.lcReturn env.wipeUs env.prog
  else s.lcVoid n env.prog

/-- The state word after a command was taken, and the status of the write; `none` while the write waits (R39)
(DEDUCED, log entry 126). -/
def State.closeCmd (k : Nat) (r : Taken × State) : Option Nat × State :=
  match r with
  | (.refused st, t) => (some st, t.setCmd k { t.cmd k with refused := true })
  | (.ok, t) => (some 0, t)
  | (.ended st, t) => (some 0, t.cmdEnd k st)
  | (.sync st, t) => (some st, t.cmdEnd k st)
  | (.waits, t) => (none, t)

/-- A write to a CMD entry: its length, a running invocation, the action (DEDUCED, log entry 23). -/
def State.writeCmd (s : State) (m : Master) (k : Nat) (r : EntryRow) (arg : List Byte) (env : AccEnv) : Option Nat × State :=
  if arg.length ≠ r.len then State.closeCmd k (.refused 0x0104, s)
  else if (k = kCommit ∨ k = kDiscard) ∧ s.dict.commit.isSome then State.closeCmd k (.refused 0x0202, s)
  else if (s.cmd k).running then State.closeCmd k (.refused 0x0107, s)
  else State.closeCmd k (s.runCmd m k arg env)

/-! ### Writes of values (R37, R40, R49) -/

/-- A valid write of an RW or WO entry takes effect. -/
def State.putValue (s : State) (k v : Nat) (env : AccEnv) : Nat × State :=
  let i := k / 256
  let sub := k % 256
  if 0x4000 ≤ i ∧ i ≤ 0x407F ∧ sub = 1 then (0, s.writeBit (i - 0x4000) false v env.again)
  else if 0x4000 ≤ i ∧ i ≤ 0x407F ∧ sub = 2 then (0, s.writeBit (i - 0x4000) true v env.again)
  else if 0x4000 ≤ i ∧ i ≤ 0x407F ∧ sub = 3 then s.writeReaction (some (i - 0x4000)) v
  else if k = ekey 0x4000 0x82 then (0, s.clearSticky (BitVec.ofNat 128 v))
  else if k = ekey 0x4000 0x83 then (0, s.clearWire (BitVec.ofNat 128 v))
  else if k = ekey 0x4000 0x84 then s.writeReaction none v
  else if i = 0x1800 ∧ 0x60 ≤ sub ∧ sub ≤ 0x66 then
    (if s.injValid (sub - 0x60) v then (0, s.injWrite (sub - 0x60) v) else (0x0105, s))
  else if k = ekey 0x5800 0x02 then (0, { s with bus := { s.bus with flags := s.bus.flags &&& ~~~(BitVec.ofNat 16 v) } })
  else if k = ekey 0x1C00 0x01 then (0, if v = 1 then (s.rset k v).rejudge else s.rset k v)
  else (0, s.rset k v)

/-- A valid write of an RWS entry updates the staging copy and STAGE_GEN. -/
def State.putStaged (s : State) (k v : Nat) : State :=
  let s := if k = ekey 0x3100 0x02 then
      { s with qe := { s.qe with limitStage := mset 0 s.qe.limitStage (s.rget (ekey 0x3100 0x01)) v } }
    else s.rset k v
  { s with dict := { s.dict with stageGen := s.dict.stageGen + 1 } }

/-- A write of a value to an entry that is no CMD entry. -/
def State.writeValue (s : State) (k : Nat) (r : EntryRow) (val : List Byte) (env : AccEnv) : Nat × State :=
  let v := maskOf r (bytesNat val)
  if r.right = .ro then (0x0102, s)
  else if val.length ≠ r.len then (0x0104, s)
  else if !(typeOk r.ty (bytesNat val) && s.valueOk k r v) then (0x0105, s)
  else if r.right = .rws then (0, s.putStaged k v)
  else s.putValue k v env

/-- A write of an entry: its status, or `none` while it waits for its action, and the state. A reserved entry accepts four bytes
with no effect (R34); what an unpublished entry of 0xF000 does is not stated. -/
def State.writeEntry (s : State) (m : Master) (k : Nat) (val : List Byte) (env : AccEnv) : Option Nat × State :=
  match s.judgeWrite k with
  | 0 =>
    match entryRow k with
    | some r => if r.ty = .cmd then s.writeCmd m k r val env else (fun x => (some x.1, x.2)) (s.writeValue k r val env)
    | none =>
      if k / 256 = 0xF000 ∧ (Config.vendorGate k).isSome then (some (freeStatus (Config.vendorWrite s.free k)), s.tick)
      else (some (if val.length = 4 then 0 else 0x0104), s)
  | st => (some st, s)

/-! ### In band (R50–R52) -/

/-- A response leaves on the link that carried the request, unless the access has reset the link or taken the management
processor down. -/
def State.replyLink (s : State) (wasDown : Bool) (n opc mtag key status : Nat) (val : List Byte) : State :=
  if (s.link n).answers && (!s.dict.mpDown || wasDown) then s.sendMgmt n (mgmtMessage opc mtag key status val) else s

/-- The pointer of dictionary access moves past the master served (R51, R148, R149). -/
def State.accessBy (s : State) (i : Nat) : State := { s with dict := { s.dict with accPtr := (i + 1) % 129 } }

/-- A READ of a link is served; `len` is the LEN of its header. -/
def State.serveRead (s : State) (n mtag k len : Nat) : State :=
  let s := (s.returnMgmt n (mgmtFlits len)).accessBy n
  if len ≠ 0 then s.replyLink true n 0x82 mtag k 0x010A []
  else
    let (st, bs) := s.readEntry k
    s.replyLink true n 0x81 mtag k st bs

/-- A WRITE of a link is served; `len` is the LEN of its header and `val` what follows. -/
def State.serveWrite (s : State) (n mtag k len : Nat) (val : List Byte) (env : AccEnv) : State :=
  let s := (s.returnMgmt n (mgmtFlits len)).accessBy n
  if 240 < len ∨ len ≠ val.length then s.replyLink true n 0x82 mtag k 0x010A []
  else
    let (r, t) := s.writeEntry (.link n mtag) k val env
    match r with
    | some st => t.replyLink s.dict.mpDown n 0x82 mtag k st []
    | none => t.modLink n (fun l => { l with mgmtBy := l.mgmtBy ++ [mtag] })

/-- The accesses of a link complete in issue order: behind a write that still waits for its action the next one waits (R51). -/
def State.mgmtWaits (s : State) (n : Nat) : Bool :=
  decide ((s.link n).mgmtBy ≠ []) || s.dict.held.any (fun x => decide (x.1 = n))

/-- An access waits its turn behind earlier ones of its link, and keeps its credits; when it is served, its surroundings are quiet
(DESIGN CHOICE, log entry 173). -/
def State.holdAccess (s : State) (n : Nat) (c : Instr) : State := { s with dict := { s.dict with held := s.dict.held ++ [(n, c)] } }

/-- A READ of a link arrives. -/
def State.mgmtRead (s : State) (n mtag k len : Nat) : State :=
  if !s.takesRequests n then s
  else if s.mgmtWaits n then s.holdAccess n (.mgmtRead n mtag k len)
  else s.serveRead n mtag k len

/-- A WRITE of a link arrives. -/
def State.mgmtWrite (s : State) (n mtag k len : Nat) (val : List Byte) (env : AccEnv) : State :=
  if !s.takesRequests n then s
  else if s.mgmtWaits n then s.holdAccess n (.mgmtWrite n mtag k len val)
  else s.serveWrite n mtag k len val env

/-- The first access that a link holds is served. -/
def State.serveHeld (s : State) (n : Nat) : State :=
  match s.dict.held.find? (fun x => decide (x.1 = n)) with
  | none => s
  | some x =>
    let s := { s with dict := { s.dict with held := s.dict.held.erase x } }
    match x.2 with
    | .mgmtRead _ mtag k len => s.serveRead n mtag k len
    | .mgmtWrite _ mtag k len val => s.serveWrite n mtag k len val {}
    | _ => s

/-- The links whose held accesses can go on. -/
def State.heldTurns (s : State) : List Nat :=
  (s.dict.held.map Prod.fst).filter (fun n => decide ((s.link n).mgmtBy = []))

/-- Held accesses whose turn has come are served one at a time by the tie-break; what each commits at a quiet block applies
(R47, R51, R148). `fuel` bounds them. -/
def State.serveTurns (s : State) : Nat → State
  | 0 => s
  | fuel + 1 =>
    match tieBreak s.dict.accPtr s.heldTurns with
    | some n => (s.serveHeld n).applyQuiet.serveTurns fuel
    | none => s

/-- Every held access whose turn has come. -/
def State.serveAll (s : State) : State := s.serveTurns s.dict.held.length

/-- A raw access that waits takes its entry when its turn comes; one that has become refused ends so (R161, R228). -/
def State.rawTurn (s : State) (j : RawJob) : State :=
  let done := fun (s : State) (st : Nat) =>
    let s := { s with dict := { s.dict with raw := s.dict.raw.erase j } }
    (s.cmdEnd j.key st).answerWait j.by_ j.key st
  match s.rawRefused j.chan with
  | 0 =>
    if s.mayRun j.chan then
      let t := s.rawRun j
      done t (if t.retired j.chan then 0x0109 else 0)
    else s.wake j.chan true
  | st => done s st

/-- The raw accesses that wait, in the order of their commands. -/
def State.rawTurns (s : State) : State := s.dict.raw.foldl State.rawTurn s

/-! ### Over the management bus (R433–R435) -/

/-- The target takes part in transactions: from the start of the power-up sequence on, outside P4 (R446). -/
def State.busAnswers (s : State) : Bool := decide (s.boot ≠ .held) && decide (s.power.st ≠ 4)

/-- An access is accepted: ACC_SEQ advances and STATE is pending (R433). -/
def State.busAccept (s : State) (a : BusAcc) : State :=
  { s with bus := { s.bus with seq := s.bus.seq + 1, state := 1, status := 0, value := [], acc := some a } }

/-- The pending access reaches the management processor and is performed; a write may go on waiting (R39). -/
def State.busRun (s : State) (env : AccEnv) : State :=
  match s.bus.acc with
  | none => s
  | some a =>
    let s := if a.waits then s else s.accessBy 128
    if a.waits then s
    else if a.read then
      let (st, bs) := s.readEntry a.key
      s.busDone st bs
    else
      let (r, t) := s.writeEntry .bus a.key a.val env
      match r with
      | some st => t.busDone st []
      | none => { t with bus := { t.bus with acc := t.bus.acc.map (fun x => { x with waits := true }) } }

/-- A write by a master, whole: a WRITE message, or a DICT_WRITE with its completion. The bus holds one access at a time
(DESIGN CHOICE, log entry 132). -/
def State.writeBy (s : State) (m : Master) (k : Nat) (val : List Byte) (env : AccEnv) : State :=
  match m with
  | .link n t => s.mgmtWrite n t k val.length val env
  | .bus =>
    if s.busAnswers && s.bus.acc.isNone then (s.busAccept { read := false, key := k, val := val }).busRun env else s

end Sys2Proof.Machine
end

