-- ==== Sys2Proof/Machine/Frames.lean ====
section
/-!
DEFINITION. Frames: what the transmitter of a link puts on the lanes in one frame period, with the choice of the next message
(R63, R65–R72, R76, R79, R82, R83, R102, R158, R385), and what the flits of a received frame do, one after another: messages
as they complete, and ENQs as they arrive (R68, R69, R98–R100, R241, R52).
-/

namespace Sys2Proof.Machine

/-! ### Link control flits of the stack (R66, R67) -/

/-- The LCF that the stack sends: its acknowledgement, lanes and counters as they stand. -/
def State.lcf (s : State) (n kind seq rxLanes : Nat) : Flit :=
  let l := s.link n
  lcfFlit { kind := kind, nak := l.rx.nak, ackValid := l.rx.ackValid, ackSeq := l.rx.lastAck, replaySeq := seq,
            rxLanesOk := rxLanes, txLanes := l.txLanes, crQdat := l.rx.retQdat.toNat, crMgmt := l.rx.retMgmt.toNat,
            crRsp := l.rx.retRsp.toNat, crReq := l.rx.retReq.toNat }

/-- The flits of a control frame of a kind (R66). -/
def State.controlFlits (s : State) (n kind seq : Nat) : List Flit :=
  let null := s.lcf n 0 0 (s.rxOk n)
  [s.lcf n kind seq (s.rxOk n), null, null, null]

/-- A frame goes on the lanes in use. -/
def State.onLanes (s : State) (n : Nat) (control : Bool) (fs : List Flit) : State :=
  s.modLink n (fun l =>
    let k := mappingOf l.txLanes
    { l with tx := { l.tx with pins := framePins k (encodeFrame control k fs) } })

/-- A control frame that carries an LCF of the moment leaves (R79). -/
def State.sendControl (s : State) (n kind seq : Nat) : State :=
  (s.onLanes n true (s.controlFlits n kind seq)).modLink n (fun l => { l with tx := { l.tx with sinceLcf := 0, lcfDue := false } })

/-! ### Training signals (R82, R83, R86) -/

/-- `k` bits of the PRBS of a lane, and its register afterwards (R82). A bit of the sequence is the sum of those 13, 12, 2 and 1
places before it; the register holds the last 13 bits with the newest lowest, so that a starting state's bit 12 is the oldest
of them, and the bit computed is the one that leaves (DESIGN CHOICE, log entry 168). -/
def prbs : Nat → Nat → List Bool × Nat
  | 0, reg => ([], reg)
  | k + 1, reg =>
    let b := xor (xor (nbit reg 12) (nbit reg 11)) (xor (nbit reg 1) (nbit reg 0))
    let r := prbs k ((reg * 2) % 8192 + b2n b)
    (b :: r.1, r.2)

/-- A sequence of bits on a lane, two at a time, the first of a pair its low bit (R63, R82). -/
def pairLevels : List Bool → List Level
  | a :: b :: r => grayLevel (2 * b2n b + b2n a) :: pairLevels r
  | _ => []

/-- A frame period of PRBS on the lanes of a mask. -/
def State.sendPrbs (s : State) (n lanes : Nat) : State :=
  let l := s.link n
  let a := prbs 1160 l.tx.prbs
  let b := prbs 1160 l.tx.prbsB
  let pins := (if nbit lanes 0 then [(0, pairLevels a.1)] else []) ++ (if nbit lanes 1 then [(1, pairLevels b.1)] else [])
  s.setLink n { l with tx := { l.tx with prbs := a.2, prbsB := b.2, pins := pins } }

/-- The CONFIG_STEP that the stack sends (R83, R86): a RECOVER passes ALIGN, and EQUALIZE where the lane rate changes, with
step 0x00. -/
def State.trainStep (s : State) (n : Nat) : Nat :=
  let l := s.link n
  let p := l.rx.partner
  match l.st with
  | .config => if 1 ≤ p.step ∧ !p.keep ∧ s.trainCause p = 0 then 2 else 1
  | .recover => if l.phase < 2 then 0 else if 1 ≤ p.step ∧ p.keep ∧ p.protoVer = 1 ∧ p.role = 0 then 2 else 1
  | _ => 0

/-- A TRAIN frame, the same on each lane of a mask but for TX_LANE (R82). -/
def State.sendTrain (s : State) (n lanes rxLanes : Nat) : State :=
  let l := s.link n
  let step := s.trainStep n
  let (rq, mg, qd) := s.initCredits n
  let t : Train := { initReq := rq, initRsp := 0, initMgmt := mg, initQdat := qd, protoVer := 1, role := 1,
                     keep := decide (l.st = .recover), step := step }
  let en := decide (s.linkAct n 1 = 1 ∧ s.linkAct n 2 = 1)
  let null := s.lcf n 0 0 rxLanes
  let copy := fun lane => framePins lane (encodeFrame true lane [trainFlit (s.lcf n 3 0 rxLanes) t n lane en, null, null, null])
  s.setLink n { l with tx := { l.tx with
    pins := (if nbit lanes 0 then copy 0 else []) ++ (if nbit lanes 1 then copy 1 else []),
    step2 := if step = 2 then l.tx.step2 + 1 else l.tx.step2, sinceLcf := 0, lcfDue := false } }

/-- A frame period of EQUALIZE: PRBS, then TRAIN frames (Table 9); the moment of the change is a free choice
(DESIGN CHOICE, log entry 174). -/
def State.sendEqualize (s : State) (n lanes : Nat) : State :=
  let l := s.link n
  let train := decide (l.tx.eqPhase = 2) || (decide (l.tx.eqPhase = 1) && Config.trainBegins s.free n)
  let s := s.setLink n { l with tx := { l.tx with eqPhase := if train then 2 else 1 } }
  if train then s.tick.sendTrain n lanes l.rxLanes else s.tick.sendPrbs n lanes

/-! ### Completions (R102, R113, R158) -/

/-- The completions that one message takes from the response buffer, in issue order, and what stays: `before` are those passed
over because they are not ready (DESIGN CHOICE, log entry 34). -/
def packGo : Nat → Nat → List Resp → List Resp → List Resp × List Resp
  | _, _, _, [] => ([], [])
  | slots, room, before, r :: rs =>
    if r.need = 0 ∧ before.all (fun b => b.chans.all (fun c => !r.chans.contains c)) then
      if rspSlots r.opc ≤ slots ∧ (rspData r).length ≤ room then
        let q := packGo (slots - rspSlots r.opc) (room - (rspData r).length) before rs
        (r :: q.1, q.2)
      else ([], r :: rs)
    else
      let q := packGo slots room (r :: before) rs
      (q.1, r :: q.2)

/-- The completions of the next RSP message: at most four slots and 16 flits, and no more than the credits (R71, R102). -/
def Link.pack (l : Link) : List Resp × List Resp :=
  if l.tx.credRsp = 0 then ([], l.resp) else packGo 4 (Nat.min 16 l.tx.credRsp - 1) [] l.resp

/-- The flits of an RSP message. -/
def rspMessage (rs : List Resp) : List Flit :=
  flitOfSlots (rs.map rspSlotList).flatten :: (rs.map rspData).flatten

/-- The histogram bin of a latency of `c` FABRIC cycles of 0.5 ns against a target of `t` ns (Table 5). -/
def latBin (c t : Nat) : Nat :=
  if 4 * c ≤ t then 0 else if 2 * c ≤ t then 1 else if c ≤ t then 2 else if 2 * c ≤ 3 * t then 3
  else if c ≤ 2 * t then 4 else if c ≤ 3 * t then 5 else if c ≤ 4 * t then 6 else 7

/-- The latency statistics of a completion that begins on the link (R158). -/
def State.countLatency (s : State) (r : Resp) : State :=
  match r.cls with
  | none => s
  | some c =>
    let t := s.classAct c 5
    if t = 0 then s
    else
      let d := s.now - r.entered
      let s := s.count (classKey c (0x40 + latBin d t)) 1
      if 2 * t < d then s.count (classKey c 0x35) 1 else s

/-- The parity-checked read of a completion's data from the response buffer (Table 5 of the integrity chapter). -/
def State.readResp (s : State) (n : Nat) (r : Resp) : Resp × State :=
  if rspData r = [] then (r, s)
  else
    let (p, s) := s.inject 4 2 n
    if p = 0 then (r, s)
    else ({ r with status := 1, flitPsn := 2 ^ (rspData r).length - 1 }, s.sramError 0 n)

/-- Every completion of a message is read from its buffer. -/
def State.readResps (s : State) (n : Nat) : List Resp → List Resp × State
  | [] => ([], s)
  | r :: rs =>
    let (r, s) := s.readResp n r
    let (q, s) := s.readResps n rs
    (r :: q, s)

/-- Start an RSP message. -/
def State.startRsp (s : State) (n : Nat) : State :=
  let l := s.link n
  let (out, rest) := l.pack
  let (out, s) := (s.setLink n { l with resp := rest }).readResps n out
  let s := out.foldl State.countLatency s
  s.modLink n (fun l =>
    let m := rspMessage out
    { l with tx := { l.tx with msg := m, qdatMsg := false, msgTags := out.map Resp.tag, credRsp := l.tx.credRsp - m.length } })

/-! ### DEQ_RSP and MGMT messages -/

/-- Start the DEQ_RSP at the head of the QDAT output buffer (R103). A parity error of the buffer poisons every cell of it, and
those that it adds count (Table 5 of the integrity chapter, R253). -/
def State.startDeq (s : State) (n : Nat) (d : DeqOut) : State :=
  let (p, s) := if d.flits = [] then (0, s) else s.inject 4 2 n
  let s := if p = 0 then s else (s.sramError 0 n).qcount 0x95 (packetCells d.len - bitsSet d.cellPsn.toNat)
  let d := if p = 0 then d else { d with status := 1, cellPsn := BitVec.ofNat 64 (2 ^ packetCells d.len - 1) }
  s.modLink n (fun l =>
    let m := deqHead d :: d.flits
    { l with qout := l.qout.tail,
             tx := { l.tx with msg := m, qdatMsg := true, msgTags := [d.tag], credQdat := l.tx.credQdat - m.length } })

/-- The MGMT messages that are ready with credits to cover them: 0 a response, 1 an EVENT (R385). -/
def Link.mgmtReady (l : Link) : List Nat :=
  (match l.mgmtOut with
    | m :: _ => if m.length ≤ l.tx.credMgmt then [0] else []
    | [] => []) ++
  (if l.events ≠ [] ∧ 1 ≤ l.tx.credMgmt then [1] else [])

/-- The EVENT message of a code (R385). -/
def eventMessage (code : Nat) : List Flit := mgmtMessage 0x03 0 0 code []

/-- Start the response at the head of the MGMT messages. -/
def State.startMgmt (s : State) (n : Nat) : State :=
  s.modLink n (fun l => match l.mgmtOut with
    | m :: r => { l with mgmtOut := r,
                         tx := { l.tx with msg := m, qdatMsg := false, msgTags := [], credMgmt := l.tx.credMgmt - m.length,
                                           mgmtPtr := 1 } }
    | [] => l)

/-- Start the EVENT that the tie-break by event code chooses (DEDUCED, log entry 61). -/
def State.startEvent (s : State) (n : Nat) : State :=
  s.modLink n (fun l => match tieBreak l.tx.eventPtr l.events with
    | some c => { l with events := l.events.filter (fun x => decide (x ≠ c)),
                         tx := { l.tx with msg := eventMessage c, qdatMsg := false, msgTags := [],
                                           credMgmt := l.tx.credMgmt - 1, mgmtPtr := 0, eventPtr := (c + 1) % 384 } }
    | none => l)

/-! ### The choice of the next message (R70) -/

/-- The next message of a link. -/
inductive NextMsg where
  | rsp
  | mgmt
  | event
  | deq (d : DeqOut)
deriving DecidableEq, Repr

/-- The virtual channels with a complete message and credits to cover it (R70, R71). -/
def Link.ready (l : Link) : List Nat :=
  (if l.pack.1 ≠ [] then [1] else []) ++ (if l.mgmtReady ≠ [] then [2] else []) ++
    (match l.qout with
      | d :: _ => if 1 + d.flits.length ≤ l.tx.credQdat then [3] else []
      | [] => [])

/-- The choice by the tie-breaks of R70 and R385, with the virtual channel chosen. -/
def Link.next (l : Link) : Option (Nat × NextMsg) :=
  match tieBreak l.tx.vcPtr l.ready with
  | some 1 => some (1, .rsp)
  | some 2 => (tieBreak l.tx.mgmtPtr l.mgmtReady).map (fun i => (2, if i = 0 then NextMsg.mgmt else .event))
  | some _ => l.qout.head?.map (fun d => (3, .deq d))
  | none => none

/-- Start a message of a virtual channel (DEDUCED, log entry 35). -/
def State.startMsg (s : State) (n : Nat) (x : Nat × NextMsg) : State :=
  let s := s.modLink n (fun l => { l with tx := { l.tx with vcPtr := (x.1 + 1) % 4 } })
  match x.2 with
  | .rsp => s.startRsp n
  | .mgmt => s.startMgmt n
  | .event => s.startEvent n
  | .deq d => s.startDeq n d

/-! ### New sequenced frames (R66, R69, R76) -/

/-- The next flit of a sequenced frame: of the message being sent, of a new message, or a STATUS LCF. -/
def State.nextFlit (s : State) (n : Nat) : Flit × Bool × State :=
  let s := if (s.link n).tx.msg = [] then
      (match (s.link n).next with
        | some x => s.startMsg n x
        | none => s)
    else s
  let l := s.link n
  match l.tx.msg with
  | f :: r => (f, true, s.setLink n { l with tx := { l.tx with msg := r, msgTags := if r = [] then [] else l.tx.msgTags } })
  | [] => (s.lcf n 1 0 (s.rxOk n), false, s)

/-- The flits of a new sequenced frame after those that are placed; whether one of them carries a message, and whether
one is a STATUS LCF. -/
def State.fillFlits (s : State) (n : Nat) : Nat → List Flit × Bool × Bool × State
  | 0 => ([], false, false, s)
  | k + 1 =>
    let (f, m, s) := s.nextFlit n
    let (fs, ms, st, s) := s.fillFlits n k
    (f :: fs, m || ms, !m || st, s)

/-- An LCF must leave in this frame (R79) (DEDUCED, log entry 39). -/
def Link.lcfWanted (l : Link) : Bool := l.tx.lcfDue || decide (15 ≤ l.tx.sinceLcf)

/-- A frame of new flits, or a NULL control frame when nothing waits to be sent (DESIGN CHOICE, log entry 31). -/
def State.sendNew (s : State) (n : Nat) : State :=
  let l := s.link n
  if l.tx.msg = [] ∧ l.next = none then s.sendControl n 0 0
  else
    let want := l.lcfWanted
    let status := s.lcf n 1 0 (s.rxOk n)
    let (fs, _, st, s) := s.fillFlits n (if want then 3 else 4)
    let fs := if want then status :: fs else fs
    let s := s.modLink n (fun l => { l with tx := { l.tx with
      stored := l.tx.stored ++ [{ seq := l.tx.nextSeq, flits := fs }], nextSeq := (l.tx.nextSeq + 1) % 512,
      sinceLcf := if want || st then 0 else l.tx.sinceLcf + 1, lcfDue := false } })
    (s.onLanes n false fs).count (linkKey n 0x1E) 1

/-! ### Replay (R65, R76, R78) -/

/-- The stored frames from a sequence number on. -/
def storedFrom (q : Nat) (fs : List StoredFrame) : List StoredFrame := fs.dropWhile (fun f => decide (f.seq ≠ q))

/-- The REPLAY frame leaves, and the stored frames from its number on are to be resent in order. A lane switch of the transmitter is
complete with it (DEDUCED, log entry 37). -/
def State.sendReplay (s : State) (n q : Nat) : State :=
  let s := s.sendControl n 2 q
  let s := s.modLink n (fun l => { l with
    st := if l.st = .laneSwitch ∧ l.rx.locked ∧ ¬ l.rx.nak then .active else l.st,
    tx := { l.tx with replayHdr := none, replay := storedFrom q l.tx.stored } })
  s.count (linkKey n 0x1A) 1

/-- A frame of the replay is resent bit for bit, and `rest` follows; its read from the replay buffer is checked (R76, R78, Table 5
of the integrity chapter). -/
def State.resend (s : State) (n : Nat) (f : StoredFrame) (rest : List StoredFrame) : State :=
  let (p, s) := s.inject 4 3 n
  if p ≠ 0 then (s.sramError 0 n).linkReset n 0xA
  else
    let s := (s.onLanes n false f.flits).modLink n (fun l => { l with tx := { l.tx with
      replay := rest, sinceLcf := l.tx.sinceLcf + 1 } })
    s.count (linkKey n 0x1B) 1

/-- An operating frame: NULL frames due, a REPLAY due, the replay, then new frames, with control frames only while 256 are
unacknowledged (DEDUCED, log entry 33). -/
def State.sendOperating (s : State) (n : Nat) : State :=
  let l := s.link n
  if 0 < l.tx.nulls then
    (s.sendControl n 0 0).modLink n (fun l => { l with tx := { l.tx with nulls := l.tx.nulls - 1 } })
  else match l.tx.replayHdr with
    | some q => s.sendReplay n q
    | none =>
      match l.tx.replay with
      | f :: rest => if l.lcfWanted then s.sendControl n 0 0 else s.resend n f rest
      | [] => if 256 ≤ l.tx.stored.length then s.sendControl n 0 0 else s.sendNew n

/-- FRAME_TRANSMIT: one frame period of the transmitter of a link (Table 9) (DEDUCED, log entry 32). -/
def State.frameTransmit (s : State) (n : Nat) : State :=
  let l := s.link n
  let silent := s.modLink n (fun l => { l with tx := { l.tx with pins := [] } })
  if !s.linkLive n then silent
  else match l.st with
    | .detect => if l.idled then silent else s.sendPrbs n (s.linkAct n 3)
    | .equalize => s.sendEqualize n (s.linkAct n 3)
    | .align | .config => s.sendTrain n (s.linkAct n 3) l.rxLanes
    | .recover => s.sendTrain n (s.txLanesKept n 3) (s.rxOk n)
    | .active | .laneSwitch => (s.sendOperating n).idleQuiet n
    | .disabled | .reset | .idle | .failed => silent

/-- EVENT_SEND: the link starts a pending EVENT where the tie-breaks choose it and the credits cover it (R385)
(DEDUCED, log entry 36). -/
def State.eventSend (s : State) (n : Nat) : State :=
  let l := s.link n
  if s.linkLive n && decide (l.st = .active ∨ l.st = .laneSwitch) && decide (l.tx.msg = []) &&
      decide (l.next = some (2, .event)) then s.startMsg n (2, .event)
  else s

/-! ### What received messages do (R68, R69) -/

/-- A MGMT message of the host: READ and WRITE, and MALFORMED for every other code and for a LEN above 240 (R52)
(DEDUCED, log entry 129). -/
def State.mgmtIn (s : State) (n : Nat) (msg : List Flit) (env : AccEnv) : State :=
  let x := (msg.headD {}).s0
  let mtag := slotField x 55 48
  let key := ekey (slotField x 39 24) (slotField x 47 40)
  let len := slotField x 23 16
  if opcOf x = 0x01 then s.mgmtRead n mtag key len
  else if opcOf x = 0x02 ∧ len ≤ 240 then
    s.mgmtWrite n mtag key len ((((msg.map flitBytes).flatten).drop 8).take len) env
  else if s.takesRequests n then (s.returnMgmt n (mgmtFlits len)).replyLink true n 0x82 mtag key 0x010A []
  else s

/-- A complete MGMT or REQ message of the host (DESIGN CHOICE, log entry 29). -/
def State.message (s : State) (n : Nat) (msg : List Flit) : State :=
  if opcOf (msg.headD {}).s0 ≤ 0x0F then s.mgmtIn n msg {} else s.reqMessage n msg

/-- The tags of a header may be used: those of its requests, or that of an ENQ (R100). -/
def State.headerOk (s : State) (n : Nat) (f : Flit) : Bool :=
  let opc := opcOf f.s0
  if opc ≤ 0x0F then true
  else if opc = 0x40 then s.tagOk n (tagOf f.s0)
  else match parseReqs (Flit.slots f) with
    | some rs =>
      let tags := rs.map (fun r => tagOf r.head)
      tags.all (s.tagOk n) && decide tags.Nodup
    | none => false

/-- The message that a link is receiving. -/
def State.setMsg (s : State) (n : Nat) (fs : List Flit) : State := s.modLink n (fun l => { l with rx := { l.rx with msg := fs } })

/-- The header flit of an ENQ reaches its slice (Table 5). -/
def State.enqHeader (s : State) (n : Nat) (f : Flit) : State :=
  let x := f.s0
  s.enqHead n (tagOf x) (labelOf x) (slotField x 38 24) (slotField x 15 0) (nbit x.toNat 23)

/-- A header flit begins a message: it is checked at once (R100). An ENQ reaches its slice with its header (R241); a message of
one flit is complete. -/
def State.headerIn (s : State) (n : Nat) (f : Flit) : State :=
  match messageFlits f with
  | none => s.protocolError n
  | some k =>
    if !s.headerOk n f then s.protocolError n
    else if opcOf f.s0 = 0x40 then (s.setMsg n [f]).enqHeader n f
    else if k ≤ 1 then s.message n [f] else s.setMsg n [f]

/-- A flit follows in a message: a data flit of an ENQ goes to its slice, and the last one completes the message. -/
def State.dataIn (s : State) (n : Nat) (msg : List Flit) (f : Flit) : State :=
  let last := decide (messageFlits (msg.headD {}) = some (msg.length + 1))
  let s := s.setMsg n (if last then [] else msg ++ [f])
  if opcOf (msg.headD {}).s0 = 0x40 then
    let s := s.enqFlit n f
    if last then s.enqEnd n else s
  else if last then s.message n (msg ++ [f]) else s

/-- A flit of an accepted sequenced frame is taken, while the link still takes messages; the link's LCFs have acted. -/
def State.flitIn (n : Nat) (s : State) (f : Flit) : State :=
  if !s.takesRequests n then s
  else match (s.link n).rx.msg with
    | [] => if opcOf f.s0 = 0 then s else s.headerIn n f
    | h :: t => if statusForm f then s else s.dataIn n (h :: t) f

/-- FRAME_RECEIVE: the frame (R77), then its flits in order. TRAIN frames with KEEP at 1 wake the stack from P1 to P3 (R355). -/
def State.frameReceive (s : State) (n lane : Nat) (symbols : List Symbol) : State :=
  let train := match receiveFrame lane 0 false symbols with
    | .control fs _ => decide ((parseLcf (fs.headD {})).kind = 3) && (parseTrain (fs.headD {})).keep
    | _ => false
  let s := if train && decide (1 ≤ s.power.st ∧ s.power.st ≤ 3) then s.wakeTrain n else s
  if !s.linkLive n || !(s.link n).st.receives then s
  else
    let (s, fs) := s.rxFrame n lane symbols
    fs.foldl (State.flitIn n) s

/-! ### The messages that the request rows arrive in (R97–R99) -/

/-- A request header: OPC, TAG, and the fields below them (Tables 2, 4 and 5). -/
def requestHead (opc tag low : Nat) : Slot := BitVec.ofNat 64 (opc * 2 ^ 56 + tag * 2 ^ 47 + low)

/-- The fields of a memory request below its TAG (Table 2). -/
def memoryFields (label : Nat) (psn : Bool) (word block : Nat) : Nat :=
  label * 2 ^ 39 + b2n psn * 2 ^ 38 + word * 2 ^ 34 + block

/-- The link and the flits of the message that carries a request row alone, with every reserved bit zero; `none` for a row
that is no request (DESIGN CHOICE, log entry 140). -/
def requestFlits : Instr → Option (Nat × List Flit)
  | .rd64 n tag label block => some (n, [{ s0 := requestHead 0x10 tag (memoryFields label false 0 block) }])
  | .rd128 n tag label block => some (n, [{ s0 := requestHead 0x11 tag (memoryFields label false 0 block) }])
  | .wr64 n tag label block psn data =>
    some (n, { s0 := requestHead 0x12 tag (memoryFields label psn 0 block) } :: blockFlits data)
  | .wrm n tag label block psn mask data =>
    some (n, { s0 := requestHead 0x13 tag (memoryFields label psn 0 block), s1 := mask } :: blockFlits data)
  | .fadd32 n tag label block word operand =>
    some (n, [{ s0 := requestHead 0x14 tag (memoryFields label false word block), s1 := operand.setWidth 64 }])
  | .swap32 n tag label block word operand =>
    some (n, [{ s0 := requestHead 0x15 tag (memoryFields label false word block), s1 := operand.setWidth 64 }])
  | .deq n tag queue => some (n, [{ s0 := requestHead 0x18 tag queue }])
  | .peek n tag queue => some (n, [{ s0 := requestHead 0x19 tag queue }])
  | .qlen n tag queue => some (n, [{ s0 := requestHead 0x1A tag queue }])
  | .enq n tag label len queue psn data =>
    some (n, { s0 := requestHead 0x40 tag (label * 2 ^ 39 + len * 2 ^ 24 + b2n psn * 2 ^ 23 + queue) } :: data)
  | _ => none

end Sys2Proof.Machine
end

