-- ==== Sys2Proof/Machine/Bus.lean ====
section
/-!
DEFINITION. Bus: the target of the management bus (R425–R449): transactions and their PEC, dictionary accesses and result
frames, the status window, attention requests, timeouts and flags.
-/

namespace Sys2Proof.Machine

/-! ### Bytes on the bus (R426, R432) -/

/-- The address byte of a transaction, with its R/W bit. -/
def State.addrByte (s : State) (read : Bool) : Byte := BitVec.ofNat 8 ((0x58 + s.clk.maddr % 8) * 2 + b2n read)

/-- One byte of the PEC's CRC-8 (R432). -/
def pecByte (c : Nat) (b : Byte) : Nat :=
  (List.range 8).foldl (fun r _ => if nbit r 7 then (r * 2 % 256) ^^^ 0x07 else r * 2) (c ^^^ b.toNat)

/-- The PEC of a sequence of bytes (DEDUCED, log entry 135). -/
def pecOf (bs : List Byte) : Byte := BitVec.ofNat 8 (bs.foldl pecByte 0)

/-- A transaction addressed to the target is completed by a STOP (DEDUCED, log entry 134). -/
def State.busStop (s : State) : State := s.count (ekey 0x5800 0x10) 1

/-- A transaction is aborted (R439, R440). -/
def State.busAbort (s : State) (flag : Nat) : State := (s.busFlag flag).count (ekey 0x5800 0x11) 1

/-- The bytes that the target returns, with their PEC over the whole transaction. -/
def State.busOut (s : State) (before bs : List Byte) : State :=
  { s with bus := { s.bus with out := bs ++ [pecOf (before ++ bs)] } }

/-- The target returns nothing. -/
def State.busSilent (s : State) : State := { s with bus := { s.bus with out := [] } }

/-! ### Write parts (R429, R432) -/

/-- What becomes of the write part of a transaction. -/
inductive WritePart where
  | short                              -- a STOP or START before the counted bytes are complete
  | long                               -- a byte beyond the PEC
  | refused                            -- the PEC fails, or is missing where it is required
  | taken (bytes : List Byte)          -- the counted bytes
deriving DecidableEq, Repr

/-- Judge `data`, of which `count` bytes are expected and one may follow as the PEC; `head` are the bytes before it. -/
def State.writePart (s : State) (head : List Byte) (count : Nat) (data : List Byte) : WritePart :=
  if data.length < count then .short
  else if count + 1 < data.length then .long
  else if data.length = count then if s.flag (ekey 0x5800 0x03) then .refused else .taken data
  else if pecOf (head ++ data) = 0 then .taken (data.take count) else .refused

/-- The flags and counters of a write part that is not taken: the transaction ends. -/
def State.partRefused (s : State) : WritePart → State
  | .short => s.busAbort 2
  | .long => (s.busFlag 5).busStop
  | .refused => (s.busFlag 3).busStop
  | .taken _ => s

/-! ### Dictionary access (R430, R433–R435) -/

/-- The result frame with its count (Table 2). -/
def State.resultFrame (s : State) : List Byte :=
  let b := s.bus
  BitVec.ofNat 8 (4 + b.value.length) :: BitVec.ofNat 8 b.state :: b.seq :: natBytes 2 b.status ++ b.value

/-- The result frame is returned; a pending access is told so (R442). -/
def State.returnFrame (s : State) (before : List Byte) : State :=
  let s := s.busOut before s.resultFrame
  { s with bus := { s.bus with acc := s.bus.acc.map (fun a => { a with told := true }) } }

/-- The command code of an access while one is pending is not acknowledged (R435). -/
def State.busBusy (s : State) : State := ((s.count (ekey 0x5800 0x12) 1).busSilent).busStop

/-- A frame with a bad count: accepted, with no entry accessed and STATUS MALFORMED (R429). -/
def State.busMalformed (s : State) : State := (s.busAccept { read := false, key := 0, val := [] }).busDone 0x010A []

/-- The entry that a frame names. -/
def frameKey (bs : List Byte) : Nat := ekey (bytesNat (bs.take 2)) (bytesNat ((bs.drop 2).take 1))

/-- The access of DICT_READ or DICT_WRITE is accepted (R429, R433). -/
def State.busTake (s : State) (read : Bool) (count : Nat) (bs : List Byte) : State :=
  if count < 3 ∨ (read ∧ count ≠ 3) then s.busMalformed
  else s.busAccept { read := read, key := frameKey bs, val := bs.drop 3 }

/-- BUS_ACCESS_COMPLETE: the pending access ends (R435). A request word delivered bad accesses no entry; a result word
delivered bad loses the result of an access that has been performed (DEDUCED, log entry 138). -/
def State.busComplete (s : State) (how : BusEnd) (env : AccEnv) : State :=
  match s.bus.acc with
  | none => s
  | some a =>
    if a.waits then s
    else match how with
      | .done => s.busRun env
      | .requestBad => (s.busFlag 6).busDone 0x010A []
      | .resultBad =>
        let s := (s.busFlag 6).accessBy 128
        if a.read then s.busLost
        else
          let (r, t) := s.writeEntry .bus a.key a.val env
          match r with
          | some _ => t.busLost
          | none => { t with bus := { t.bus with acc := t.bus.acc.map (fun x => { x with waits := true }) } }

/-- DICT_WRITE (R433). -/
def State.dictWrite (s : State) (count : Nat) (data : List Byte) : State :=
  if !s.busAnswers then s
  else if s.bus.acc.isSome then s.busBusy
  else
    let s := s.busSilent
    match s.writePart [s.addrByte false, 0x02, BitVec.ofNat 8 count] count data with
    | .taken bs => (s.busTake false count bs).busStop
    | w => s.partRefused w

/-- DICT_READ (R434): the write part, then the read phase with its stretch of at most 100 µs (DEDUCED, log entry 137). -/
def State.dictRead (s : State) (count : Nat) (data : List Byte) (within : Option BusEnd) (us : Nat) : State :=
  if !s.busAnswers then s
  else if s.bus.acc.isSome then s.busBusy
  else
    let s := s.busSilent
    let head := [s.addrByte false, 0x01, BitVec.ofNat 8 count]
    match s.writePart head count data with
    | .taken bs =>
      let s := s.busTake true count bs
      let s := match within with
        | some how => s.busComplete how {}
        | none => s
      let s := s.peak (ekey 0x5800 0x14) (if s.bus.acc.isSome then 100 else us) 65535
      (s.returnFrame (head ++ data ++ [s.addrByte true])).busStop
    | w => s.partRefused w

/-- DICT_RESULT (R430). -/
def State.dictResult (s : State) : State :=
  if !s.busAnswers then s else (s.returnFrame [s.addrByte false, 0x03, s.addrByte true]).busStop

/-! ### BUS_FLAGS (R431) -/

/-- BUS_FLAGS read word. -/
def State.flagsRead (s : State) : State :=
  if !s.busAnswers then s
  else (s.busOut [s.addrByte false, 0x04, s.addrByte true] (natBytes 2 s.bus.flags.toNat)).busStop

/-- BUS_FLAGS write word: the flags of the mask are cleared. -/
def State.flagsWrite (s : State) (data : List Byte) : State :=
  if !s.busAnswers then s
  else
    let s := s.busSilent
    match s.writePart [s.addrByte false, 0x04] 2 data with
    | .taken bs =>
      { s with bus := { s.bus with flags := s.bus.flags &&& ~~~(BitVec.ofNat 16 (bytesNat bs)) } }.busStop
    | w => s.partRefused w

/-! ### The status window (R437, R438) -/

/-- MP_STATE (Table 3) (DEDUCED, log entry 130). -/
def State.mpState (s : State) : Nat :=
  if s.dict.mpDown then 2
  else if s.boot ∈ [.sensing, .jointFailed, .qtRemap, .qtBase, .qtLoopback, .qtSanity] then 1 else 0

/-- Bytes 0x00 to 0x7F of the page. -/
def State.windowPage (s : State) : List Byte :=
  let e := fun i sub => s.entryBytes (ekey i sub)
  [0x01] ++ e 0x0200 0x01 ++ e 0x0300 0x11 ++ e 0x0400 0x01 ++ e 0x0400 0x03 ++ e 0x4000 0x85 ++ e 0x0400 0x02 ++
    e 0x0300 0x12 ++ e 0x4800 0x01 ++ e 0x5000 0x01 ++ e 0x0500 0x10 ++ natBytes 1 s.bus.reasons ++ natBytes 1 s.mpState ++
    natBytes 2 s.bus.flags.toNat ++ [0, 0] ++ e 0x4000 0x80 ++ e 0x4000 0x81 ++ e 0x7000 0x03 ++ e 0x7000 0x06 ++
    List.replicate 56 0

/-- The whole page: what is latched, then the scratch area. -/
def State.window (s : State) : List Byte := s.windowPage ++ natBytes 128 (s.rget (ekey 0x5800 0x07))

/-- Write bytes from a pointer on into the scratch area, with wrap in the page; the bytes below 0x80 are ignored. -/
def scratchWrite : Nat → List Byte → Nat → Nat
  | _, [], v => v
  | p, b :: r, v =>
    let v := if p < 128 then v else v - nfield v (8 * (p - 128) + 7) (8 * (p - 128)) * 2 ^ (8 * (p - 128)) +
      b.toNat * 2 ^ (8 * (p - 128))
    scratchWrite ((p + 1) % 256) r v

/-- WINDOW write. -/
def State.windowWrite (s : State) (ptr : Nat) (data : List Byte) : State :=
  if !s.busAnswers then s
  else
    let s := s.busSilent
    let s := { s with bus := { s.bus with ptr := (ptr + data.length) % 256 } }
    if data = [] then s.busStop
    else if s.flag (ekey 0x5800 0x03) then (s.busFlag 3).busStop
    else (s.rset (ekey 0x5800 0x07) (scratchWrite ptr data (s.rget (ekey 0x5800 0x07)))).busStop

/-- WINDOW read of `n` bytes: no PEC is offered. -/
def State.windowRead (s : State) (ptr n : Nat) : State :=
  if !s.busAnswers then s
  else
    let page := s.window
    let bs := (List.range n).map (fun i => page.getD ((ptr + i) % 256) 0)
    { s with bus := { s.bus with ptr := (ptr + n) % 256, out := bs } }.busStop

/-! ### Attention (R442–R445) -/

/-- The reason byte is delivered: the bits sent are cleared (R443). -/
def State.deliverReasons (s : State) : State :=
  let s := s.busOut [s.addrByte true] (natBytes 1 s.bus.reasons)
  { s with bus := { s.bus with reasons := 0 } }.count (ekey 0x5800 0x13) 1

/-- Attention read: a plain receive byte. -/
def State.attentionRead (s : State) : State := if !s.busAnswers then s else s.deliverReasons.busStop

/-- An attention request of the target, and how the host side answers (R443–R445) (DEDUCED, log entry 136). -/
def State.attend (s : State) (reply : AttnReply) : State :=
  let again := { s with bus := { s.bus with retry := true } }
  match reply with
  | .answered => { s with bus := { s.bus with retry := false } }.deliverReasons
  | .noClock => again.busFlag 7
  | .notAcked => again
  | .abandoned => again

/-- Attention may be requested (R443, R446). -/
def State.wantsAttention (s : State) : Bool :=
  s.busAnswers && s.flag (ekey 0x5800 0x04) && decide (s.bus.reasons ≠ 0)

/-- ATTENTION_REQUEST: the first request for a set of reasons. -/
def State.attentionRequest (s : State) (reply : AttnReply) : State :=
  if s.wantsAttention && !s.bus.retry then s.attend reply else s

/-- ATTENTION_RETRY: after MB_ATTN_RETRY, where attention is still wanted (R444). -/
def State.attentionRetry (s : State) (reply : AttnReply) : State :=
  if !s.bus.retry then s
  else if s.wantsAttention then s.attend reply
  else { s with bus := { s.bus with retry := false } }

/-! ### Errors and timeouts (R428, R439, R440) -/

/-- MB_UNDEFINED_COMMAND: the code is not acknowledged, CMD_ERR is set, and the bus is ignored until the STOP. -/
def State.undefinedCommand (s : State) (code : Nat) : State :=
  if !s.busAnswers || decide (code ∈ [0x01, 0x02, 0x03, 0x04, 0x20]) then s else s.busSilent.busFlag 4

/-- MB_PROTOCOL_ERROR: nothing is committed. -/
def State.protocolAbort (s : State) : State := if !s.busAnswers then s else s.busSilent.busAbort 2

/-- MB_TIMEOUT: a transaction in progress is aborted; an accepted access is unaffected. -/
def State.busTimeout (s : State) (during : Bool) : State :=
  if !s.busAnswers then s else if during then s.busSilent.busAbort 1 else s.busSilent.busFlag 1

end Sys2Proof.Machine
end

