-- ==== Sys2Proof/Machine/Settle.lean ====
section
/-!
DEFINITION. Settle: what follows from any command before it is over: the resets that reports have asked for (R381, R382), the
records that HARDEN_AUTO writes (R288), the steps of a stop and of a power change that the state of the work allows (R328, R354),
the quiet blocks of a commit (R47), and the work that waits in the engine and at the dictionary (R51, R228, R242). Every meaning
ends with it.
-/

namespace Sys2Proof.Machine

/-- The resets that reports have asked for act, the lowest source of a chip reset first (R382, R383); a chip reset abandons
the block resets asked for (DEDUCED, log entry 123). -/
def State.resetsAct (s : State) : Nat → State
  | 0 => s
  | k + 1 =>
    match s.faults.chipReq, s.faults.blockReq with
    | n :: _, _ =>
      let s := { s with faults := { s.faults with disarmed := vset s.faults.disarmed n true } }
      (s.chipReset 2 n).resetsAct k
    | [], (c, i) :: r => (({ s with faults := { s.faults with blockReq := r } }).startBlockReset c i).resetsAct k
    | [], [] => s

/-- While HARDEN_AUTO is 1, HARDEN runs whenever records are due and its conditions hold (R288). -/
def State.hardenAuto (s : State) : State :=
  if decide (s.boot = .up) && s.flag (ekey 0x1C00 0x02) && decide (s.repair.unhardened ≠ []) && decide (s.hardenRefused = 0) then
    (s.hardenAll {}).2
  else s

/-- What follows from a command (DESIGN CHOICE, log entry 11). -/
def State.settle (s : State) : State :=
  (((s.resetsAct 512).hardenAuto.stopPins.powerSettle.rawTurns.feedAll.applyQuiet.serveAll).resetsAct 512).applyQuiet

/-- The outcome of a row: its effect with what follows, where its operands name something that exists
(DESIGN CHOICE, log entry 5). -/
def finish (wf : Bool) (s : State) : Host.Outcome State Fault Refusal := if wf then .next s.settle else .fault .badOperand

end Sys2Proof.Machine
end

