-- ==== Sys2Proof/WellFormed.lean ====
section
/-!
DEFINITION. WellFormed: which commands name something that the structure of R7 has and carry operands that fit their
fields. A command that fails this is no event of the stack.
-/

namespace Sys2Proof

/-- Link numbers (R7). -/
def isLink (n : Nat) : Bool := decide (n < 128)
/-- Physical channels (R7). -/
def isChan (n : Nat) : Bool := decide (n < 128)
/-- Layers, the spares among them (R7). -/
def isLayer (n : Nat) : Bool := decide (n < 18)
/-- Slices of the queue engine (R16). -/
def isSlice (n : Nat) : Bool := decide (n < 8)
/-- Lanes a and b (R7). -/
def isLane (n : Nat) : Bool := decide (n < 2)
/-- Urgency pins (R32). -/
def isPin (n : Nat) : Bool := decide (n < 16)
/-- Fault sources (R7). -/
def isSourceNum (n : Nat) : Bool := decide (n < 128)
/-- A TAG field (R98). -/
def isTag (n : Nat) : Bool := decide (n < 512)
/-- A LABEL field (R98). -/
def isLabel (n : Nat) : Bool := decide (n < 256)
/-- A BLOCK field (R98, R121). -/
def isBlock (n : Nat) : Bool := decide (n < 1073741824)
/-- A QUEUE field (R98). -/
def isQueue (n : Nat) : Bool := decide (n < 65536)
/-- An index and a subindex as one number (R33). -/
def isKey (n : Nat) : Bool := decide (n < 16777216)
/-- A value or an argument: its length fits the LEN and count bytes of both paths (R50). -/
def isVal (v : List Byte) : Bool := decide (v.length ≤ 255)
/-- The bytes of a bus transaction: no longer than a count and a PEC allow, and one byte beyond (R429). -/
def isFrame (v : List Byte) : Bool := decide (v.length ≤ 257)
/-- A mask on the 576 stored bits of a block (R202). -/
def isNoise (n : Nat) : Bool := decide (n < 2 ^ 576)
/-- A mask on the 72 bits of a metadata word (R208). -/
def isMetaNoise (n : Nat) : Bool := decide (n < 2 ^ 72)

/-- A master. -/
def Master.wf : Master → Bool
  | .link n t => isLink n && decide (t < 256)
  | .bus => true

/-- A block of Table 8 of the dictionary chapter. -/
def Block.wf : Block → Bool
  | .channel m => isChan m
  | .integrity m => isChan m
  | .link n => isLink n
  | _ => true

/-- A coil site (R255). -/
def Site.wf (x : Site) : Bool := decide (x.hop < 18) && decide (x.site < 50)

/-- A failing bit of a row (R307). -/
def BitAt.wf (x : BitAt) : Bool := decide (x.column < 16) && decide (x.symbol < 72) && decide (x.bit < 8)

/-- What the surroundings do to a channel entry. -/
def ChanEnv.wf (e : ChanEnv) : Bool :=
  isNoise e.noise0 && isNoise e.noise1 && isMetaNoise e.vNoise && isMetaNoise e.pNoise && decide (e.look ≤ 8)

/-- A command of a channel's controller. -/
def ChanRow.wf (r : ChanRow) : Bool := isChan r.ch && r.env.wf

/-- A sensed word (R390). -/
def SenseAt.wf (x : SenseAt) : Bool := decide (x.word < 1024)

/-- A PMBus answer (R348). -/
def PmbReply.wf (x : PmbReply) : Bool :=
  decide (x.statusWord < 65536) && decide (x.vout < 1048576) && decide (x.iout < 1048576) && decide (x.temp < 16777216)

/-- What the quick test found. -/
def QtFound.wf (x : QtFound) : Bool :=
  x.chans.all isChan && x.links.all isLink && x.metaChans.all isChan && x.coils.all (fun c => isChan c.1 && c.2.wf) &&
    x.rows.all (fun r => isChan r.1 && decide (r.2.1 < 16) && decide (r.2.2 < 32768)) &&
    x.groups.all (fun g => decide (g < 32))

/-- A layer's readings: U20 values (R35). -/
def LayerReading.wf (x : LayerReading) : Bool :=
  decide (x.arr < 1048576) && decide (x.peri < 1048576) && decide (x.vpp < 1048576) && decide (x.ma < 1048576)

/-- The rails: U20 values (R35). -/
def RailReadings.wf (x : RailReadings) : Bool :=
  decide (x.core < 1048576) && decide (x.phy < 1048576) && decide (x.mem < 1048576) && decide (x.vaux < 1048576) &&
    decide (x.vprog < 1048576) && decide (x.memI < 1048576) && decide (x.layers.length ≤ 18) && x.layers.all LayerReading.wf

/-- The sides of a queue of Table 5 of the clocks chapter. -/
def CdcQueue.wf : CdcQueue → Bool
  | .link n => isLink n
  | .channel m => isChan m
  | _ => true

/-- An I20 value (R35). -/
def isI20 (v : Int) : Bool := decide (-524288 ≤ v) && decide (v < 524288)

/-- THE CHECK, one line per row of the table. -/
def Instr.wf : Instr → Bool
  | .entryWrite m key val => m.wf && isKey key && isVal val
  | .mgmtRead link mtag key len => isLink link && decide (mtag < 256) && isKey key && decide (len < 256)
  | .mgmtWrite link mtag key len val =>
    isLink link && decide (mtag < 256) && isKey key && decide (len < 256) && isVal val
  | .commit m arg => m.wf && isVal arg
  | .discard m arg => m.wf && isVal arg
  | .commitApplyBlock b => b.wf
  | .profileDrainComplete => true
  | .frameReceive link lane symbols => isLink link && decide (lane < 3) && decide (symbols.length = 116)
  | .frameTransmit link => isLink link
  | .replayTimerExpiry link => isLink link
  | .detectLock link lanes => isLink link && decide (lanes < 4)
  | .equalizeDone link => isLink link
  | .alignDone link lanes polInv _ => isLink link && decide (lanes < 4) && decide (polInv < 4)
  | .configComplete link => isLink link
  | .trainingLimitExpiry link => isLink link
  | .failedTimeout link => isLink link
  | .recoverComplete link => isLink link
  | .recoverTimeout link => isLink link
  | .hostIdleReset link => isLink link
  | .laneSignalLoss link lane => isLink link && isLane lane
  | .laneSerWindowClose link _ _ => isLink link
  | .txLaneSwitch link => isLink link
  | .linkReset m link arg => m.wf && isLink link && isVal arg
  | .rd64 link tag label block => isLink link && isTag tag && isLabel label && isBlock block
  | .rd128 link tag label block => isLink link && isTag tag && isLabel label && isBlock block
  | .wr64 link tag label block _ _ => isLink link && isTag tag && isLabel label && isBlock block
  | .wrm link tag label block _ _ _ => isLink link && isTag tag && isLabel label && isBlock block
  | .fadd32 link tag label block word _ =>
    isLink link && isTag tag && isLabel label && isBlock block && decide (word < 16)
  | .swap32 link tag label block word _ =>
    isLink link && isTag tag && isLabel label && isBlock block && decide (word < 16)
  | .deq link tag queue => isLink link && isTag tag && isQueue queue
  | .peek link tag queue => isLink link && isTag tag && isQueue queue
  | .qlen link tag queue => isLink link && isTag tag && isQueue queue
  | .enq link tag label len queue _ data =>
    isLink link && isTag tag && isLabel label && decide (len < 32768) && isQueue queue &&
      decide (len = 0 ∨ 16384 < len ∨ data.length = (len + 31) / 32)
  | .requestAdmit => true
  | .channelEntryExecute ch env => isChan ch && env.wf
  | .queueCmdPass link env => isLink link && env.wf
  | .enqLink link env => isLink link && env.wf
  | .cacheRefill slice env => isSlice slice && env.wf
  | .cacheSpill slice env => isSlice slice && env.wf
  | .linkBlockEvict slice env => isSlice slice && env.wf
  | .qflush m arg => m.wf && isVal arg
  | .qflushWalkStep env => env.wf
  | .poolReset m arg => m.wf && isVal arg
  | .lsFill m arg => m.wf && isVal arg
  | .urgPinEdge pin => isPin pin
  | .urgFilterChange pin _ => isPin pin
  | .urgStuckDetect pin => isPin pin
  | .deliverableRecompute => true
  | .shortfallCut => true
  | .shareRecompute => true
  | .acctWindowClose _ _ => true
  | .idleTimerExpiry ch => isChan ch
  | .exitCheckEnd ch outside afterFull _ _ => isChan ch && outside.all Site.wf && afterFull.all Site.wf
  | .steepWindowStart row => row.wf
  | .steepWindowEnd ch outside _ => isChan ch && outside.all Site.wf
  | .refreshDueEvent ch => isChan ch
  | .scheduledRefresh row => row.wf
  | .refreshRateChange ch => isChan ch
  | .neighbourRefresh row => row.wf
  | .regionFill row => row.wf
  | .rakeStep ch noise env => isChan ch && noise.all isNoise && decide (noise.length ≤ 16) && env.wf
  | .rakePassClose ch _ rows => isChan ch && rows.all (fun r => decide (r.1 < 16) && decide (r.2 < 32768))
  | .rawWrite m arg => m.wf && isVal arg
  | .rawRead m arg => m.wf && isVal arg
  | .injCtrlWrite m k val => m.wf && decide (k < 7) && isVal val
  | .jointWordFail bundle attempt _ => decide (bundle < 512) && decide (0 < attempt)
  | .layerFreqWindowClose layer ppm => isLayer layer && isI20 ppm
  | .layerLossOfLock layer => isLayer layer
  | .relockAttemptEnd layer _ _ => isLayer layer
  | .coilSerWindowClose ch tail => isChan ch && decide (tail.length ≤ 36)
  | .substitutionWindow row found => row.wf && found.outside.all Site.wf
  | .hopTraining hop fails _ => decide (hop < 18) && fails.all (fun f => isChan f.1 && f.2.wf)
  | .endToEndCheck dead _ => dead.all (fun f => isChan f.1 && f.2.wf)
  | .extensionSlice row found => row.wf && found.fails.all Site.wf
  | .rowRepair row noise => row.wf && noise.all isNoise && decide (noise.length ≤ 16)
  | .migrationStep row noise => row.wf && noise.all isNoise && decide (noise.length ≤ 16)
  | .repairRequest m arg => m.wf && isVal arg
  | .harden m arg _ => m.wf && isVal arg
  | .evacuate m arg => m.wf && isVal arg
  | .evacTargetReady _ => true
  | .evacCopyStep row noise => row.wf && noise.all isNoise && decide (noise.length ≤ 16)
  | .evacChannelSwitch ch => isChan ch
  | .quickTestPhaseEnd found => found.wf
  | .quickTestEnd found _ => found.wf
  | .quickTestTimeLimit => true
  | .tapUpdateIr code => decide (code < 256)
  | .tapBypass => true
  | .tapIdcode => true
  | .tapSamplePreload _ _ => true
  | .tapExtest _ => true
  | .tapClamp => true
  | .tapHighz => true
  | .tapWrapper core _ => decide (core < 2)
  | .tapLayer layer _ => isLayer layer
  | .tapVendor code => decide (code < 256)
  | .tapReset => true
  | .testHold m arg => m.wf && isVal arg
  | .spargeSliceDue ch _ => isChan ch
  | .spargeEntry ch diffs rereads env => isChan ch && diffs.all BitAt.wf && rereads.all BitAt.wf && env.wf
  | .converterMinorCycle conv _ => decide (conv < 2)
  | .sensorSample sensor value _ => decide (sensor < 80) && value.all isI20
  | .zoneHoldExpiry _ => true
  | .z2StepPeriodExpiry => true
  | .stopComplete => true
  | .stopTimeout => true
  | .resume m arg => m.wf && isVal arg
  | .sensingFailure conv => conv.all (fun c => decide (c < 2))
  | .groupClear m arg => m.wf && isVal arg
  | .fanLoopTick => true
  | .fanSpeedUpdate fan _ => decide (fan < 2)
  | .fanFailDetect fan _ => decide (fan < 2)
  | .fanDutyTimeout => true
  | .boardSensorSample input raw => decide (input < 8) && raw.all (fun v => decide (v < 2 ^ 32))
  | .powerOnReset => true
  | .railLoss _ => true
  | .railRestart => true
  | .layerSupplyFault layer => isLayer layer
  | .vddRepPhaseLoss layer => isLayer layer
  | .pmbusPoll replies voutMode rails =>
    decide (replies.length = 4) && replies.all (fun r => r.all PmbReply.wf) && decide (voutMode < 256) && rails.wf
  | .pmbusAlert slot statusWord => slot.all (fun d => decide (d < 4)) && decide (statusWord < 65536)
  | .avsAdjust slack _ => decide (slack = -1 ∨ slack = 0 ∨ slack = 1)
  | .pmbusRecovery after => after.all (fun n => decide (1 ≤ n ∧ n ≤ 3))
  | .powerStateReq m arg => m.wf && isVal arg
  | .wakeNAssert => true
  | .pwrwarnAssert => true
  | .pwrwarnClear => true
  | .resetNAssert => true
  | .resetNRelease maddr => decide (maddr < 8)
  | .chipReset m arg => m.wf && isVal arg
  | .blockReset m arg => m.wf && isVal arg
  | .cdcResync q => q.wf
  | .clockMonitorWindow errs _ => decide (errs.length = 6) && errs.all isI20
  | .refclkReturn _ => true
  | .holdoverTimeout => true
  | .pllLossOfLock _ => true
  | .wireFault source _ => isSourceNum source
  | .stickyWrite m source _ val again =>
    m.wf && isSourceNum source && isVal val && again.all (fun x => decide (x.1 ≤ 5) && decide (x.2 < 128))
  | .stickyClear m _ val => m.wf && isVal val
  | .reactionWrite m source val => m.wf && source.all isSourceNum && isVal val
  | .eventSend link => isLink link
  | .mgmtWdtWarn => true
  | .mgmtWdt => true
  | .granarySensingEnd sense _ => sense.all SenseAt.wf
  | .granResense m arg sense => m.wf && isVal arg && sense.all SenseAt.wf
  | .granProgram m arg _ => m.wf && isVal arg
  | .granLock m arg _ => m.wf && isVal arg
  | .lcMarkComplete _ => true
  | .lcToField m arg _ => m.wf && isVal arg
  | .lcReturn m arg _ _ => m.wf && isVal arg
  | .lcVoid m arg _ => m.wf && isVal arg
  | .dictRead count data _ us => decide (count < 256) && isFrame data && decide (us ≤ 100)
  | .dictWrite count data => decide (count < 256) && isFrame data
  | .dictResult => true
  | .busAccessComplete _ => true
  | .busFlagsRead => true
  | .busFlagsWrite data => isFrame data
  | .windowWrite ptr data => decide (ptr < 256) && isVal data
  | .windowRead ptr n => decide (ptr < 256) && decide (n < 256)
  | .attentionRead => true
  | .attentionRequest _ => true
  | .attentionRetry _ => true
  | .mbUndefinedCommand code => decide (code < 256)
  | .mbProtocolError => true
  | .mbTimeout _ => true
  | .blockResetEnd code inst => decide (code ≤ 5) && decide (inst < 128)
  | .laneWithoutLock link lane => isLink link && isLane lane

end Sys2Proof
end

