-- ==== Sys2Proof/Machine/RowsBus.lean ====
section
/-!
DEFINITION. RowsBus: the rows of the management bus (R425–R449), one meaning each. A row whose
operands name nothing on the stack is no event of it, and faults.
-/

namespace Sys2Proof.Machine

/-- DICT_READ: a DICT_READ transaction (R434). -/
def execDictRead (count : Nat) (data : List Byte) (within : Option BusEnd) (stretchUs : Nat) (s : State) :
    Host.Outcome State Fault Refusal :=
  finish (Instr.dictRead count data within stretchUs).wf (s.dictRead count data within stretchUs)

/-- DICT_WRITE: a DICT_WRITE transaction (R433). -/
def execDictWrite (count : Nat) (data : List Byte) (s : State) : Host.Outcome State Fault Refusal :=
  finish (Instr.dictWrite count data).wf (s.dictWrite count data)

/-- DICT_RESULT: a DICT_RESULT transaction (R430). -/
def execDictResult (s : State) : Host.Outcome State Fault Refusal :=
  finish Instr.dictResult.wf s.dictResult

/-- BUS_ACCESS_COMPLETE: the pending access ends (R435). -/
def execBusAccessComplete (how : BusEnd) (s : State) : Host.Outcome State Fault Refusal :=
  finish (Instr.busAccessComplete how).wf (s.busComplete how {})

/-- BUS_FLAGS_READ: a read of BUS_FLAGS (R431). -/
def execBusFlagsRead (s : State) : Host.Outcome State Fault Refusal :=
  finish Instr.busFlagsRead.wf s.flagsRead

/-- BUS_FLAGS_WRITE: a write of BUS_FLAGS (R431). -/
def execBusFlagsWrite (data : List Byte) (s : State) : Host.Outcome State Fault Refusal :=
  finish (Instr.busFlagsWrite data).wf (s.flagsWrite data)

/-- WINDOW_WRITE: a WINDOW write (R437). -/
def execWindowWrite (ptr : Nat) (data : List Byte) (s : State) : Host.Outcome State Fault Refusal :=
  finish (Instr.windowWrite ptr data).wf (s.windowWrite ptr data)

/-- WINDOW_READ: a WINDOW read (R437). -/
def execWindowRead (ptr n : Nat) (s : State) : Host.Outcome State Fault Refusal :=
  finish (Instr.windowRead ptr n).wf (s.windowRead ptr n)

/-- ATTENTION_READ: an attention read by the host (R443). -/
def execAttentionRead (s : State) : Host.Outcome State Fault Refusal :=
  finish Instr.attentionRead.wf s.attentionRead

/-- ATTENTION_REQUEST: an attention request of the target (R443). -/
def execAttentionRequest (reply : AttnReply) (s : State) : Host.Outcome State Fault Refusal :=
  finish (Instr.attentionRequest reply).wf (s.attentionRequest reply)

/-- ATTENTION_RETRY: the retry of an attention request (R444). -/
def execAttentionRetry (reply : AttnReply) (s : State) : Host.Outcome State Fault Refusal :=
  finish (Instr.attentionRetry reply).wf (s.attentionRetry reply)

/-- MB_UNDEFINED_COMMAND: a command code that is not defined (R428). -/
def execMbUndefinedCommand (code : Nat) (s : State) : Host.Outcome State Fault Refusal :=
  finish (Instr.mbUndefinedCommand code).wf (s.undefinedCommand code)

/-- MB_PROTOCOL_ERROR: a START or STOP out of place (R439). -/
def execMbProtocolError (s : State) : Host.Outcome State Fault Refusal :=
  finish Instr.mbProtocolError.wf s.protocolAbort

/-- MB_TIMEOUT: a bus line has been low for 25 ms (R440). -/
def execMbTimeout (during : Bool) (s : State) : Host.Outcome State Fault Refusal :=
  finish (Instr.mbTimeout during).wf (s.busTimeout during)

end Sys2Proof.Machine
end

