-- ==== Sys2Proof/Machine/RowsChannel.lean ====
section
/-!
DEFINITION. RowsChannel: the rows of the channel controllers (R161–R231), one meaning each. A row whose
operands name nothing on the stack is no event of it, and faults.
-/

namespace Sys2Proof.Machine

/-- CHANNEL_ENTRY_EXECUTE: the channel runs its next entry (R161). -/
def execChannelEntryExecute (ch : Nat) (env : ChanEnv) (s : State) : Host.Outcome State Fault Refusal :=
  finish (Instr.channelEntryExecute ch env).wf (s.entryExecute ch env)

/-- IDLE_TIMER_EXPIRY: the idle timer expires (R169). -/
def execIdleTimerExpiry (ch : Nat) (s : State) : Host.Outcome State Fault Refusal :=
  finish (Instr.idleTimerExpiry ch).wf (s.idleExpiry ch)

/-- EXIT_CHECK_END: the exit check ends (R172). -/
def execExitCheckEnd (ch : Nat) (outside afterFull : List Site) (waitNs lenNs : Nat) (s : State) :
    Host.Outcome State Fault Refusal :=
  finish (Instr.exitCheckEnd ch outside afterFull waitNs lenNs).wf (s.exitCheckEnd ch outside afterFull waitNs lenNs)

/-- STEEP_WINDOW_START: a Steep window starts (R179). -/
def execSteepWindowStart (row : ChanRow) (s : State) : Host.Outcome State Fault Refusal :=
  finish (Instr.steepWindowStart row).wf (s.steepStart row.ch row.env)

/-- STEEP_WINDOW_END: a Steep window ends (R268). -/
def execSteepWindowEnd (ch : Nat) (outside : List Site) (lenNs : Nat) (s : State) :
    Host.Outcome State Fault Refusal :=
  finish (Instr.steepWindowEnd ch outside lenNs).wf (s.steepEnd ch outside lenNs)

/-- REFRESH_DUE_EVENT: a refresh falls due (R187). -/
def execRefreshDueEvent (ch : Nat) (s : State) : Host.Outcome State Fault Refusal :=
  finish (Instr.refreshDueEvent ch).wf (s.refreshDue ch)

/-- SCHEDULED_REFRESH: a scheduled refresh issues (R188). -/
def execScheduledRefresh (row : ChanRow) (s : State) : Host.Outcome State Fault Refusal :=
  finish (Instr.scheduledRefresh row).wf (s.scheduledRefresh row.ch row.env)

/-- REFRESH_RATE_CHANGE: the refresh rate changes at a channel (R192). -/
def execRefreshRateChange (ch : Nat) (s : State) : Host.Outcome State Fault Refusal :=
  finish (Instr.refreshRateChange ch).wf (s.rateChange ch)

/-- NEIGHBOUR_REFRESH: a neighbour refresh issues (R198). -/
def execNeighbourRefresh (row : ChanRow) (s : State) : Host.Outcome State Fault Refusal :=
  finish (Instr.neighbourRefresh row).wf (s.neighbourRefresh row.ch row.env)

/-- REGION_FILL: a marked region is filled (R216). -/
def execRegionFill (row : ChanRow) (s : State) : Host.Outcome State Fault Refusal :=
  finish (Instr.regionFill row).wf (s.regionFill row.ch row.env)

/-- RAKE_STEP: a step of the Rake (R225). -/
def execRakeStep (ch : Nat) (noise : List Nat) (env : ChanEnv) (s : State) : Host.Outcome State Fault Refusal :=
  finish (Instr.rakeStep ch noise env).wf (s.rakeStep ch noise env)

/-- RAKE_PASS_CLOSE: a pass of the Rake closes (R224). -/
def execRakePassClose (ch tailCe : Nat) (tailRows : List (Nat × Nat)) (s : State) :
    Host.Outcome State Fault Refusal :=
  finish (Instr.rakePassClose ch tailCe tailRows).wf (s.rakeClose ch tailCe tailRows)

/-- RAW_WRITE: a write to RAW_WRITE (R227). -/
def execRawWrite (m : Master) (arg : List Byte) (s : State) : Host.Outcome State Fault Refusal :=
  finish (Instr.rawWrite m arg).wf (s.writeBy m (ekey 0x1800 0x85) arg {})

/-- RAW_READ: a write to RAW_READ (R227). -/
def execRawRead (m : Master) (arg : List Byte) (s : State) : Host.Outcome State Fault Refusal :=
  finish (Instr.rawRead m arg).wf (s.writeBy m (ekey 0x1800 0x86) arg {})

/-- INJ_CTRL_WRITE: a write to an injection control (R230). -/
def execInjCtrlWrite (m : Master) (k : Nat) (val : List Byte) (s : State) : Host.Outcome State Fault Refusal :=
  finish (Instr.injCtrlWrite m k val).wf (s.writeBy m (ekey 0x1800 (0x60 + k)) val {})

end Sys2Proof.Machine
end

