-- ==== Sys2Proof/Machine/RowsDictionary.lean ====
section
/-!
DEFINITION. RowsDictionary: the rows of the dictionary (R33–R53), one meaning each. A row whose
operands name nothing on the stack is no event of it, and faults.
-/

namespace Sys2Proof.Machine

/-- ENTRY_WRITE: a write of an entry by a master (R37). -/
def execEntryWrite (m : Master) (key : Nat) (val : List Byte) (s : State) : Host.Outcome State Fault Refusal :=
  finish (Instr.entryWrite m key val).wf (s.writeBy m key val {})

/-- MGMT_READ: an in-band READ (R52). -/
def execMgmtRead (link mtag key len : Nat) (s : State) : Host.Outcome State Fault Refusal :=
  finish (Instr.mgmtRead link mtag key len).wf (s.mgmtRead link mtag key len)

/-- MGMT_WRITE: an in-band WRITE (R52). -/
def execMgmtWrite (link mtag key len : Nat) (val : List Byte) (s : State) : Host.Outcome State Fault Refusal :=
  finish (Instr.mgmtWrite link mtag key len val).wf (s.mgmtWrite link mtag key len val {})

/-- COMMIT: a write to COMMIT (R42). -/
def execCommit (m : Master) (arg : List Byte) (s : State) : Host.Outcome State Fault Refusal :=
  finish (Instr.commit m arg).wf (s.writeBy m kCommit arg {})

/-- DISCARD: a write to DISCARD (R44). -/
def execDiscard (m : Master) (arg : List Byte) (s : State) : Host.Outcome State Fault Refusal :=
  finish (Instr.discard m arg).wf (s.writeBy m kDiscard arg {})

/-- COMMIT_APPLY_BLOCK: a block of the commit reaches its quiet boundary (R46). -/
def execCommitApplyBlock (b : Block) (s : State) : Host.Outcome State Fault Refusal :=
  finish (Instr.commitApplyBlock b).wf (s.applyBlock b)

/-- PROFILE_DRAIN_COMPLETE: the drain of a profile change is complete (R26). -/
def execProfileDrainComplete (s : State) : Host.Outcome State Fault Refusal :=
  finish Instr.profileDrainComplete.wf s.profileDrained

end Sys2Proof.Machine
end

