-- ==== Sys2Proof/Machine/RowsFault.lean ====
section
/-!
DEFINITION. RowsFault: the rows of fault collection, the Granary and the life cycle (R376–R424), one meaning each. A row whose
operands name nothing on the stack is no event of it, and faults.
-/

namespace Sys2Proof.Machine

/-- WIRE_FAULT: a pair of fault wires reads equal, or recovers (R377). -/
def execWireFault (source : Nat) (on : Bool) (s : State) : Host.Outcome State Fault Refusal :=
  finish (Instr.wireFault source on).wf (s.wireFault source on)

/-- STICKY_WRITE: a write to STICKY or WIRE (R379). -/
def execStickyWrite (m : Master) (source : Nat) (wire : Bool) (val : List Byte) (again : Option (Nat × Nat))
    (s : State) : Host.Outcome State Fault Refusal :=
  finish (Instr.stickyWrite m source wire val again).wf
    (s.writeBy m (sourceKey source (if wire then 2 else 1)) val { again := again })

/-- STICKY_CLEAR: a write to STICKY_CLEAR or WIRE_CLEAR (R379). -/
def execStickyClear (m : Master) (wire : Bool) (val : List Byte) (s : State) : Host.Outcome State Fault Refusal :=
  finish (Instr.stickyClear m wire val).wf (s.writeBy m (ekey 0x4000 (if wire then 0x83 else 0x82)) val {})

/-- REACTION_WRITE: a write to a reaction mask (R381). -/
def execReactionWrite (m : Master) (source : Option Nat) (val : List Byte) (s : State) :
    Host.Outcome State Fault Refusal :=
  finish (Instr.reactionWrite m source val).wf
    (s.writeBy m (source.elim (ekey 0x4000 0x84) (fun n => sourceKey n 3)) val {})

/-- MGMT_WDT_WARN: the watchdog period has passed once (R387). -/
def execMgmtWdtWarn (s : State) : Host.Outcome State Fault Refusal :=
  finish Instr.mgmtWdtWarn.wf (s.watchdog 80)

/-- MGMT_WDT: the watchdog period has passed twice (R387). -/
def execMgmtWdt (s : State) : Host.Outcome State Fault Refusal :=
  finish Instr.mgmtWdt.wf (s.watchdog 81)

/-- GRANARY_SENSING_END: granary sensing ends (R394). -/
def execGranarySensingEnd (sense : List SenseAt) (jointOk : Bool) (s : State) : Host.Outcome State Fault Refusal :=
  finish (Instr.granarySensingEnd sense jointOk).wf (s.sensingEnd sense jointOk)

/-- GRAN_RESENSE: a write to GRAN_RESENSE (R401). -/
def execGranResense (m : Master) (arg : List Byte) (sense : List SenseAt) (s : State) :
    Host.Outcome State Fault Refusal :=
  finish (Instr.granResense m arg sense).wf (s.writeBy m (ekey 0x5000 0x08) arg { sense := sense })

/-- GRAN_PROGRAM: a write to GRAN_PROGRAM (R404). -/
def execGranProgram (m : Master) (arg : List Byte) (env : ProgEnv) (s : State) : Host.Outcome State Fault Refusal :=
  finish (Instr.granProgram m arg env).wf (s.writeBy m (ekey 0x5000 0x06) arg { prog := env })

/-- GRAN_LOCK: a write to GRAN_LOCK (R406). -/
def execGranLock (m : Master) (arg : List Byte) (env : ProgEnv) (s : State) : Host.Outcome State Fault Refusal :=
  finish (Instr.granLock m arg env).wf (s.writeBy m (ekey 0x5000 0x07) arg { prog := env })

/-- LC_MARK_COMPLETE: the stack completes a partly programmed mark (R410). -/
def execLcMarkComplete (env : ProgEnv) (s : State) : Host.Outcome State Fault Refusal :=
  finish (Instr.lcMarkComplete env).wf (s.markComplete env)

/-- LC_TO_FIELD: a write to LC_TO_FIELD (R416). -/
def execLcToField (m : Master) (arg : List Byte) (env : ProgEnv) (s : State) : Host.Outcome State Fault Refusal :=
  finish (Instr.lcToField m arg env).wf (s.writeBy m (ekey 0x0200 0x05) arg { prog := env })

/-- LC_RETURN: a write to LC_RETURN (R420). -/
def execLcReturn (m : Master) (arg : List Byte) (wipeUs : Nat) (env : ProgEnv) (s : State) :
    Host.Outcome State Fault Refusal :=
  finish (Instr.lcReturn m arg wipeUs env).wf (s.writeBy m (ekey 0x0200 0x06) arg { prog := env, wipeUs := wipeUs })

/-- LC_VOID: a write to LC_VOID (R421). -/
def execLcVoid (m : Master) (arg : List Byte) (env : ProgEnv) (s : State) : Host.Outcome State Fault Refusal :=
  finish (Instr.lcVoid m arg env).wf (s.writeBy m (ekey 0x0200 0x07) arg { prog := env })

end Sys2Proof.Machine
end

