-- ==== Sys2Proof/Machine/RowsLink.lean ====
section
/-!
DEFINITION. RowsLink: the rows of the Ictan links (R54–R96, R385), one meaning each. A row whose
operands name nothing on the stack is no event of it, and faults.
-/

namespace Sys2Proof.Machine

/-- FRAME_RECEIVE: a frame arrives (R77). -/
def execFrameReceive (link lane : Nat) (symbols : List Symbol) (s : State) : Host.Outcome State Fault Refusal :=
  finish (Instr.frameReceive link lane symbols).wf (s.frameReceive link lane symbols)

/-- FRAME_TRANSMIT: a frame period of the transmitter (R70). -/
def execFrameTransmit (link : Nat) (s : State) : Host.Outcome State Fault Refusal :=
  finish (Instr.frameTransmit link).wf (s.frameTransmit link)

/-- REPLAY_TIMER_EXPIRY: the replay timer expires (R78). -/
def execReplayTimerExpiry (link : Nat) (s : State) : Host.Outcome State Fault Refusal :=
  finish (Instr.replayTimerExpiry link).wf (s.replayTimer link)

/-- DETECT_LOCK: a lane has had signal and CDR lock for 10 µs (R81). -/
def execDetectLock (link lanes : Nat) (s : State) : Host.Outcome State Fault Refusal :=
  finish (Instr.detectLock link lanes).wf (s.detectLock link lanes)

/-- EQUALIZE_DONE: the receivers are adapted (R83). -/
def execEqualizeDone (link : Nat) (s : State) : Host.Outcome State Fault Refusal :=
  finish (Instr.equalizeDone link).wf (s.equalizeDone link)

/-- ALIGN_DONE: frame lock on every usable lane, deskewed (R81). -/
def execAlignDone (link lanes polInv : Nat) (swap : Bool) (s : State) : Host.Outcome State Fault Refusal :=
  finish (Instr.alignDone link lanes polInv swap).wf (s.alignDone link lanes polInv swap)

/-- CONFIG_COMPLETE: the handshake and the drain are complete (R94). -/
def execConfigComplete (link : Nat) (s : State) : Host.Outcome State Fault Refusal :=
  finish (Instr.configComplete link).wf (s.configComplete link)

/-- TRAINING_LIMIT_EXPIRY: a training limit is exceeded (R84). -/
def execTrainingLimitExpiry (link : Nat) (s : State) : Host.Outcome State Fault Refusal :=
  finish (Instr.trainingLimitExpiry link).wf (s.trainingLimit link)

/-- FAILED_TIMEOUT: 10 ms have passed in FAILED (R81). -/
def execFailedTimeout (link : Nat) (s : State) : Host.Outcome State Fault Refusal :=
  finish (Instr.failedTimeout link).wf (s.failedTimeout link)

/-- RECOVER_COMPLETE: RECOVER completes (R86). -/
def execRecoverComplete (link : Nat) (s : State) : Host.Outcome State Fault Refusal :=
  finish (Instr.recoverComplete link).wf (s.recoverComplete link)

/-- RECOVER_TIMEOUT: RECOVER has not completed in its time (R87). -/
def execRecoverTimeout (link : Nat) (s : State) : Host.Outcome State Fault Refusal :=
  finish (Instr.recoverTimeout link).wf (s.recoverTimeout link)

/-- HOST_IDLE_RESET: the host idles its transmitters for 10 µs (R88). -/
def execHostIdleReset (link : Nat) (s : State) : Host.Outcome State Fault Refusal :=
  finish (Instr.hostIdleReset link).wf (s.hostIdleReset link)

/-- LANE_SIGNAL_LOSS: a lane has lost its signal for 1 µs (R89). -/
def execLaneSignalLoss (link lane : Nat) (s : State) : Host.Outcome State Fault Refusal :=
  finish (Instr.laneSignalLoss link lane).wf (s.laneSignalLoss link lane)

/-- LANE_SER_WINDOW_CLOSE: a 1 ms window of corrected symbols closes (R89). -/
def execLaneSerWindowClose (link tailA tailB : Nat) (s : State) : Host.Outcome State Fault Refusal :=
  finish (Instr.laneSerWindowClose link tailA tailB).wf (s.laneSerWindow link tailA tailB)

/-- TX_LANE_SWITCH: the host has cleared a bit of RX_LANES_OK (R90). -/
def execTxLaneSwitch (link : Nat) (s : State) : Host.Outcome State Fault Refusal :=
  finish (Instr.txLaneSwitch link).wf (s.txLaneSwitch link)

/-- LINK_RESET: a write to LINK_RESET (R92). -/
def execLinkReset (m : Master) (link : Nat) (arg : List Byte) (s : State) : Host.Outcome State Fault Refusal :=
  finish (Instr.linkReset m link arg).wf (s.writeBy m (linkKey link 0x06) arg {})

/-- EVENT_SEND: a link sends a pending EVENT (R385). -/
def execEventSend (link : Nat) (s : State) : Host.Outcome State Fault Refusal :=
  finish (Instr.eventSend link).wf (s.eventSend link)

/-- LANE_WITHOUT_LOCK: a lane is without lock 100 µs after the first (R84). -/
def execLaneWithoutLock (link lane : Nat) (s : State) : Host.Outcome State Fault Refusal :=
  finish (Instr.laneWithoutLock link lane).wf (s.laneWithoutLock link lane)

end Sys2Proof.Machine
end

