-- ==== Sys2Proof/Machine/RowsPower.lean ====
section
/-!
DEFINITION. RowsPower: the rows of power, clocks and resets (R341–R375), one meaning each. A row whose
operands name nothing on the stack is no event of it, and faults.
-/

namespace Sys2Proof.Machine

/-- POWER_ON_RESET: VAUX rises: the power-on reset (R342). -/
def execPowerOnReset (s : State) : Host.Outcome State Fault Refusal :=
  finish Instr.powerOnReset.wf s.powerOn

/-- RAIL_LOSS: a core rail leaves its range (R342). -/
def execRailLoss (rail : Rail) (s : State) : Host.Outcome State Fault Refusal :=
  finish (Instr.railLoss rail).wf (s.railLoss rail)

/-- RAIL_RESTART: the rails have been in range for 1 ms (R342). -/
def execRailRestart (s : State) : Host.Outcome State Fault Refusal :=
  finish Instr.railRestart.wf s.railRestart

/-- LAYER_SUPPLY_FAULT: a supply of a layer fails (R345). -/
def execLayerSupplyFault (layer : Nat) (s : State) : Host.Outcome State Fault Refusal :=
  finish (Instr.layerSupplyFault layer).wf (s.supplyFault layer)

/-- VDD_REP_PHASE_LOSS: a phase of VDD_REP fails (R346). -/
def execVddRepPhaseLoss (layer : Nat) (s : State) : Host.Outcome State Fault Refusal :=
  finish (Instr.vddRepPhaseLoss layer).wf (s.phaseLoss layer)

/-- PMBUS_POLL: a poll of the PMBus devices (R348). -/
def execPmbusPoll (replies : List (Option PmbReply)) (voutMode : Nat) (rails : RailReadings) (s : State) :
    Host.Outcome State Fault Refusal :=
  finish (Instr.pmbusPoll replies voutMode rails).wf (s.pmbusPoll replies voutMode rails)

/-- PMBUS_ALERT: a PMBus alert (R348). -/
def execPmbusAlert (slot : Option Nat) (statusWord : Nat) (s : State) : Host.Outcome State Fault Refusal :=
  finish (Instr.pmbusAlert slot statusWord).wf (s.pmbusAlert slot statusWord)

/-- AVS_ADJUST: a millisecond of adaptive voltage scaling (R349). -/
def execAvsAdjust (slack : Int) (confirmed : Bool) (s : State) : Host.Outcome State Fault Refusal :=
  finish (Instr.avsAdjust slack confirmed).wf (s.avsAdjust slack confirmed)

/-- PMBUS_RECOVERY: a recovery of a stuck PMBus (R352). -/
def execPmbusRecovery (after : Option Nat) (s : State) : Host.Outcome State Fault Refusal :=
  finish (Instr.pmbusRecovery after).wf (s.pmbusRecovery after)

/-- POWER_STATE_REQ: a write to POWER_STATE_REQ (R353). -/
def execPowerStateReq (m : Master) (arg : List Byte) (s : State) : Host.Outcome State Fault Refusal :=
  finish (Instr.powerStateReq m arg).wf (s.writeBy m kPower arg {})

/-- WAKE_N_ASSERT: WAKE_N is asserted (R355). -/
def execWakeNAssert (s : State) : Host.Outcome State Fault Refusal :=
  finish Instr.wakeNAssert.wf s.wakeN

/-- PWRWARN_ASSERT: PWRWARN_N is asserted (R358). -/
def execPwrwarnAssert (s : State) : Host.Outcome State Fault Refusal :=
  finish Instr.pwrwarnAssert.wf s.pwrwarnOn

/-- PWRWARN_CLEAR: PWRWARN_N has been high for its hold time (R358). -/
def execPwrwarnClear (s : State) : Host.Outcome State Fault Refusal :=
  finish Instr.pwrwarnClear.wf s.pwrwarnOff

/-- RESET_N_ASSERT: RESET_N goes low (R372). -/
def execResetNAssert (s : State) : Host.Outcome State Fault Refusal :=
  finish Instr.resetNAssert.wf s.resetAssert

/-- RESET_N_RELEASE: RESET_N goes high (R359). -/
def execResetNRelease (maddr : Nat) (s : State) : Host.Outcome State Fault Refusal :=
  finish (Instr.resetNRelease maddr).wf (s.resetRelease maddr)

/-- CHIP_RESET: a write to CHIP_RESET (R375). -/
def execChipReset (m : Master) (arg : List Byte) (s : State) : Host.Outcome State Fault Refusal :=
  finish (Instr.chipReset m arg).wf (s.writeBy m (ekey 0x0500 0x12) arg {})

/-- BLOCK_RESET: a write to BLOCK_RESET (R375). -/
def execBlockReset (m : Master) (arg : List Byte) (s : State) : Host.Outcome State Fault Refusal :=
  finish (Instr.blockReset m arg).wf (s.writeBy m (ekey 0x0500 0x13) arg {})

/-- CDC_RESYNC: a crossing completes its handshake (R370). -/
def execCdcResync (q : CdcQueue) (s : State) : Host.Outcome State Fault Refusal :=
  finish (Instr.cdcResync q).wf (s.cdcResync q)

/-- CLOCK_MONITOR_WINDOW: a window of the clock monitors closes (R364). -/
def execClockMonitorWindow (errs : List Int) (refclkOk : Bool) (s : State) : Host.Outcome State Fault Refusal :=
  finish (Instr.clockMonitorWindow errs refclkOk).wf (s.clockWindow errs refclkOk)

/-- REFCLK_RETURN: REFCLK returns (R365). -/
def execRefclkReturn (us : Nat) (s : State) : Host.Outcome State Fault Refusal :=
  finish (Instr.refclkReturn us).wf (s.refclkReturn us)

/-- HOLDOVER_TIMEOUT: holdover reaches its limit (R365). -/
def execHoldoverTimeout (s : State) : Host.Outcome State Fault Refusal :=
  finish Instr.holdoverTimeout.wf s.holdoverTimeout

/-- PLL_LOSS_OF_LOCK: a PLL loses lock (R365). -/
def execPllLossOfLock (pll : Pll) (s : State) : Host.Outcome State Fault Refusal :=
  finish (Instr.pllLossOfLock pll).wf (s.pllLoss pll)

/-- BLOCK_RESET_END: a block reset ends (R373). -/
def execBlockResetEnd (code inst : Nat) (s : State) : Host.Outcome State Fault Refusal :=
  finish (Instr.blockResetEnd code inst).wf (s.endBlockReset code inst)

end Sys2Proof.Machine
end

