-- ==== Sys2Proof/Machine/RowsRepair.lean ====
section
/-!
DEFINITION. RowsRepair: the rows of vertical coupling, repair and self-test (R254–R313, R371), one meaning each. A row whose
operands name nothing on the stack is no event of it, and faults.
-/

namespace Sys2Proof.Machine

/-- JOINT_WORD_FAIL: a word of the joint fails its CRC (R259). -/
def execJointWordFail (bundle attempt : Nat) (calib : Bool) (s : State) : Host.Outcome State Fault Refusal :=
  finish (Instr.jointWordFail bundle attempt calib).wf (s.jointFail bundle attempt calib)

/-- LAYER_FREQ_WINDOW_CLOSE: a frequency window of a layer closes (R262). -/
def execLayerFreqWindowClose (layer : Nat) (ppm : Int) (s : State) : Host.Outcome State Fault Refusal :=
  finish (Instr.layerFreqWindowClose layer ppm).wf (s.layerFreq layer ppm)

/-- LAYER_LOSS_OF_LOCK: a layer loses lock (R263). -/
def execLayerLossOfLock (layer : Nat) (s : State) : Host.Outcome State Fault Refusal :=
  finish (Instr.layerLossOfLock layer).wf (s.layerLoss layer)

/-- RELOCK_ATTEMPT_END: a relock attempt ends (R263). -/
def execRelockAttemptEnd (layer : Nat) (locked : Bool) (stopNs : Nat) (s : State) :
    Host.Outcome State Fault Refusal :=
  finish (Instr.relockAttemptEnd layer locked stopNs).wf (s.relockEnd layer locked stopNs)

/-- COIL_SER_WINDOW_CLOSE: a window of coil errors closes (R269). -/
def execCoilSerWindowClose (ch : Nat) (tail : List Nat) (s : State) : Host.Outcome State Fault Refusal :=
  finish (Instr.coilSerWindowClose ch tail).wf (s.coilSer ch tail)

/-- SUBSTITUTION_WINDOW: a substitution window (R271). -/
def execSubstitutionWindow (row : ChanRow) (found : SteepFound) (s : State) : Host.Outcome State Fault Refusal :=
  finish (Instr.substitutionWindow row found).wf (s.substitutionWindow row.ch found.outside found.lenNs row.env)

/-- HOP_TRAINING: a hop is trained (R264). -/
def execHopTraining (hop : Nat) (fails : List (Nat × Site)) (locked : Bool) (s : State) :
    Host.Outcome State Fault Refusal :=
  finish (Instr.hopTraining hop fails locked).wf (s.hopTraining hop fails locked)

/-- END_TO_END_CHECK: the end-to-end check of the columns (R265). -/
def execEndToEndCheck (dead : List (Nat × Site)) (us : Nat) (s : State) : Host.Outcome State Fault Refusal :=
  finish (Instr.endToEndCheck dead us).wf (s.endToEnd dead us)

/-- EXTENSION_SLICE: a slice of a column extension (R275). -/
def execExtensionSlice (row : ChanRow) (found : HopFound) (s : State) : Host.Outcome State Fault Refusal :=
  finish (Instr.extensionSlice row found).wf (s.extensionSlice row.ch found.fails found.ok row.env)

/-- ROW_REPAIR: a row repair (R282). -/
def execRowRepair (row : ChanRow) (noise : List Nat) (s : State) : Host.Outcome State Fault Refusal :=
  finish (Instr.rowRepair row noise).wf (s.rowRepair row.ch noise row.env)

/-- MIGRATION_STEP: a step of a column migration (R283). -/
def execMigrationStep (row : ChanRow) (noise : List Nat) (s : State) : Host.Outcome State Fault Refusal :=
  finish (Instr.migrationStep row noise).wf (s.migrationStep row.ch noise row.env)

/-- REPAIR_REQUEST: a write to REPAIR_REQUEST (R281). -/
def execRepairRequest (m : Master) (arg : List Byte) (s : State) : Host.Outcome State Fault Refusal :=
  finish (Instr.repairRequest m arg).wf (s.writeBy m (ekey 0x1C00 0x0D) arg {})

/-- HARDEN: a write to HARDEN (R288). -/
def execHarden (m : Master) (arg : List Byte) (env : ProgEnv) (s : State) : Host.Outcome State Fault Refusal :=
  finish (Instr.harden m arg env).wf (s.writeBy m (ekey 0x1C00 0x0E) arg { prog := env })

/-- EVACUATE: a write to EVACUATE (R289). -/
def execEvacuate (m : Master) (arg : List Byte) (s : State) : Host.Outcome State Fault Refusal :=
  finish (Instr.evacuate m arg).wf (s.writeBy m kEvacuate arg {})

/-- EVAC_TARGET_READY: the target layer of an evacuation is ready, or not (R290). -/
def execEvacTargetReady (ok : Bool) (s : State) : Host.Outcome State Fault Refusal :=
  finish (Instr.evacTargetReady ok).wf (s.evacTargetReady ok)

/-- EVAC_COPY_STEP: a copy step of an evacuation (R291). -/
def execEvacCopyStep (row : ChanRow) (noise : List Nat) (s : State) : Host.Outcome State Fault Refusal :=
  finish (Instr.evacCopyStep row noise).wf (s.evacCopyStep row.ch noise row.env)

/-- EVAC_CHANNEL_SWITCH: a channel switches to its new layer (R290). -/
def execEvacChannelSwitch (ch : Nat) (s : State) : Host.Outcome State Fault Refusal :=
  finish (Instr.evacChannelSwitch ch).wf (s.evacChannelSwitch ch)

/-- QUICK_TEST_PHASE_END: a phase of the quick test ends (R298). -/
def execQuickTestPhaseEnd (found : QtFound) (s : State) : Host.Outcome State Fault Refusal :=
  finish (Instr.quickTestPhaseEnd found).wf (s.quickPhase found)

/-- QUICK_TEST_END: the quick test ends (R299). -/
def execQuickTestEnd (found : QtFound) (us : Nat) (s : State) : Host.Outcome State Fault Refusal :=
  finish (Instr.quickTestEnd found us).wf (s.quickEnd found us)

/-- QUICK_TEST_TIME_LIMIT: the quick test reaches its limit (R300). -/
def execQuickTestTimeLimit (s : State) : Host.Outcome State Fault Refusal :=
  finish Instr.quickTestTimeLimit.wf s.quickLimit

/-- TAP_UPDATE_IR: update-IR of the TAP (R301). -/
def execTapUpdateIr (code : Nat) (s : State) : Host.Outcome State Fault Refusal :=
  finish (Instr.tapUpdateIr code).wf (s.tapUpdate code)

/-- BYPASS: BYPASS (R301). -/
def execTapBypass (s : State) : Host.Outcome State Fault Refusal :=
  finish Instr.tapBypass.wf (s.tapRun 0xFF id)

/-- IDCODE: IDCODE (R301). -/
def execTapIdcode (s : State) : Host.Outcome State Fault Refusal :=
  finish Instr.tapIdcode.wf s.tapIdcodeRun

/-- SAMPLE_PRELOAD: SAMPLE/PRELOAD (R301). -/
def execTapSamplePreload (pins cells : Nat) (s : State) : Host.Outcome State Fault Refusal :=
  finish (Instr.tapSamplePreload pins cells).wf (s.tapSample pins cells)

/-- EXTEST: EXTEST (R301). -/
def execTapExtest (cells : Nat) (s : State) : Host.Outcome State Fault Refusal :=
  finish (Instr.tapExtest cells).wf (s.tapExtestRun cells)

/-- CLAMP: CLAMP (R301). -/
def execTapClamp (s : State) : Host.Outcome State Fault Refusal :=
  finish Instr.tapClamp.wf (s.tapRun 0x04 id)

/-- HIGHZ: HIGHZ (R301). -/
def execTapHighz (s : State) : Host.Outcome State Fault Refusal :=
  finish Instr.tapHighz.wf (s.tapRun 0x05 id)

/-- IEEE1500_WRAPPER_ACCESS: an IEEE 1500 wrapper access (R301). -/
def execTapWrapper (core wir : Nat) (s : State) : Host.Outcome State Fault Refusal :=
  finish (Instr.tapWrapper core wir).wf (s.tapWrap core wir)

/-- IEEE1838_LAYER_ACCESS: an IEEE 1838 layer access (R301). -/
def execTapLayer (layer cfg : Nat) (s : State) : Host.Outcome State Fault Refusal :=
  finish (Instr.tapLayer layer cfg).wf (s.tapLayerRun layer cfg)

/-- VENDOR_PRIVATE_INSTRUCTION: a vendor private instruction (R301). -/
def execTapVendor (code : Nat) (s : State) : Host.Outcome State Fault Refusal :=
  finish (Instr.tapVendor code).wf (s.tapVendorRun code)

/-- TAP_RESET: test-Logic-Reset (R371). -/
def execTapReset (s : State) : Host.Outcome State Fault Refusal :=
  finish Instr.tapReset.wf s.tapTestReset

/-- TEST_HOLD: a write to TEST_HOLD (R302). -/
def execTestHold (m : Master) (arg : List Byte) (s : State) : Host.Outcome State Fault Refusal :=
  finish (Instr.testHold m arg).wf (s.writeBy m (ekey 0x4800 0x10) arg {})

/-- SPARGE_SLICE_DUE: a Sparge slice falls due (R310). -/
def execSpargeSliceDue (ch : Nat) (rails : Unit) (s : State) : Host.Outcome State Fault Refusal :=
  finish (Instr.spargeSliceDue ch rails).wf (s.sliceDue ch)

/-- SPARGE_ENTRY: an entry of a Sparge slice (R305). -/
def execSpargeEntry (ch : Nat) (diffs rereads : List BitAt) (env : ChanEnv) (s : State) :
    Host.Outcome State Fault Refusal :=
  finish (Instr.spargeEntry ch diffs rereads env).wf (s.spargeEntry ch diffs rereads env)

end Sys2Proof.Machine
end

