-- ==== Sys2Proof/Machine/RowsRequest.lean ====
section
/-!
DEFINITION. RowsRequest: the requests that a link receives (R97–R120, R241, R243), one meaning each. A row whose
operands name nothing on the stack is no event of it, and faults.
-/

namespace Sys2Proof.Machine

/-- RD64: a read of a block (R108). -/
def execRd64 (link tag label block : Nat) (s : State) : Host.Outcome State Fault Refusal :=
  finish (Instr.rd64 link tag label block).wf
    (s.memRequest link { tag := tag, opc := 0x10, cls := s.labelSet label, block := block })

/-- RD128: a read of a pair of blocks (R108). -/
def execRd128 (link tag label block : Nat) (s : State) : Host.Outcome State Fault Refusal :=
  finish (Instr.rd128 link tag label block).wf
    (s.memRequest link { tag := tag, opc := 0x11, cls := s.labelSet label, block := block })

/-- WR64: a write of a block (R109). -/
def execWr64 (link tag label block : Nat) (psn : Bool) (data : BitVec 512) (s : State) :
    Host.Outcome State Fault Refusal :=
  finish (Instr.wr64 link tag label block psn data).wf
    (s.memRequest link { tag := tag, opc := 0x12, cls := s.labelSet label, block := block, psn := psn, data := data })

/-- WRM: a masked write (R110). -/
def execWrm (link tag label block : Nat) (psn : Bool) (mask : BitVec 64) (data : BitVec 512) (s : State) :
    Host.Outcome State Fault Refusal :=
  finish (Instr.wrm link tag label block psn mask data).wf (s.memRequest link
    { tag := tag, opc := 0x13, cls := s.labelSet label, block := block, psn := psn, mask := mask, data := data })

/-- FADD32: an atomic addition (R111). -/
def execFadd32 (link tag label block word : Nat) (operand : BitVec 32) (s : State) :
    Host.Outcome State Fault Refusal :=
  finish (Instr.fadd32 link tag label block word operand).wf (s.memRequest link
    { tag := tag, opc := 0x14, cls := s.labelSet label, block := block, word := word, operand := operand })

/-- SWAP32: an atomic swap (R111). -/
def execSwap32 (link tag label block word : Nat) (operand : BitVec 32) (s : State) :
    Host.Outcome State Fault Refusal :=
  finish (Instr.swap32 link tag label block word operand).wf (s.memRequest link
    { tag := tag, opc := 0x15, cls := s.labelSet label, block := block, word := word, operand := operand })

/-- DEQ: a DEQ is received (R243). -/
def execDeq (link tag queue : Nat) (s : State) : Host.Outcome State Fault Refusal :=
  finish (Instr.deq link tag queue).wf (s.queueRequest link tag 0x18 queue)

/-- PEEK: a PEEK is received (R243). -/
def execPeek (link tag queue : Nat) (s : State) : Host.Outcome State Fault Refusal :=
  finish (Instr.peek link tag queue).wf (s.queueRequest link tag 0x19 queue)

/-- QLEN: a QLEN is received (R243). -/
def execQlen (link tag queue : Nat) (s : State) : Host.Outcome State Fault Refusal :=
  finish (Instr.qlen link tag queue).wf (s.queueRequest link tag 0x1A queue)

/-- ENQ: an ENQ is received (R241). -/
def execEnq (link tag label len queue : Nat) (psn : Bool) (data : List Flit) (s : State) :
    Host.Outcome State Fault Refusal :=
  finish (Instr.enq link tag label len queue psn data).wf (s.enq link tag label len queue psn data)

end Sys2Proof.Machine
end

