-- ==== Sys2Proof/Machine/RowsService.lean ====
section
/-!
DEFINITION. RowsService: the rows of the regulator and the queue engine (R137–R160, R232–R253), one meaning each. A row whose
operands name nothing on the stack is no event of it, and faults.
-/

namespace Sys2Proof.Machine

/-- REQUEST_ADMIT: one FABRIC cycle of the regulator (R145). -/
def execRequestAdmit (s : State) : Host.Outcome State Fault Refusal :=
  finish Instr.requestAdmit.wf s.requestAdmit

/-- QUEUE_CMD_PASS: the port passes its next queue command to the engine (R75). -/
def execQueueCmdPass (link : Nat) (env : ChanEnv) (s : State) : Host.Outcome State Fault Refusal :=
  finish (Instr.queueCmdPass link env).wf (s.queuePass link env)

/-- ENQ_LINK: the engine links a packet and answers its ENQ (R242). -/
def execEnqLink (link : Nat) (env : ChanEnv) (s : State) : Host.Outcome State Fault Refusal :=
  finish (Instr.enqLink link env).wf (s.enqLink link env)

/-- CACHE_REFILL: a pointer cache refills (R238). -/
def execCacheRefill (slice : Nat) (env : ChanEnv) (s : State) : Host.Outcome State Fault Refusal :=
  finish (Instr.cacheRefill slice env).wf (s.cacheRefill slice env)

/-- CACHE_SPILL: a pointer cache spills (R238). -/
def execCacheSpill (slice : Nat) (env : ChanEnv) (s : State) : Host.Outcome State Fault Refusal :=
  finish (Instr.cacheSpill slice env).wf (s.cacheSpill slice env)

/-- LINK_BLOCK_EVICT: a link block is written back (R246). -/
def execLinkBlockEvict (slice : Nat) (env : ChanEnv) (s : State) : Host.Outcome State Fault Refusal :=
  finish (Instr.linkBlockEvict slice env).wf (s.linkEvict slice env)

/-- QFLUSH: a write to QFLUSH (R244). -/
def execQflush (m : Master) (arg : List Byte) (s : State) : Host.Outcome State Fault Refusal :=
  finish (Instr.qflush m arg).wf (s.writeBy m kFlush arg {})

/-- QFLUSH_WALK_STEP: a step of the walk of QFLUSH (R244). -/
def execQflushWalkStep (env : ChanEnv) (s : State) : Host.Outcome State Fault Refusal :=
  finish (Instr.qflushWalkStep env).wf (s.flushStep env)

/-- POOL_RESET: a write to POOL_RESET (R251). -/
def execPoolReset (m : Master) (arg : List Byte) (s : State) : Host.Outcome State Fault Refusal :=
  finish (Instr.poolReset m arg).wf (s.writeBy m (ekey 0x3000 0x72) arg {})

/-- LS_FILL: a write to LS_FILL (R253). -/
def execLsFill (m : Master) (arg : List Byte) (s : State) : Host.Outcome State Fault Refusal :=
  finish (Instr.lsFill m arg).wf (s.writeBy m (ekey 0x3000 0x74) arg {})

/-- URG_PIN_EDGE: a transition of a synchronized urgency pin (R153). -/
def execUrgPinEdge (pin : Nat) (s : State) : Host.Outcome State Fault Refusal :=
  finish (Instr.urgPinEdge pin).wf (s.urgPinEdge pin)

/-- URG_FILTER_CHANGE: the glitch filter takes a new level (R150). -/
def execUrgFilterChange (pin : Nat) (level : Bool) (s : State) : Host.Outcome State Fault Refusal :=
  finish (Instr.urgFilterChange pin level).wf (s.urgFilter pin level)

/-- URG_STUCK_DETECT: a pin has been asserted for the stuck time (R152). -/
def execUrgStuckDetect (pin : Nat) (s : State) : Host.Outcome State Fault Refusal :=
  finish (Instr.urgStuckDetect pin).wf (s.urgStuck pin)

/-- DELIVERABLE_RECOMPUTE: D is recomputed (R154). -/
def execDeliverableRecompute (s : State) : Host.Outcome State Fault Refusal :=
  finish Instr.deliverableRecompute.wf s.deliverableRecompute

/-- SHORTFALL_CUT: a shortfall is taken from the guarantees (R156). -/
def execShortfallCut (s : State) : Host.Outcome State Fault Refusal :=
  finish Instr.shortfallCut.wf s.shortfallCut

/-- SHARE_RECOMPUTE: the shares are recomputed (R141). -/
def execShareRecompute (s : State) : Host.Outcome State Fault Refusal :=
  finish Instr.shareRecompute.wf s.shareRecompute

/-- ACCT_WINDOW_CLOSE: an accounting window closes (R159). -/
def execAcctWindowClose (bytes held : Unit) (s : State) : Host.Outcome State Fault Refusal :=
  finish (Instr.acctWindowClose bytes held).wf s.acctClose

end Sys2Proof.Machine
end

