-- ==== Sys2Proof/Machine/RowsThermal.lean ====
section
/-!
DEFINITION. RowsThermal: the rows of temperature and cooling (R314–R340), one meaning each. A row whose
operands name nothing on the stack is no event of it, and faults.
-/

namespace Sys2Proof.Machine

/-- CONVERTER_MINOR_CYCLE: a minor cycle of a converter (R317). -/
def execConverterMinorCycle (conv : Nat) (acts : Unit) (s : State) : Host.Outcome State Fault Refusal :=
  finish (Instr.converterMinorCycle conv acts).wf (s.minorCycle conv)

/-- SENSOR_SAMPLE: a sample of a sensor; it may end the hold of a trip (R333) (R318). -/
def execSensorSample (sensor : Nat) (value : Option Int) (windowUs : Nat) (s : State) :
    Host.Outcome State Fault Refusal :=
  finish (Instr.sensorSample sensor value windowUs).wf ((s.sensorSample sensor value windowUs).tryBoot)

/-- ZONE_HOLD_EXPIRY: 10 ms have passed since a zone change (R325). -/
def execZoneHoldExpiry (window : Unit) (s : State) : Host.Outcome State Fault Refusal :=
  finish (Instr.zoneHoldExpiry window).wf s.zoneHoldExpiry

/-- Z2_STEP_PERIOD_EXPIRY: a period of the Z2 step expires (R326). -/
def execZ2StepPeriodExpiry (s : State) : Host.Outcome State Fault Refusal :=
  finish Instr.z2StepPeriodExpiry.wf s.z2Step

/-- STOP_COMPLETE: an orderly stop completes (R328). -/
def execStopComplete (s : State) : Host.Outcome State Fault Refusal :=
  finish Instr.stopComplete.wf s.stopComplete

/-- STOP_TIMEOUT: an orderly stop has not completed in its time (R328). -/
def execStopTimeout (s : State) : Host.Outcome State Fault Refusal :=
  finish Instr.stopTimeout.wf s.stopTimeout

/-- RESUME: a write to RESUME (R330). -/
def execResume (m : Master) (arg : List Byte) (s : State) : Host.Outcome State Fault Refusal :=
  finish (Instr.resume m arg).wf (s.writeBy m (ekey 0x0400 0x10) arg {})

/-- SENSING_FAILURE: sensing fails (R334). -/
def execSensingFailure (conv : Option Nat) (s : State) : Host.Outcome State Fault Refusal :=
  finish (Instr.sensingFailure conv).wf (s.sensingFailure conv)

/-- GROUP_CLEAR: a write to GROUP_CLEAR (R321). -/
def execGroupClear (m : Master) (arg : List Byte) (s : State) : Host.Outcome State Fault Refusal :=
  finish (Instr.groupClear m arg).wf (s.writeBy m (ekey 0x0400 0x12) arg {})

/-- FAN_LOOP_TICK: a tick of the fan loop (R336). -/
def execFanLoopTick (s : State) : Host.Outcome State Fault Refusal :=
  finish Instr.fanLoopTick.wf s.fanLoop

/-- FAN_SPEED_UPDATE: a second of a fan tachometer ends (R335). -/
def execFanSpeedUpdate (fan pulses : Nat) (s : State) : Host.Outcome State Fault Refusal :=
  finish (Instr.fanSpeedUpdate fan pulses).wf (s.fanSpeed fan pulses)

/-- FAN_FAIL_DETECT: a fan fails or recovers (R337). -/
def execFanFailDetect (fan : Nat) (recovered : Bool) (s : State) : Host.Outcome State Fault Refusal :=
  finish (Instr.fanFailDetect fan recovered).wf (s.fanFail fan recovered)

/-- FAN_DUTY_TIMEOUT: no duty has been written for 500 ms (R338). -/
def execFanDutyTimeout (s : State) : Host.Outcome State Fault Refusal :=
  finish Instr.fanDutyTimeout.wf s.fanTimeout

/-- BOARD_SENSOR_SAMPLE: a sample of a board sensor (R339). -/
def execBoardSensorSample (input : Nat) (raw : Option Nat) (s : State) : Host.Outcome State Fault Refusal :=
  finish (Instr.boardSensorSample input raw).wf (s.boardSample input raw)

end Sys2Proof.Machine
end

