-- ==== Sys2Proof/Machine/Dispatch.lean ====
section
/-!
DEFINITION. Dispatch: one arm per row of the table, each one direct call of the row's meaning.
-/

namespace Sys2Proof.Machine

/-- The effect of a command on everything but the queue. -/
def exec (i : Instr) (s : State) : Host.Outcome State Fault Refusal :=
  match i with
  | .entryWrite m key val => Sys2Proof.Machine.execEntryWrite m key val s
  | .mgmtRead link mtag key len => Sys2Proof.Machine.execMgmtRead link mtag key len s
  | .mgmtWrite link mtag key len val => Sys2Proof.Machine.execMgmtWrite link mtag key len val s
  | .commit m arg => Sys2Proof.Machine.execCommit m arg s
  | .discard m arg => Sys2Proof.Machine.execDiscard m arg s
  | .commitApplyBlock b => Sys2Proof.Machine.execCommitApplyBlock b s
  | .profileDrainComplete => Sys2Proof.Machine.execProfileDrainComplete s
  | .frameReceive link lane symbols => Sys2Proof.Machine.execFrameReceive link lane symbols s
  | .frameTransmit link => Sys2Proof.Machine.execFrameTransmit link s
  | .replayTimerExpiry link => Sys2Proof.Machine.execReplayTimerExpiry link s
  | .detectLock link lanes => Sys2Proof.Machine.execDetectLock link lanes s
  | .equalizeDone link => Sys2Proof.Machine.execEqualizeDone link s
  | .alignDone link lanes polInv swap => Sys2Proof.Machine.execAlignDone link lanes polInv swap s
  | .configComplete link => Sys2Proof.Machine.execConfigComplete link s
  | .trainingLimitExpiry link => Sys2Proof.Machine.execTrainingLimitExpiry link s
  | .failedTimeout link => Sys2Proof.Machine.execFailedTimeout link s
  | .recoverComplete link => Sys2Proof.Machine.execRecoverComplete link s
  | .recoverTimeout link => Sys2Proof.Machine.execRecoverTimeout link s
  | .hostIdleReset link => Sys2Proof.Machine.execHostIdleReset link s
  | .laneSignalLoss link lane => Sys2Proof.Machine.execLaneSignalLoss link lane s
  | .laneSerWindowClose link tailA tailB => Sys2Proof.Machine.execLaneSerWindowClose link tailA tailB s
  | .txLaneSwitch link => Sys2Proof.Machine.execTxLaneSwitch link s
  | .linkReset m link arg => Sys2Proof.Machine.execLinkReset m link arg s
  | .rd64 link tag label block => Sys2Proof.Machine.execRd64 link tag label block s
  | .rd128 link tag label block => Sys2Proof.Machine.execRd128 link tag label block s
  | .wr64 link tag label block psn data => Sys2Proof.Machine.execWr64 link tag label block psn data s
  | .wrm link tag label block psn mask data => Sys2Proof.Machine.execWrm link tag label block psn mask data s
  | .fadd32 link tag label block word operand => Sys2Proof.Machine.execFadd32 link tag label block word operand s
  | .swap32 link tag label block word operand => Sys2Proof.Machine.execSwap32 link tag label block word operand s
  | .deq link tag queue => Sys2Proof.Machine.execDeq link tag queue s
  | .peek link tag queue => Sys2Proof.Machine.execPeek link tag queue s
  | .qlen link tag queue => Sys2Proof.Machine.execQlen link tag queue s
  | .enq link tag label len queue psn data => Sys2Proof.Machine.execEnq link tag label len queue psn data s
  | .requestAdmit => Sys2Proof.Machine.execRequestAdmit s
  | .channelEntryExecute ch env => Sys2Proof.Machine.execChannelEntryExecute ch env s
  | .queueCmdPass link env => Sys2Proof.Machine.execQueueCmdPass link env s
  | .enqLink link env => Sys2Proof.Machine.execEnqLink link env s
  | .cacheRefill slice env => Sys2Proof.Machine.execCacheRefill slice env s
  | .cacheSpill slice env => Sys2Proof.Machine.execCacheSpill slice env s
  | .linkBlockEvict slice env => Sys2Proof.Machine.execLinkBlockEvict slice env s
  | .qflush m arg => Sys2Proof.Machine.execQflush m arg s
  | .qflushWalkStep env => Sys2Proof.Machine.execQflushWalkStep env s
  | .poolReset m arg => Sys2Proof.Machine.execPoolReset m arg s
  | .lsFill m arg => Sys2Proof.Machine.execLsFill m arg s
  | .urgPinEdge pin => Sys2Proof.Machine.execUrgPinEdge pin s
  | .urgFilterChange pin level => Sys2Proof.Machine.execUrgFilterChange pin level s
  | .urgStuckDetect pin => Sys2Proof.Machine.execUrgStuckDetect pin s
  | .deliverableRecompute => Sys2Proof.Machine.execDeliverableRecompute s
  | .shortfallCut => Sys2Proof.Machine.execShortfallCut s
  | .shareRecompute => Sys2Proof.Machine.execShareRecompute s
  | .acctWindowClose bytes held => Sys2Proof.Machine.execAcctWindowClose bytes held s
  | .idleTimerExpiry ch => Sys2Proof.Machine.execIdleTimerExpiry ch s
  | .exitCheckEnd ch outside afterFull waitNs lenNs => Sys2Proof.Machine.execExitCheckEnd ch outside afterFull waitNs lenNs s
  | .steepWindowStart row => Sys2Proof.Machine.execSteepWindowStart row s
  | .steepWindowEnd ch outside lenNs => Sys2Proof.Machine.execSteepWindowEnd ch outside lenNs s
  | .refreshDueEvent ch => Sys2Proof.Machine.execRefreshDueEvent ch s
  | .scheduledRefresh row => Sys2Proof.Machine.execScheduledRefresh row s
  | .refreshRateChange ch => Sys2Proof.Machine.execRefreshRateChange ch s
  | .neighbourRefresh row => Sys2Proof.Machine.execNeighbourRefresh row s
  | .regionFill row => Sys2Proof.Machine.execRegionFill row s
  | .rakeStep ch noise env => Sys2Proof.Machine.execRakeStep ch noise env s
  | .rakePassClose ch tailCe tailRows => Sys2Proof.Machine.execRakePassClose ch tailCe tailRows s
  | .rawWrite m arg => Sys2Proof.Machine.execRawWrite m arg s
  | .rawRead m arg => Sys2Proof.Machine.execRawRead m arg s
  | .injCtrlWrite m k val => Sys2Proof.Machine.execInjCtrlWrite m k val s
  | .jointWordFail bundle attempt calib => Sys2Proof.Machine.execJointWordFail bundle attempt calib s
  | .layerFreqWindowClose layer ppm => Sys2Proof.Machine.execLayerFreqWindowClose layer ppm s
  | .layerLossOfLock layer => Sys2Proof.Machine.execLayerLossOfLock layer s
  | .relockAttemptEnd layer locked stopNs => Sys2Proof.Machine.execRelockAttemptEnd layer locked stopNs s
  | .coilSerWindowClose ch tail => Sys2Proof.Machine.execCoilSerWindowClose ch tail s
  | .substitutionWindow row found => Sys2Proof.Machine.execSubstitutionWindow row found s
  | .hopTraining hop fails locked => Sys2Proof.Machine.execHopTraining hop fails locked s
  | .endToEndCheck dead us => Sys2Proof.Machine.execEndToEndCheck dead us s
  | .extensionSlice row found => Sys2Proof.Machine.execExtensionSlice row found s
  | .rowRepair row noise => Sys2Proof.Machine.execRowRepair row noise s
  | .migrationStep row noise => Sys2Proof.Machine.execMigrationStep row noise s
  | .repairRequest m arg => Sys2Proof.Machine.execRepairRequest m arg s
  | .harden m arg env => Sys2Proof.Machine.execHarden m arg env s
  | .evacuate m arg => Sys2Proof.Machine.execEvacuate m arg s
  | .evacTargetReady ok => Sys2Proof.Machine.execEvacTargetReady ok s
  | .evacCopyStep row noise => Sys2Proof.Machine.execEvacCopyStep row noise s
  | .evacChannelSwitch ch => Sys2Proof.Machine.execEvacChannelSwitch ch s
  | .quickTestPhaseEnd found => Sys2Proof.Machine.execQuickTestPhaseEnd found s
  | .quickTestEnd found us => Sys2Proof.Machine.execQuickTestEnd found us s
  | .quickTestTimeLimit => Sys2Proof.Machine.execQuickTestTimeLimit s
  | .tapUpdateIr code => Sys2Proof.Machine.execTapUpdateIr code s
  | .tapBypass => Sys2Proof.Machine.execTapBypass s
  | .tapIdcode => Sys2Proof.Machine.execTapIdcode s
  | .tapSamplePreload pins cells => Sys2Proof.Machine.execTapSamplePreload pins cells s
  | .tapExtest cells => Sys2Proof.Machine.execTapExtest cells s
  | .tapClamp => Sys2Proof.Machine.execTapClamp s
  | .tapHighz => Sys2Proof.Machine.execTapHighz s
  | .tapWrapper core wir => Sys2Proof.Machine.execTapWrapper core wir s
  | .tapLayer layer cfg => Sys2Proof.Machine.execTapLayer layer cfg s
  | .tapVendor code => Sys2Proof.Machine.execTapVendor code s
  | .tapReset => Sys2Proof.Machine.execTapReset s
  | .testHold m arg => Sys2Proof.Machine.execTestHold m arg s
  | .spargeSliceDue ch rails => Sys2Proof.Machine.execSpargeSliceDue ch rails s
  | .spargeEntry ch diffs rereads env => Sys2Proof.Machine.execSpargeEntry ch diffs rereads env s
  | .converterMinorCycle conv acts => Sys2Proof.Machine.execConverterMinorCycle conv acts s
  | .sensorSample sensor value windowUs => Sys2Proof.Machine.execSensorSample sensor value windowUs s
  | .zoneHoldExpiry window => Sys2Proof.Machine.execZoneHoldExpiry window s
  | .z2StepPeriodExpiry => Sys2Proof.Machine.execZ2StepPeriodExpiry s
  | .stopComplete => Sys2Proof.Machine.execStopComplete s
  | .stopTimeout => Sys2Proof.Machine.execStopTimeout s
  | .resume m arg => Sys2Proof.Machine.execResume m arg s
  | .sensingFailure conv => Sys2Proof.Machine.execSensingFailure conv s
  | .groupClear m arg => Sys2Proof.Machine.execGroupClear m arg s
  | .fanLoopTick => Sys2Proof.Machine.execFanLoopTick s
  | .fanSpeedUpdate fan pulses => Sys2Proof.Machine.execFanSpeedUpdate fan pulses s
  | .fanFailDetect fan recovered => Sys2Proof.Machine.execFanFailDetect fan recovered s
  | .fanDutyTimeout => Sys2Proof.Machine.execFanDutyTimeout s
  | .boardSensorSample input raw => Sys2Proof.Machine.execBoardSensorSample input raw s
  | .powerOnReset => Sys2Proof.Machine.execPowerOnReset s
  | .railLoss rail => Sys2Proof.Machine.execRailLoss rail s
  | .railRestart => Sys2Proof.Machine.execRailRestart s
  | .layerSupplyFault layer => Sys2Proof.Machine.execLayerSupplyFault layer s
  | .vddRepPhaseLoss layer => Sys2Proof.Machine.execVddRepPhaseLoss layer s
  | .pmbusPoll replies voutMode rails => Sys2Proof.Machine.execPmbusPoll replies voutMode rails s
  | .pmbusAlert slot statusWord => Sys2Proof.Machine.execPmbusAlert slot statusWord s
  | .avsAdjust slack confirmed => Sys2Proof.Machine.execAvsAdjust slack confirmed s
  | .pmbusRecovery after => Sys2Proof.Machine.execPmbusRecovery after s
  | .powerStateReq m arg => Sys2Proof.Machine.execPowerStateReq m arg s
  | .wakeNAssert => Sys2Proof.Machine.execWakeNAssert s
  | .pwrwarnAssert => Sys2Proof.Machine.execPwrwarnAssert s
  | .pwrwarnClear => Sys2Proof.Machine.execPwrwarnClear s
  | .resetNAssert => Sys2Proof.Machine.execResetNAssert s
  | .resetNRelease maddr => Sys2Proof.Machine.execResetNRelease maddr s
  | .chipReset m arg => Sys2Proof.Machine.execChipReset m arg s
  | .blockReset m arg => Sys2Proof.Machine.execBlockReset m arg s
  | .cdcResync q => Sys2Proof.Machine.execCdcResync q s
  | .clockMonitorWindow errs refclkOk => Sys2Proof.Machine.execClockMonitorWindow errs refclkOk s
  | .refclkReturn us => Sys2Proof.Machine.execRefclkReturn us s
  | .holdoverTimeout => Sys2Proof.Machine.execHoldoverTimeout s
  | .pllLossOfLock pll => Sys2Proof.Machine.execPllLossOfLock pll s
  | .wireFault source on => Sys2Proof.Machine.execWireFault source on s
  | .stickyWrite m source wire val again => Sys2Proof.Machine.execStickyWrite m source wire val again s
  | .stickyClear m wire val => Sys2Proof.Machine.execStickyClear m wire val s
  | .reactionWrite m source val => Sys2Proof.Machine.execReactionWrite m source val s
  | .eventSend link => Sys2Proof.Machine.execEventSend link s
  | .mgmtWdtWarn => Sys2Proof.Machine.execMgmtWdtWarn s
  | .mgmtWdt => Sys2Proof.Machine.execMgmtWdt s
  | .granarySensingEnd sense jointOk => Sys2Proof.Machine.execGranarySensingEnd sense jointOk s
  | .granResense m arg sense => Sys2Proof.Machine.execGranResense m arg sense s
  | .granProgram m arg env => Sys2Proof.Machine.execGranProgram m arg env s
  | .granLock m arg env => Sys2Proof.Machine.execGranLock m arg env s
  | .lcMarkComplete env => Sys2Proof.Machine.execLcMarkComplete env s
  | .lcToField m arg env => Sys2Proof.Machine.execLcToField m arg env s
  | .lcReturn m arg wipeUs env => Sys2Proof.Machine.execLcReturn m arg wipeUs env s
  | .lcVoid m arg env => Sys2Proof.Machine.execLcVoid m arg env s
  | .dictRead count data within stretchUs => Sys2Proof.Machine.execDictRead count data within stretchUs s
  | .dictWrite count data => Sys2Proof.Machine.execDictWrite count data s
  | .dictResult => Sys2Proof.Machine.execDictResult s
  | .busAccessComplete how => Sys2Proof.Machine.execBusAccessComplete how s
  | .busFlagsRead => Sys2Proof.Machine.execBusFlagsRead s
  | .busFlagsWrite data => Sys2Proof.Machine.execBusFlagsWrite data s
  | .windowWrite ptr data => Sys2Proof.Machine.execWindowWrite ptr data s
  | .windowRead ptr n => Sys2Proof.Machine.execWindowRead ptr n s
  | .attentionRead => Sys2Proof.Machine.execAttentionRead s
  | .attentionRequest reply => Sys2Proof.Machine.execAttentionRequest reply s
  | .attentionRetry reply => Sys2Proof.Machine.execAttentionRetry reply s
  | .mbUndefinedCommand code => Sys2Proof.Machine.execMbUndefinedCommand code s
  | .mbProtocolError => Sys2Proof.Machine.execMbProtocolError s
  | .mbTimeout during => Sys2Proof.Machine.execMbTimeout during s
  | .blockResetEnd code inst => Sys2Proof.Machine.execBlockResetEnd code inst s
  | .laneWithoutLock link lane => Sys2Proof.Machine.execLaneWithoutLock link lane s

end Sys2Proof.Machine
end

