-- ==== Sys2Proof/Machine/Step.lean ====
section
/-!
DEFINITION. Step: the block takes the command at the front of its queue; on an empty queue it idles (DESIGN CHOICE, log entry 2).
-/

namespace Sys2Proof.Machine

/-- One step (DESIGN CHOICE, log entry 148). -/
def step (s : State) : Host.Outcome State Fault Refusal :=
  match s.pending with
  | [] => .next s
  | c :: rest => exec c { s with pending := rest }

/-- The state with the command that a word spells at the front of its queue; the table spells none, so it is the state
itself (DESIGN CHOICE, log entry 1). -/
def State.withFetchWord (s : State) (nbits w : Nat) : State :=
  match Sys2Proof.decodeTableWord nbits w with
  | some c => { s with pending := c :: s.pending }
  | none => s

end Sys2Proof.Machine
end

