-- ==== Sys2Proof/Safety.lean ====
section
/-!
DEFINITION. Safety: what the statements call a quiet stack. A command ends with the resets that reports have asked for, the
records that HARDEN_AUTO writes, the steps of a stop and of a power change, the quiet blocks of a commit, and the work that
waits in the engine and at the dictionary (Settle); in a quiet stack none of them waits.
-/

namespace Sys2Proof.Machine

/-- HARDEN_AUTO (R288). -/
def kHardenAuto : Nat := ekey 0x1C00 0x02

/-- Nothing waits at the dictionary or in the engine: no commit applies, no raw access and no access of a link waits, and no cell
has come back (R47, R51, R228, R242). -/
def State.idleWork (s : State) : Bool :=
  decide (s.dict.commit = none) && decide (s.dict.raw = []) && decide (s.dict.held = []) && !s.qe.due

/-- Nothing waits to follow a command: no reset has been asked for, no stop drains, no power state change runs, HARDEN_AUTO is 0, as
it is by default, and no work waits (R288, R328, R354, R381). -/
def State.calm (s : State) : Bool :=
  decide (s.faults.chipReq = []) && decide (s.faults.blockReq = []) && !s.power.changing && !(s.cmd kPower).running &&
    decide (s.rget kHardenAuto = 0) && decide (s.therm.stop ≠ 1) && s.idleWork

/-- The mask of a source asks for no reset: its CHIPRST and BLOCKRST bits are 0 (R381). -/
def State.mild (s : State) (n : Nat) : Bool := !nbit (s.reaction n) 2 && !nbit (s.reaction n) 3

/-! ### A write by a master, in three parts -/

/-- A master's write can be served at once: its link takes messages and none of its accesses waits (R51), or the bus target answers and holds no access (R50). -/
def State.hears (s : State) (m : Master) : Bool :=
  match m with
  | .link n _ => s.takesRequests n && !s.mgmtWaits n
  | .bus => s.busAnswers && s.bus.acc.isNone

/-- The place of a master in the order of dictionary access: the links, then the bus (R149). -/
def State.placeOf (m : Master) : Nat :=
  match m with
  | .link n _ => n
  | .bus => 128

/-- The write is taken: the credits of its message return (R74), or the bus target accepts the access (R433), and the pointer of
dictionary access moves (R51). -/
def State.asks (s : State) (m : Master) (k : Nat) (val : List Byte) : State :=
  (match m with
  | .link n _ => s.returnMgmt n (mgmtFlits val.length)
  | .bus => s.busAccept { read := false, key := k, val := val }).accessBy (State.placeOf m)

/-- The write is answered with a status: a WRITE_RSP on its link (R52), or the result frame of the target (R435). `down` says
that the management processor was in block reset when the write came. -/
def State.tells (s : State) (down : Bool) (m : Master) (k status : Nat) : State :=
  match m with
  | .link n t => s.replyLink down n 0x82 t k status []
  | .bus => s.busDone status []

/-- A write of a CMD entry passes its checks: the master can be served, the entry is there, and the argument has its length
(R37). -/
def State.reaches (s : State) (m : Master) (k : Nat) (arg : List Byte) : Bool :=
  m.wf && s.hears m && decide (s.judge k = 0) && (entryRow k).any (fun r => decide (r.ty = .cmd) && decide (arg.length = r.len))

/-- It is taken up: no invocation runs, and a COMMIT or DISCARD meets no commit (R39, R45). -/
def State.obeys (s : State) (m : Master) (k : Nat) (arg : List Byte) : Bool :=
  s.reaches m k arg && !(s.cmd k).running && (decide (s.dict.commit = none) || (decide (k ≠ kCommit) && decide (k ≠ kDiscard)))

/-- The answer of a write waits for its command: for a COMMIT, and over the bus the access stays (R39, R435). -/
def State.awaits (s : State) (m : Master) : State :=
  match m with
  | .link n t => s.modLink n (fun l => { l with mgmtBy := l.mgmtBy ++ [t] })
  | .bus => { s with bus := { s.bus with acc := s.bus.acc.map (fun x => { x with waits := true }) } }

end Sys2Proof.Machine
end

