-- ==== Sys2Proof/Certificates/Slice0/Obligations.lean ====
section
/-!
DEFINITION. Certificates/Slice0/Obligations: the statements for the provers, by family.
-/

open Sys2Proof Sys2Proof.Machine

/-- The address decode is one-to-one, neighbours lie on consecutive logical channels, and every run of n touches each once: For
every channel map of n different channels: each pair of a logical channel and a channel-local address is the decode of
exactly one valid block address, and each valid address decodes to such a pair; an address at or beyond n × 2^23 decodes to
none; blocks b and b + 1 with the same channel-local address lie on consecutive logical channels, the last followed by the
first; of the n blocks from a multiple of n on, exactly one lies on each logical channel. Turning a location back, from
bank, row and column, gives the one address that decodes to it, and a channel outside the map has none. (R124) -/
def Obligations.AddressMapIsOneToOne : Prop :=
  ∀ (map : List Nat), map.Nodup → map ≠ [] →
    let n := map.length
    (∀ l < n, ∀ h < 2 ^ 23, ∃! b, b < n * 2 ^ 23 ∧ decodeAddr map b = map[l]?.map (fun p => (p, h))) ∧
    (∀ b < n * 2 ^ 23, ∃ l h, l < n ∧ h < 2 ^ 23 ∧ decodeAddr map b = map[l]?.map (fun p => (p, h))) ∧
    (∀ b, n * 2 ^ 23 ≤ b → decodeAddr map b = none) ∧
    (∀ b, b + 1 < n * 2 ^ 23 → b / n = (b + 1) / n → ∃ l < n, decodeAddr map b = map[l]?.map (fun p => (p, b / n)) ∧
      decodeAddr map (b + 1) = map[(l + 1) % n]?.map (fun p => (p, b / n))) ∧
    (∀ a, (a + 1) * n ≤ n * 2 ^ 23 → ∀ l < n, ∃! b, a * n ≤ b ∧ b < (a + 1) * n ∧
      (decodeAddr map b).map Prod.fst = map[l]?) ∧
    (∀ m k w c, m ∈ map → k < 16 → w < 32768 → c < 16 → ∃ b h, encodeAddr map m k w c = some b ∧ b < n * 2 ^ 23 ∧
      decodeAddr map b = some (m, h) ∧ bankOf h = k ∧ rowOf h = w ∧ colOf h = c) ∧
    (∀ m k w c, m ∉ map → encodeAddr map m k w c = none)

/-- DETECT_LOCK, EQUALIZE_DONE, ALIGN_DONE and FAILED_TIMEOUT take a live link one state on and touch nothing else: On a quiet
stack whose link n is live: lock on a lane of LANE_MASK takes a link in DETECT, not idled, with the map built, to EQUALIZE
with the lanes of LANE_MASK and the rate in force; EQUALIZE_DONE takes EQUALIZE to ALIGN; ALIGN_DONE with a lane left by the
profile takes ALIGN to CONFIG with the lanes, polarity and lane order found, the offer of credits settled; FAILED_TIMEOUT
takes FAILED to DETECT, its PRBS started afresh. In RECOVER, EQUALIZE_DONE and ALIGN_DONE on the lanes that the receiver can
use take the link from EQUALIZE to ALIGN and from there to CONFIG. Each next state is given whole, so everything else is
unchanged. (R81; R82; R83; R84; spec/03_host_links.md, Training, Table 9 and Table 10) -/
def Obligations.LinkTrainingAdvances : Prop :=
  ∀ (s : State) (n : Nat), n < 128 → s.calm = true → s.linkLive n = true →
    (∀ lanes, lanes < 4 → s.mapBuilt = true → (s.link n).st = .detect → (s.link n).idled = false →
      lanes &&& s.linkAct n 3 ≠ 0 →
      exec (.detectLock n lanes) s = .next (s.setLink n { s.link n with
        st := .equalize, rxLanes := s.linkAct n 3, halfRate := s.gradeFs || decide (s.profile = .economy),
        rx := { (s.link n).rx with partner := {} }, tx := { (s.link n).tx with step2 := 0, eqPhase := 0 } })) ∧
    ((s.link n).st = .equalize → exec (.equalizeDone n) s = .next (s.setLink n { s.link n with st := .align })) ∧
    (∀ lanes polInv swap, lanes < 4 → polInv < 4 → (s.link n).st = .align →
      s.profileLanes (lanes &&& (s.link n).rxLanes) ≠ 0 →
      exec (.alignDone n lanes polInv swap) s = .next (s.setLink n { s.link n with
        st := .config, rxLanes := s.profileLanes (lanes &&& (s.link n).rxLanes), rxSet := lanes &&& (s.link n).rxLanes,
        polInv := polInv, swap := swap, withheld := s.dict.draining })) ∧
    ((s.link n).st = .failed → exec (.failedTimeout n) s = .next (s.setLink n { s.link n with
      st := .detect, tx := { (s.link n).tx with prbs := 0x1FFF, prbsB := 0x0AAA, eqPhase := 0 } })) ∧
    ((s.link n).st = .recover → (s.link n).phase = 0 →
      exec (.equalizeDone n) s = .next (s.setLink n { s.link n with phase := 1 })) ∧
    (∀ lanes polInv swap, lanes < 4 → polInv < 4 → (s.link n).st = .recover → (s.link n).phase = 1 → s.rxOk n ≠ 0 →
      lanes &&& s.rxOk n = s.rxOk n → exec (.alignDone n lanes polInv swap) s = .next (s.setLink n { s.link n with
        phase := 2, polInv := polInv, swap := swap }))

/-- A training limit or a loss of every lane ends a training in FAILED, recorded, counted and reported: On a quiet stack whose
link n is live and not idled, with TRAIN_FAIL_COUNT below its end and a mask of source 0 that asks for no reset:
TRAINING_LIMIT_EXPIRY takes EQUALIZE, ALIGN and (nothing of the link being admitted) CONFIG to FAILED with causes 1, 2 and
3; ALIGN_DONE and LANE_WITHOUT_LOCK that leave no lane take it there with cause 7. TRAIN_FAIL_COUNT goes up by one, source 0
is reported, and nothing else changes. LANE_WITHOUT_LOCK that leaves a lane only excludes the lane. (R84; R95;
spec/03_host_links.md, Tables 10, 13 and 14) -/
def Obligations.LinkTrainingFails : Prop :=
  ∀ (s : State) (n : Nat), n < 128 → s.calm = true → s.linkLive n = true → s.mild 0 = true →
    s.rget (linkKey n 0x11) + 1 < 2 ^ 32 →
    (∀ c, (s.link n).idled = false →
      ((s.link n).st = .equalize ∧ c = 1) ∨ ((s.link n).st = .align ∧ c = 2) ∨
        ((s.link n).st = .config ∧ s.admitted n = false ∧ c = 3) →
      exec (.trainingLimitExpiry n) s = .next (((s.setLink n { s.link n with st := .failed, cause := c }).rset (linkKey n 0x11)
        (s.rget (linkKey n 0x11) + 1)).report 0 n)) ∧
    (∀ lanes polInv swap, lanes < 4 → polInv < 4 → (s.link n).st = .align →
      s.profileLanes (lanes &&& (s.link n).rxLanes) = 0 →
      exec (.alignDone n lanes polInv swap) s = .next (((s.setLink n { s.link n with st := .failed, cause := 7 }).rset
        (linkKey n 0x11) (s.rget (linkKey n 0x11) + 1)).report 0 n)) ∧
    (∀ lane, lane < 2 → (s.link n).st = .equalize ∨ (s.link n).st = .align → (s.link n).rxLanes.testBit lane = true →
      exec (.laneWithoutLock n lane) s = .next
        (if nset (s.link n).rxLanes lane false = 0 then
          ((s.setLink n { s.link n with st := .failed, cause := 7 }).rset (linkKey n 0x11)
            (s.rget (linkKey n 0x11) + 1)).report 0 n
        else s.setLink n { s.link n with rxLanes := nset (s.link n).rxLanes lane false }))

/-- CONFIG_COMPLETE and RECOVER_COMPLETE bring a link to ACTIVE, with fresh and with kept link-layer state: CONFIG_COMPLETE,
where step 0x02 has been received with acceptable parameters and sent in at least 16 frames, nothing of the link is
admitted, its queues are ready, the map is built and a lane to transmit on is left: the link is ACTIVE with the credits that
the host advertised, nothing stored, sequence number 0, 16 NULL frames and a REPLAY of 0 due, no failed lane;
PARTNER_CREDITS shows the host's credits and TRAIN_COUNT goes up by one. Where the training withheld REQ and QDAT credits,
they are owed while the change of profile still drains, and else granted. RECOVER_COMPLETE, past ALIGN, with the host's step
0x02 received and lanes left on both sides of which the host has given up none in use, keeps the stored frames, sequence
numbers and credits, makes 16 NULL frames and a REPLAY from the oldest stored frame due, and counts RECOVER_COUNT. Nothing
else changes. (R83; R86; R94; R95; spec/03_host_links.md, Training and RECOVER) -/
def Obligations.LinkEntersActive : Prop :=
  ∀ (s : State) (n : Nat), n < 128 → s.calm = true → s.linkLive n = true →
    ((s.link n).st = .config → (s.link n).rx.partner.step = 2 → (s.link n).rx.partner.keep = false →
      s.trainCause (s.link n).rx.partner = 0 → 16 ≤ (s.link n).tx.step2 → s.admitted n = false →
      s.clk.nrLink.getLsbD n = false → s.mapBuilt = true →
      s.profileLanes ((s.link n).rx.partner.rxLanesOk &&& s.linkAct n 3) ≠ 0 →
      s.rget (linkKey n 0x10) + 1 < 2 ^ 32 →
      exec (.configComplete n) s = .next (((s.setLink n { s.link n with
          st := .active, rxFailed := 0, txFailed := 0, trained := true, winA := 0, winB := 0, withheld := false,
          txLanes := s.profileLanes ((s.link n).rx.partner.rxLanesOk &&& s.linkAct n 3), txSet := s.linkAct n 3,
          tx := { nulls := 16, replayHdr := some 0, credRsp := (s.link n).rx.partner.initRsp,
                  credMgmt := (s.link n).rx.partner.initMgmt, credQdat := (s.link n).rx.partner.initQdat },
          rx :=
            let req := if (s.link n).withheld then 1536 else 0
            let qdat := if (s.link n).withheld then (if s.variant = .axd3200 then 0 else 1024) else 0
            let owed := s.dict.draining
            { partner := (s.link n).rx.partner, hostLanes := (s.link n).rx.partner.rxLanesOk,
              owedReq := if owed then req else 0, owedQdat := if owed then qdat else 0,
              retReq := BitVec.ofNat 16 (if owed then 0 else req), retQdat := BitVec.ofNat 16 (if owed then 0 else qdat) } }).rset (linkKey n 0x09)
            ((s.link n).rx.partner.initReq + (s.link n).rx.partner.initRsp * 2 ^ 16 +
              (s.link n).rx.partner.initMgmt * 2 ^ 32 + (s.link n).rx.partner.initQdat * 2 ^ 48)).rset (linkKey n 0x10)
            (s.rget (linkKey n 0x10) + 1))) ∧
    ((s.link n).st = .recover → (s.link n).rx.partner.step = 2 → (s.link n).rx.partner.keep = true →
      (s.link n).rx.partner.protoVer = 1 → (s.link n).rx.partner.role = 0 → 16 ≤ (s.link n).tx.step2 →
      (s.link n).phase = 2 → s.rget (linkKey n 0x12) + 1 < 2 ^ 32 →
      (s.link n).txLanes &&& (3 - (s.link n).rx.partner.rxLanesOk % 4) = 0 →
      let rxLanes := s.profileLanes ((s.link n).rxSet &&& s.linkAct n 3 &&& (3 - (s.link n).rxFailed % 4))
      let txLanes := s.profileLanes ((s.link n).rx.partner.rxLanesOk &&& s.linkAct n 3 &&& (s.link n).txSet &&&
        (3 - (s.link n).txFailed % 4))
      rxLanes ≠ 0 → txLanes ≠ 0 →
      exec (.recoverComplete n) s = .next ((s.setLink n { s.link n with
          st := .active, rxLanes := rxLanes, txLanes := txLanes, halfRate := s.gradeFs || decide (s.profile = .economy),
          tx := { (s.link n).tx with nulls := 16, replay := [], step2 := 0, replayHdr := some (s.link n).tx.oldest },
          rx := { (s.link n).rx with
            hostLanes := (s.link n).rx.partner.rxLanesOk,
            owedReq := if s.dict.draining then (s.link n).rx.owedReq else 0,
            owedQdat := if s.dict.draining then (s.link n).rx.owedQdat else 0,
            retReq := (s.link n).rx.retReq + BitVec.ofNat 16 (if s.dict.draining then 0 else (s.link n).rx.owedReq),
            retQdat := (s.link n).rx.retQdat + BitVec.ofNat 16 (if s.dict.draining then 0 else (s.link n).rx.owedQdat) } }).rset (linkKey n 0x12)
            (s.rget (linkKey n 0x12) + 1)))

/-- RECOVER_TIMEOUT, HOST_IDLE_RESET and LINK_RESET reset their link alone, with causes 0xC, 0xB and 0x9, and discard what Table
12 says: A link in RECOVER whose time has run out, an ACTIVE link whose host idles its transmitters, and a link whose
LINK_RESET is taken up are reset: stored frames, sequence numbers, credits, responses, queued output, messages and accesses
that wait go, the port's holding queue is emptied, the cause is recorded, the failure bits and lane order stay, accepted
ENQs and DEQs go on without an answer, an ENQ partly received goes, and the link's queues are not ready until their
handshake. No other link and no other link's port changes; without an ENQ partly received the engine does not change;
nothing else changes at all. RECOVER_TIMEOUT also reports source 3; LINK_RESET ends with OK (when it ends is the model's
choice, log entry 169) and is answered to its master. (R39; R51; R87; R88; R92; R93; R95; R242; R369; spec/03_host_links.md,
Table 12) -/
def Obligations.LinkResetRestartsLink : Prop :=
  ∀ (s : State) (n : Nat), n < 128 →
    let part := fun (u : State) => (u.link n).enqs.filter (fun j => decide (j.toCome ≠ 0))
    let reset := fun (u t : State) (cause : Nat) =>
      t.link n =
        { st := if u.linkAct n 1 = 0 ∨ u.lc.st = .void then .disabled
            else if (u.link n).qtHeld || u.inReset 0 n then .reset else .detect,
          cause := cause, rxFailed := (u.link n).rxFailed, txFailed := (u.link n).txFailed, polInv := (u.link n).polInv,
          swap := (u.link n).swap, halfRate := (u.link n).halfRate, idled := (u.link n).idled, qtHeld := (u.link n).qtHeld,
          enqs := ((u.link n).enqs.filter (fun x => (part u).all (fun j => decide (x.id ≠ j.id)))).map
            (fun j => { j with silent := true }),
          deqs := (u.link n).deqs.map (fun d => { d with silent := true }) } ∧
      (∀ k, k ≠ n → t.link k = u.link k) ∧ t.port n = {} ∧ (∀ k, k < 128 → k ≠ n → t.port k = u.port k) ∧
      (part u = [] → t.qe = u.qe) ∧
      t = { u with
        links := t.links, ports := t.ports, qe := t.qe
        clk := { u.clk with nrLink := vset u.clk.nrLink n true }
        dict := { u.dict with held := u.dict.held.filter (fun x => decide (x.1 ≠ n)) } }
    (s.linkLive n = true →
      ((s.link n).st = .active → ∃ t, reset s t 0xB ∧ exec (.hostIdleReset n) s = .next t.settle) ∧
      ((s.link n).st = .recover → ∃ t, reset s t 0xC ∧ exec (.recoverTimeout n) s = .next (t.report 3 n).settle)) ∧
    (∀ m, s.obeys m (linkKey n 0x06) [] = true → ∃ t, reset (s.asks m (linkKey n 0x06) []) t 0x9 ∧
      exec (.linkReset m n []) s = .next (State.settle ((t.cmdEnd (linkKey n 0x06) 0).tells s.dict.mpDown m (linkKey n 0x06) 0)))

/-- REPLAY_TIMER_EXPIRY replays from the oldest stored frame up to eight times, then enters RECOVER: On a link in ACTIVE or
LANE_SWITCH with stored frames, the replay count goes up by one; up to 8, a REPLAY from the oldest stored frame becomes due
and any replay in progress is abandoned; above 8, the link enters RECOVER with its stored frames and counters kept. Nothing
else changes. (R78; R86; spec/03_host_links.md, Acknowledgement and replay) -/
def Obligations.ReplayTimerReplaysOrRecovers : Prop :=
  ∀ (s : State) (n : Nat) (f : StoredFrame) (r : List StoredFrame), n < 128 → s.calm = true → s.linkLive n = true →
    (s.link n).st = .active ∨ (s.link n).st = .laneSwitch → (s.link n).tx.stored = f :: r →
    exec (.replayTimerExpiry n) s = .next (s.setLink n
      (if 8 < (s.link n).tx.replayCount + 1 then { s.link n with
        st := .recover, tx := { (s.link n).tx with
          replayCount := (s.link n).tx.replayCount + 1, step2 := 0, nulls := 0, replayHdr := none, replay := [] },
        phase := if (s.link n).halfRate = (s.gradeFs || decide (s.profile = .economy)) then 1 else 0,
        rx := { (s.link n).rx with
          partner := { (s.link n).rx.partner with step := 0 }, locked := false, failStreak := 0, goodStreak := 0 } }
      else { s.link n with tx := { (s.link n).tx with
        replayCount := (s.link n).tx.replayCount + 1, replayHdr := some f.seq, replay := [] } }))

/-- LANE_SIGNAL_LOSS and LANE_SER_WINDOW_CLOSE leave the receiver on the other lane, TX_LANE_SWITCH the transmitter on the lanes
left: On a link in ACTIVE or LANE_SWITCH that receives on both lanes, with a mask of source 1 that asks for no reset and the
counters below their ends: a lane without signal, or one whose corrected symbols exceed LANE_SER_LIMIT while the other's
stay below a sixteenth of it, is declared failed. The receiver goes to the remaining lane and searches for lock, LINK_STATE
reads LANE_SWITCH, the lane's failure bit is set, NAK is set (counted where it was 0) and held, an LCF is due,
LANE_FAIL_COUNT goes up by one and source 1 is reported. A window within the limits only starts the next one with its last
quarter. On a live link in ACTIVE or LANE_SWITCH whose host has cleared the bit of a lane in use, TX_LANE_SWITCH: the lanes
lost are recorded in TX_LANE_FAILED; with a lane left the transmitter uses it, LINK_STATE reads LANE_SWITCH, any replay in
progress is abandoned, and 16 NULL frames and a REPLAY from the oldest stored frame are due; with none left the link enters
RECOVER. LANE_FAIL_COUNT goes up by the number of lanes lost and source 1 is reported. Nothing else changes. (R65; R89; R90;
R91; R95; spec/03_host_links.md, Lane failure and single-lane operation) -/
def Obligations.LaneLossDropsToSingleLane : Prop :=
  (∀ (s : State) (n : Nat), n < 128 → s.calm = true → s.linkLive n = true → s.mild 1 = true →
     (s.link n).st = .active ∨ (s.link n).st = .laneSwitch → (s.link n).rxLanes = 3 →
     s.rget (linkKey n 0x13) + 1 < 2 ^ 32 → s.rget (linkKey n 0x19) + 1 < 2 ^ 32 →
     let lost : State → Nat → State := fun u lane =>
       (((if (s.link n).rx.nak then u else u.rset (linkKey n 0x19) (s.rget (linkKey n 0x19) + 1)).modLink n (fun l => { l with
         rxFailed := nset l.rxFailed lane true, rxLanes := nset l.rxLanes lane false, st := .laneSwitch,
         rx := { l.rx with locked := false, goodStreak := 0, failStreak := 0, discarding := true, nak := true },
         tx := { l.tx with lcfDue := true } })).rset (linkKey n 0x13) (s.rget (linkKey n 0x13) + 1)).report 1 n
     (∀ lane, lane < 2 → exec (.laneSignalLoss n lane) s = .next (lost s lane)) ∧
     (∀ tailA tailB, s.rget (linkKey n 0x0A) ≠ 0 →
       let u := s.modLink n (fun l => { l with winA := Nat.min tailA l.winA, winB := Nat.min tailB l.winB })
       let lim := s.rget (linkKey n 0x0A)
       exec (.laneSerWindowClose n tailA tailB) s = .next
         (if lim < (s.link n).winA ∧ 16 * (s.link n).winB < lim then lost u 0
         else if lim < (s.link n).winB ∧ 16 * (s.link n).winA < lim then lost u 1 else u))) ∧
  (∀ (s : State) (n : Nat), n < 128 → s.calm = true → s.linkLive n = true → s.mild 1 = true →
     (s.link n).st = .active ∨ (s.link n).st = .laneSwitch →
     (s.link n).txLanes &&& (s.link n).rx.hostLanes ≠ (s.link n).txLanes → (s.link n).txLanes < 4 →
     let lost := (s.link n).txLanes - ((s.link n).txLanes &&& (s.link n).rx.hostLanes)
     let k := (if lost.testBit 0 then 1 else 0) + (if lost.testBit 1 then 1 else 0)
     s.rget (linkKey n 0x13) + k < 2 ^ 32 →
     exec (.txLaneSwitch n) s = .next (((s.modLink n (fun l =>
       let left := l.txLanes &&& l.rx.hostLanes
       let l := { l with txFailed := l.txFailed ||| (l.txLanes - left) }
       if left = 0 then { l with
         st := .recover, phase := if l.halfRate = (s.gradeFs || decide (s.profile = .economy)) then 1 else 0,
         tx := { l.tx with step2 := 0, nulls := 0, replayHdr := none, replay := [] },
         rx := { l.rx with partner := { l.rx.partner with step := 0 }, locked := false, failStreak := 0, goodStreak := 0 } }
       else { l with
         txLanes := left, st := .laneSwitch,
         tx := { l.tx with nulls := 16, replayHdr := some l.tx.oldest, replay := [] } })).rset (linkKey n 0x13)
           (s.rget (linkKey n 0x13) + k)).report 1 n))

/-- FRAME_TRANSMIT puts out one frame: idle, a due NULL, a due REPLAY, a frame of the replay, or a new sequenced frame that is
stored: On a quiet stack that is idling nothing: a link in DISABLED, RESET, IDLE or FAILED puts nothing on its lanes. A live
ACTIVE link with NULL frames due sends one NULL control frame; with none due and a REPLAY due it sends the REPLAY control
frame with that REPLAY_SEQ, counted in REPLAY_SENT, and the stored frames from that number on are to follow; with a replay
going on, no LCF wanted and no injection armed for buffers it sends the next of those frames bit for bit, counted in
REPLAY_FRAMES; with none of them, no LCF wanted, fewer than 256 frames stored and at least four flits of a message left, it
sends those four flits as a new sequenced frame, stores them under the next number modulo 512 and counts FRAMES_TX. The
frame is the one that goes on the lanes in use. Nothing else changes. (R65; R66; R70; R76; R78; R79; R81; R95;
spec/03_host_links.md, Table 9) -/
def Obligations.TransmitterSendsOneFrame : Prop :=
  ∀ (s : State) (n : Nat), n < 128 → s.calm = true → s.idling = false →
    let pinned : Link → Bool → List Flit → List (Nat × List Level) := fun l ctrl fs =>
      framePins (mappingOf l.txLanes) (encodeFrame ctrl (mappingOf l.txLanes) fs)
    ((s.link n).st ∈ [.disabled, .reset, .idle, .failed] →
      exec (.frameTransmit n) s = .next (s.modLink n (fun l => { l with tx := { l.tx with pins := [] } }))) ∧
    (s.linkLive n = true → (s.link n).st = .active →
      (∀ k, (s.link n).tx.nulls = k + 1 →
        exec (.frameTransmit n) s = .next (s.modLink n (fun l => { l with tx := { l.tx with
          pins := pinned l true [s.lcf n 0 0 (s.rxOk n), s.lcf n 0 0 (s.rxOk n), s.lcf n 0 0 (s.rxOk n), s.lcf n 0 0 (s.rxOk n)],
          sinceLcf := 0, lcfDue := false, nulls := k } }))) ∧
      (∀ q, (s.link n).tx.nulls = 0 → (s.link n).tx.replayHdr = some q → s.rget (linkKey n 0x1A) + 1 < 2 ^ 32 →
        exec (.frameTransmit n) s = .next ((s.modLink n (fun l => { l with tx := { l.tx with
          pins := pinned l true [s.lcf n 2 q (s.rxOk n), s.lcf n 0 0 (s.rxOk n), s.lcf n 0 0 (s.rxOk n), s.lcf n 0 0 (s.rxOk n)],
          sinceLcf := 0, lcfDue := false, replayHdr := none,
          replay := l.tx.stored.dropWhile (fun f => decide (f.seq ≠ q)) } })).rset (linkKey n 0x1A)
            (s.rget (linkKey n 0x1A) + 1))) ∧
      (∀ f r, (s.link n).tx.nulls = 0 → (s.link n).tx.replayHdr = none → (s.link n).tx.replay = f :: r →
        (s.link n).tx.lcfDue = false → (s.link n).tx.sinceLcf < 15 → nfield (s.rget (ekey 0x1800 0x64)) 63 62 = 0 →
        s.rget (linkKey n 0x1B) + 1 < 2 ^ 64 →
        exec (.frameTransmit n) s = .next ((s.modLink n (fun l => { l with tx := { l.tx with
          pins := pinned l false f.flits, replay := r, sinceLcf := l.tx.sinceLcf + 1 } })).rset (linkKey n 0x1B)
            (s.rget (linkKey n 0x1B) + 1))) ∧
      (∀ f0 f1 f2 f3 r, (s.link n).tx.nulls = 0 → (s.link n).tx.replayHdr = none → (s.link n).tx.replay = [] →
        (s.link n).tx.stored.length < 256 → (s.link n).tx.lcfDue = false → (s.link n).tx.sinceLcf < 15 →
        (s.link n).tx.msg = f0 :: f1 :: f2 :: f3 :: r → s.rget (linkKey n 0x1E) + 1 < 2 ^ 64 →
        exec (.frameTransmit n) s = .next ((s.modLink n (fun l => { l with tx := { l.tx with
          pins := pinned l false [f0, f1, f2, f3], msg := r, msgTags := if r = [] then [] else l.tx.msgTags,
          stored := l.tx.stored ++ [{ seq := l.tx.nextSeq, flits := [f0, f1, f2, f3] }],
          nextSeq := (l.tx.nextSeq + 1) % 512, sinceLcf := l.tx.sinceLcf + 1 } })).rset (linkKey n 0x1E)
            (s.rget (linkKey n 0x1E) + 1))))

/-- EVENT_SEND starts a one-flit message with OPC 0x03 and the event code in STATUS, and takes the code off the pending ones: On
a quiet stack, where a live link in ACTIVE or LANE_SWITCH sends no message, an EVENT is what its tie-breaks choose next and
c is the code that the tie-break by code gives: the message is one flit whose slot 0 is 0x03 in bits 63:56 and the code in
bits 15:0 with zero between them, and whose slots 1 to 3 are zero; c is no longer pending; one MGMT credit is spent; the
three tie-breaks move on. Nothing else changes. (That the event tie-break wraps at 384 is the model's choice, log entry 61.)
(R385; R70; spec/17_faults.md, Pins and in-band events; spec/02_control_dictionary.md, Table 10) -/
def Obligations.EventLeavesAsOneFlitMessage : Prop :=
  ∀ (s : State) (n c : Nat), n < 128 → c < 65536 → s.calm = true → s.linkLive n = true →
    (s.link n).st = .active ∨ (s.link n).st = .laneSwitch → (s.link n).tx.msg = [] →
    (s.link n).next = some (2, .event) → tieBreak (s.link n).tx.eventPtr (s.link n).events = some c →
    exec (.eventSend n) s = .next (s.modLink n (fun l => { l with
      events := l.events.filter (fun x => decide (x ≠ c)),
      tx := { l.tx with vcPtr := 3, mgmtPtr := 0, eventPtr := (c + 1) % 384, credMgmt := l.tx.credMgmt - 1, qdatMsg := false,
                        msgTags := [],
                        msg := [{ s0 := 0x03#8 ++ 0#40 ++ BitVec.ofNat 16 c, s1 := 0, s2 := 0, s3 := 0 }] } }))

/-- FRAME_RECEIVE: a failed frame starts discarding with NAK, a discarded one changes nothing, an accepted one is acknowledged
and its flits taken: On a quiet stack in P0 with an ACTIVE link in frame lock and no injection armed for frames: (1) a frame
that the FEC cannot correct, or one in another mapping than the receiver's that is no TRAIN frame, is counted in
FEC_FRAME_UNCORR; where the link does not yet discard it begins to, with NAK set, counted and due in an LCF; short of the
fourth failure in a row lock stays. (2) A sequenced frame in the mapping in use, received while discarding and with no
STATUS flit, only ends the run of failures. (3) In order, with no duplicate left to skip and no correction or LCF, it is
accepted: its number is acknowledged, the expected number goes up modulo 512, FRAMES_RX counts it, and its flits are taken
in order. Where they are data of a message that is no ENQ and goes on after them, they join the message being received and
nothing else changes. (R64; R65; R77; R80; R95; spec/03_host_links.md, Acknowledgement and replay) -/
def Obligations.ReceiverClassifiesFrames : Prop :=
  ∀ (s : State) (n lane : Nat) (symbols : List Symbol), n < 128 → lane < 3 → symbols.length = 116 → s.calm = true →
    s.linkLive n = true → s.power.st = 0 → (s.link n).st = .active → (s.link n).rx.locked = true →
    nfield (s.rget (ekey 0x1800 0x60)) 63 62 = 0 → nfield (s.rget (ekey 0x1800 0x61)) 63 62 = 0 →
    let r := receiveFrame lane 0 false symbols
    (r = .uncorrectable ∨ (lane ≠ mappingOf (s.link n).rxLanes ∧ r.train = none) → (∀ fixed, r ≠ .badCrc fixed) →
      (s.link n).rx.failStreak + 1 < 4 →
      s.rget (linkKey n 0x17) + 1 < 2 ^ 64 → s.rget (linkKey n 0x19) + 1 < 2 ^ 32 →
      exec (.frameReceive n lane symbols) s = .next
        (if (s.link n).rx.discarding then (s.rset (linkKey n 0x17) (s.rget (linkKey n 0x17) + 1)).modLink n (fun l =>
            { l with rx := { l.rx with failStreak := l.rx.failStreak + 1 } })
        else if (s.link n).rx.nak then (s.rset (linkKey n 0x17) (s.rget (linkKey n 0x17) + 1)).modLink n (fun l =>
            { l with rx := { l.rx with failStreak := l.rx.failStreak + 1, discarding := true } })
        else ((s.rset (linkKey n 0x17) (s.rget (linkKey n 0x17) + 1)).rset (linkKey n 0x19)
            (s.rget (linkKey n 0x19) + 1)).modLink n (fun l =>
            { l with rx := { l.rx with failStreak := l.rx.failStreak + 1, discarding := true, nak := true },
                     tx := { l.tx with lcfDue := true } }))) ∧
    (∀ fs, r = .sequenced fs [] → lane = mappingOf (s.link n).rxLanes →
      ((s.link n).rx.discarding = true → fs.filter statusForm = [] →
        exec (.frameReceive n lane symbols) s = .next (s.modLink n (fun l => { l with rx := { l.rx with failStreak := 0 } }))) ∧
      ((s.link n).rx.discarding = false → (s.link n).rx.skip = 0 → lcfsOf (s.link n).rx.msg fs = [] →
        s.rget (linkKey n 0x1D) + 1 < 2 ^ 64 →
        let taken := fun (msg : List Flit) => (s.modLink n (fun l => { l with rx := { l.rx with
          failStreak := 0, lastAck := l.rx.expected, ackValid := true, expected := (l.rx.expected + 1) % 512, msg := msg } })).rset
            (linkKey n 0x1D) (s.rget (linkKey n 0x1D) + 1)
        exec (.frameReceive n lane symbols) s = .next (State.settle (fs.foldl (State.flitIn n) (taken (s.link n).rx.msg))) ∧
        (∀ h t k, (s.link n).rx.msg = h :: t → opcOf h.s0 ≠ 0x40 → messageFlits h = some k → t.length + 1 + fs.length < k →
          fs.filter statusForm = [] → exec (.frameReceive n lane symbols) s = .next (taken (h :: t ++ fs)))))

/-- ENTRY_WRITE and MGMT_WRITE of an RWS entry change its staging copy and STAGE_GEN alone, and are answered OK: On a quiet
stack with a master that can be served, a write to an RWS entry (the windowed queue limit apart) that its checks let
through, of the entry's length and with a value that its type and chapter define, stores the value without its reserved bits
in the staging copy, increments STAGE_GEN by one with wrap, and is answered with OK. The committed copy and everything else
stay. MGMT_WRITE does the same for its link. (R6; R37; R49; R50; R52; spec/02_control_dictionary.md, Stage and commit) -/
def Obligations.StagedWriteCountsGeneration : Prop :=
  ∀ (s : State) (m : Master) (k : Nat) (r : EntryRow) (val : List Byte) (i : Instr),
    m.wf = true → k < 16777216 → val.length ≤ 240 → s.calm = true → s.hears m = true → s.judge k = 0 →
    entryRow k = some r → r.right = .rws → r.ty ≠ .cmd → k ≠ ekey 0x3100 0x02 → k ≠ kHardenAuto → val.length = r.len →
    typeOk r.ty (bytesNat val) = true → s.valueOk k r (maskOf r (bytesNat val)) = true →
    i = .entryWrite m k val ∨ (∃ n t, m = .link n t ∧ i = .mgmtWrite n t k val.length val) →
    let u := (s.asks m k val).rset k (maskOf r (bytesNat val))
    exec i s = .next ({ u with dict := { u.dict with stageGen := u.dict.stageGen + 1 } }.tells s.dict.mpDown m k 0)

/-- ENTRY_WRITE refused: the first failing check gives its status, and the stack but for the answer is as it was: On a quiet
stack with a master that can be served: a write that the range, gate, absence or availability check stops is answered with
that check's status, but one that binds a link that is not enabled to a host group, or enables it for management, with
INVALID_VALUE 0x0105 in place of ABSENT; one to an RO entry with READ_ONLY 0x0102; one of a wrong length with BAD_LENGTH
0x0104; one whose value is no encoding of the type or none that the chapter defines with INVALID_VALUE 0x0105, in that
order. The next state is the taken and answered write, with no other change. A reserved entry accepts four bytes without
effect and refuses any other length. (R29; R34; R35; R37; R38; R11; spec/02_control_dictionary.md, Tables 2, 3 and 6) -/
def Obligations.RefusedWriteChangesNothing : Prop :=
  ∀ (s : State) (m : Master) (k : Nat) (val : List Byte),
    m.wf = true → k < 16777216 → val.length ≤ 240 → s.calm = true → s.hears m = true →
    let binds := (0x2200 ≤ k / 256 ∧ k / 256 ≤ 0x227F ∧ k % 256 = 1) ∨ (0x0800 ≤ k / 256 ∧ k / 256 ≤ 0x087F ∧ k % 256 = 2)
    (s.judge k ≠ 0 → exec (.entryWrite m k val) s =
      .next ((s.asks m k val).tells s.dict.mpDown m k (if s.judge k = 0x0101 ∧ binds then 0x0105 else s.judge k))) ∧
    (∀ r, s.judge k = 0 → entryRow k = some r → r.ty ≠ .cmd →
      (r.right = .ro → exec (.entryWrite m k val) s = .next ((s.asks m k val).tells s.dict.mpDown m k 0x0102)) ∧
      (r.right ≠ .ro → val.length ≠ r.len →
        exec (.entryWrite m k val) s = .next ((s.asks m k val).tells s.dict.mpDown m k 0x0104)) ∧
      (r.right ≠ .ro → val.length = r.len →
        typeOk r.ty (bytesNat val) = false ∨ s.valueOk k r (maskOf r (bytesNat val)) = false →
        exec (.entryWrite m k val) s = .next ((s.asks m k val).tells s.dict.mpDown m k 0x0105))) ∧
    (s.judge k = 0 → entryRow k = none → k / 256 ≠ 0xF000 →
      exec (.entryWrite m k val) s = .next ((s.asks m k val).tells s.dict.mpDown m k (if val.length = 4 then 0 else 0x0104)))

/-- MGMT_READ returns its credit and queues one READ_RSP on its link; a LEN other than zero is answered MALFORMED: On a quiet
stack, a READ on a link that takes messages, with the management processor running: with LEN 0 one READ_RSP (OPC 0x81) is
queued with the tag, the entry, the status of the first failing check and no value, or, all checks passed and the entry
readable, OK and the entry's bytes; with another LEN one WRITE_RSP with MALFORMED 0x010A and no access. The flits of the
message return as MGMT credits while MGMT_ENABLE is committed. Nothing else changes but the pointer of dictionary access,
which moves past the link: a read has no side effect on the stack. Behind a write whose action still waits the READ is held
(R51). (R36; R38; R50; R51; R52; R74; spec/02_control_dictionary.md, Tables 9 and 10) -/
def Obligations.InBandReadAnswers : Prop :=
  ∀ (s : State) (n mtag k len : Nat), n < 128 → mtag < 256 → k < 16777216 → len < 256 → s.calm = true →
    s.takesRequests n = true → s.dict.mpDown = false →
    (s.mgmtWaits n = true → exec (.mgmtRead n mtag k len) s = .next (State.settle
      { s with dict := { s.dict with held := s.dict.held ++ [(n, .mgmtRead n mtag k len)] } })) ∧
    (s.mgmtWaits n = false →
    let u := (s.returnMgmt n (mgmtFlits len)).accessBy n
    let reply : Nat → Nat → List Byte → State := fun opc st val =>
      u.modLink n (fun l => { l with mgmtOut := l.mgmtOut ++ [mgmtMessage opc mtag k st val] })
    exec (.mgmtRead n mtag k len) s = .next
      (if len ≠ 0 then reply 0x82 0x010A []
      else if s.judge k ≠ 0 then reply 0x81 (s.judge k) []
      else if (entryRow k).any (fun r => decide (r.right = .wo) && decide (r.ty ≠ .cmd)) then reply 0x81 0x0103 []
      else reply 0x81 0 (u.entryBytes k)))

/-- A step takes the command at the front of the queue and is exec of it with the queue's rest; an empty queue idles: For every
command c, every rest of a queue and every state: step on the state whose queue is c before the rest answers what exec
answers for c on the state whose queue is the rest. On an empty queue step answers the same state (the idle step is the
model's choice, log entry 2). (R50; spec/02_control_dictionary.md, Reaching the dictionary) -/
def Obligations.StepRunsTheFrontCommand : Prop :=
  (∀ (s : State) (c : Instr) (rest : List Instr),
    step { s with pending := c :: rest } = exec c { s with pending := rest }) ∧
  (∀ s : State, s.pending = [] → step s = .next s)

/-- Every command whose operands name something on the stack completes with the effect of its row; on a quiet stack nothing
follows it: With no condition but on its operands (that they name a link, a channel, a layer, a slice or a pin of the stack
and lie in the range of their field), every one of the 166 commands answers a next state, from every state: the effect of
its row, which the other statements describe, and what follows from it. A command with other operands faults and does
nothing. What follows is settle: the resets that reports have asked for, the records that HARDEN_AUTO writes, and the steps
of a power change. Where none of the three waits, settle is the identity. A report of a source whose mask asks for no reset
keeps a stack quiet. The statements that give a next state as settle of a state rest on this one for their frames. (R77;
R92; R143; R161; R242; R248; R288; R354; R381; spec/17_faults.md, Reactions; spec/21_command_sequences.md) -/
def Obligations.QuietStackSettles : Prop :=
  let runs := fun (i : Instr) (effect : State → State) => i.wf = true → ∀ s : State, exec i s = .next (effect s).settle
  (∀ s : State, s.calm = true → s.settle = s) ∧
  (∀ (s : State) (n inst : Nat), s.mild n = true → (s.report n inst).calm = s.calm) ∧
  (∀ (i : Instr) (s : State), i.wf = false → exec i s = .fault .badOperand) ∧
  ((∀ (m : Master) (key : Nat) (val : List Byte), runs (.entryWrite m key val) (fun s => s.writeBy m key val {})) ∧
    (∀ (link mtag key len : Nat), runs (.mgmtRead link mtag key len) (fun s => s.mgmtRead link mtag key len)) ∧
    (∀ (link mtag key len : Nat) (val : List Byte), runs (.mgmtWrite link mtag key len val) (fun s => s.mgmtWrite link mtag key len val {})) ∧
    (∀ (m : Master) (arg : List Byte), runs (.commit m arg) (fun s => s.writeBy m kCommit arg {})) ∧
    (∀ (m : Master) (arg : List Byte), runs (.discard m arg) (fun s => s.writeBy m kDiscard arg {})) ∧
    (∀ (b : Block), runs (.commitApplyBlock b) (fun s => s.applyBlock b)) ∧
    (runs .profileDrainComplete (fun s => s.profileDrained)) ∧
    (∀ (link lane : Nat) (symbols : List Symbol), runs (.frameReceive link lane symbols) (fun s => s.frameReceive link lane symbols)) ∧
    (∀ (link : Nat), runs (.frameTransmit link) (fun s => s.frameTransmit link)) ∧
    (∀ (link : Nat), runs (.replayTimerExpiry link) (fun s => s.replayTimer link)) ∧
    (∀ (link lanes : Nat), runs (.detectLock link lanes) (fun s => s.detectLock link lanes)) ∧
    (∀ (link : Nat), runs (.equalizeDone link) (fun s => s.equalizeDone link)) ∧
    (∀ (link lanes polInv : Nat) (swap : Bool), runs (.alignDone link lanes polInv swap) (fun s => s.alignDone link lanes polInv swap)) ∧
    (∀ (link : Nat), runs (.configComplete link) (fun s => s.configComplete link)) ∧
    (∀ (link : Nat), runs (.trainingLimitExpiry link) (fun s => s.trainingLimit link)) ∧
    (∀ (link : Nat), runs (.failedTimeout link) (fun s => s.failedTimeout link)) ∧
    (∀ (link : Nat), runs (.recoverComplete link) (fun s => s.recoverComplete link)) ∧
    (∀ (link : Nat), runs (.recoverTimeout link) (fun s => s.recoverTimeout link)) ∧
    (∀ (link : Nat), runs (.hostIdleReset link) (fun s => s.hostIdleReset link)) ∧
    (∀ (link lane : Nat), runs (.laneSignalLoss link lane) (fun s => s.laneSignalLoss link lane)) ∧
    (∀ (link tailA tailB : Nat), runs (.laneSerWindowClose link tailA tailB) (fun s => s.laneSerWindow link tailA tailB)) ∧
    (∀ (link : Nat), runs (.txLaneSwitch link) (fun s => s.txLaneSwitch link)) ∧
    (∀ (m : Master) (link : Nat) (arg : List Byte), runs (.linkReset m link arg) (fun s => s.writeBy m (linkKey link 0x06) arg {})) ∧
    (∀ (link tag label block : Nat), runs (.rd64 link tag label block)
      (fun s => s.memRequest link { tag := tag, opc := 0x10, cls := s.labelSet label, block := block })) ∧
    (∀ (link tag label block : Nat), runs (.rd128 link tag label block)
      (fun s => s.memRequest link { tag := tag, opc := 0x11, cls := s.labelSet label, block := block })) ∧
    (∀ (link tag label block : Nat) (psn : Bool) (data : BitVec 512), runs (.wr64 link tag label block psn data)
      (fun s => s.memRequest link { tag := tag, opc := 0x12, cls := s.labelSet label, block := block, psn := psn, data := data })) ∧
    (∀ (link tag label block : Nat) (psn : Bool) (mask : BitVec 64) (data : BitVec 512), runs (.wrm link tag label block psn mask data)
      (fun s => s.memRequest link { tag := tag, opc := 0x13, cls := s.labelSet label, block := block, psn := psn, mask := mask, data := data })) ∧
    (∀ (link tag label block word : Nat) (operand : BitVec 32), runs (.fadd32 link tag label block word operand)
      (fun s => s.memRequest link { tag := tag, opc := 0x14, cls := s.labelSet label, block := block, word := word, operand := operand })) ∧
    (∀ (link tag label block word : Nat) (operand : BitVec 32), runs (.swap32 link tag label block word operand)
      (fun s => s.memRequest link { tag := tag, opc := 0x15, cls := s.labelSet label, block := block, word := word, operand := operand })) ∧
    (∀ (link tag queue : Nat), runs (.deq link tag queue) (fun s => s.queueRequest link tag 0x18 queue)) ∧
    (∀ (link tag queue : Nat), runs (.peek link tag queue) (fun s => s.queueRequest link tag 0x19 queue)) ∧
    (∀ (link tag queue : Nat), runs (.qlen link tag queue) (fun s => s.queueRequest link tag 0x1A queue)) ∧
    (∀ (link tag label len queue : Nat) (psn : Bool) (data : List Flit), runs (.enq link tag label len queue psn data)
      (fun s => s.enq link tag label len queue psn data)) ∧
    (runs .requestAdmit (fun s => s.requestAdmit)) ∧
    (∀ (ch : Nat) (env : ChanEnv), runs (.channelEntryExecute ch env) (fun s => s.entryExecute ch env)) ∧
    (∀ (link : Nat) (env : ChanEnv), runs (.queueCmdPass link env) (fun s => s.queuePass link env)) ∧
    (∀ (link : Nat) (env : ChanEnv), runs (.enqLink link env) (fun s => s.enqLink link env)) ∧
    (∀ (slice : Nat) (env : ChanEnv), runs (.cacheRefill slice env) (fun s => s.cacheRefill slice env)) ∧
    (∀ (slice : Nat) (env : ChanEnv), runs (.cacheSpill slice env) (fun s => s.cacheSpill slice env)) ∧
    (∀ (slice : Nat) (env : ChanEnv), runs (.linkBlockEvict slice env) (fun s => s.linkEvict slice env)) ∧
    (∀ (m : Master) (arg : List Byte), runs (.qflush m arg) (fun s => s.writeBy m kFlush arg {})) ∧
    (∀ (env : ChanEnv), runs (.qflushWalkStep env) (fun s => s.flushStep env)) ∧
    (∀ (m : Master) (arg : List Byte), runs (.poolReset m arg) (fun s => s.writeBy m (ekey 0x3000 0x72) arg {})) ∧
    (∀ (m : Master) (arg : List Byte), runs (.lsFill m arg) (fun s => s.writeBy m (ekey 0x3000 0x74) arg {})) ∧
    (∀ (pin : Nat), runs (.urgPinEdge pin) (fun s => s.urgPinEdge pin)) ∧
    (∀ (pin : Nat) (level : Bool), runs (.urgFilterChange pin level) (fun s => s.urgFilter pin level)) ∧
    (∀ (pin : Nat), runs (.urgStuckDetect pin) (fun s => s.urgStuck pin)) ∧
    (runs .deliverableRecompute (fun s => s.deliverableRecompute)) ∧
    (runs .shortfallCut (fun s => s.shortfallCut)) ∧
    (runs .shareRecompute (fun s => s.shareRecompute)) ∧
    (runs (.acctWindowClose () ()) (fun s => s.acctClose)) ∧
    (∀ (ch : Nat), runs (.idleTimerExpiry ch) (fun s => s.idleExpiry ch)) ∧
    (∀ (ch : Nat) (outside afterFull : List Site) (waitNs lenNs : Nat), runs (.exitCheckEnd ch outside afterFull waitNs lenNs)
      (fun s => s.exitCheckEnd ch outside afterFull waitNs lenNs)) ∧
    (∀ (ch : Nat) (env : ChanEnv), runs (.steepWindowStart ⟨ch, env⟩) (fun s => s.steepStart ch env)) ∧
    (∀ (ch : Nat) (outside : List Site) (lenNs : Nat), runs (.steepWindowEnd ch outside lenNs) (fun s => s.steepEnd ch outside lenNs)) ∧
    (∀ (ch : Nat), runs (.refreshDueEvent ch) (fun s => s.refreshDue ch)) ∧
    (∀ (ch : Nat) (env : ChanEnv), runs (.scheduledRefresh ⟨ch, env⟩) (fun s => s.scheduledRefresh ch env)) ∧
    (∀ (ch : Nat), runs (.refreshRateChange ch) (fun s => s.rateChange ch)) ∧
    (∀ (ch : Nat) (env : ChanEnv), runs (.neighbourRefresh ⟨ch, env⟩) (fun s => s.neighbourRefresh ch env)) ∧
    (∀ (ch : Nat) (env : ChanEnv), runs (.regionFill ⟨ch, env⟩) (fun s => s.regionFill ch env)) ∧
    (∀ (ch : Nat) (noise : List Nat) (env : ChanEnv), runs (.rakeStep ch noise env) (fun s => s.rakeStep ch noise env)) ∧
    (∀ (ch tailCe : Nat) (tailRows : List (Nat × Nat)), runs (.rakePassClose ch tailCe tailRows) (fun s => s.rakeClose ch tailCe tailRows)) ∧
    (∀ (m : Master) (arg : List Byte), runs (.rawWrite m arg) (fun s => s.writeBy m (ekey 0x1800 0x85) arg {})) ∧
    (∀ (m : Master) (arg : List Byte), runs (.rawRead m arg) (fun s => s.writeBy m (ekey 0x1800 0x86) arg {})) ∧
    (∀ (m : Master) (k : Nat) (val : List Byte), runs (.injCtrlWrite m k val) (fun s => s.writeBy m (ekey 0x1800 (0x60 + k)) val {})) ∧
    (∀ (bundle attempt : Nat) (calib : Bool), runs (.jointWordFail bundle attempt calib) (fun s => s.jointFail bundle attempt calib)) ∧
    (∀ (layer : Nat) (ppm : Int), runs (.layerFreqWindowClose layer ppm) (fun s => s.layerFreq layer ppm)) ∧
    (∀ (layer : Nat), runs (.layerLossOfLock layer) (fun s => s.layerLoss layer)) ∧
    (∀ (layer : Nat) (locked : Bool) (stopNs : Nat), runs (.relockAttemptEnd layer locked stopNs) (fun s => s.relockEnd layer locked stopNs)) ∧
    (∀ (ch : Nat) (tail : List Nat), runs (.coilSerWindowClose ch tail) (fun s => s.coilSer ch tail)) ∧
    (∀ (ch : Nat) (outside : List Site) (lenNs : Nat) (env : ChanEnv), runs (.substitutionWindow ⟨ch, env⟩ ⟨outside, lenNs⟩)
      (fun s => s.substitutionWindow ch outside lenNs env)) ∧
    (∀ (hop : Nat) (fails : List (Nat × Site)) (locked : Bool), runs (.hopTraining hop fails locked) (fun s => s.hopTraining hop fails locked)) ∧
    (∀ (dead : List (Nat × Site)) (us : Nat), runs (.endToEndCheck dead us) (fun s => s.endToEnd dead us)) ∧
    (∀ (ch : Nat) (fails : List Site) (ok : Bool) (env : ChanEnv), runs (.extensionSlice ⟨ch, env⟩ ⟨fails, ok⟩) (fun s => s.extensionSlice ch fails ok env)) ∧
    (∀ (ch : Nat) (noise : List Nat) (env : ChanEnv), runs (.rowRepair ⟨ch, env⟩ noise) (fun s => s.rowRepair ch noise env)) ∧
    (∀ (ch : Nat) (noise : List Nat) (env : ChanEnv), runs (.migrationStep ⟨ch, env⟩ noise) (fun s => s.migrationStep ch noise env)) ∧
    (∀ (m : Master) (arg : List Byte), runs (.repairRequest m arg) (fun s => s.writeBy m (ekey 0x1C00 0x0D) arg {})) ∧
    (∀ (m : Master) (arg : List Byte) (env : ProgEnv), runs (.harden m arg env) (fun s => s.writeBy m (ekey 0x1C00 0x0E) arg { prog := env })) ∧
    (∀ (m : Master) (arg : List Byte), runs (.evacuate m arg) (fun s => s.writeBy m kEvacuate arg {})) ∧
    (∀ (ok : Bool), runs (.evacTargetReady ok) (fun s => s.evacTargetReady ok)) ∧
    (∀ (ch : Nat) (noise : List Nat) (env : ChanEnv), runs (.evacCopyStep ⟨ch, env⟩ noise) (fun s => s.evacCopyStep ch noise env)) ∧
    (∀ (ch : Nat), runs (.evacChannelSwitch ch) (fun s => s.evacChannelSwitch ch)) ∧
    (∀ (found : QtFound), runs (.quickTestPhaseEnd found) (fun s => s.quickPhase found)) ∧
    (∀ (found : QtFound) (us : Nat), runs (.quickTestEnd found us) (fun s => s.quickEnd found us)) ∧
    (runs .quickTestTimeLimit (fun s => s.quickLimit)) ∧
    (∀ (code : Nat), runs (.tapUpdateIr code) (fun s => s.tapUpdate code)) ∧
    (runs .tapBypass (fun s => s.tapRun 0xFF id)) ∧
    (runs .tapIdcode (fun s => s.tapIdcodeRun)) ∧
    (∀ (pins cells : Nat), runs (.tapSamplePreload pins cells) (fun s => s.tapSample pins cells)) ∧
    (∀ (cells : Nat), runs (.tapExtest cells) (fun s => s.tapExtestRun cells)) ∧
    (runs .tapClamp (fun s => s.tapRun 0x04 id)) ∧
    (runs .tapHighz (fun s => s.tapRun 0x05 id)) ∧
    (∀ (core wir : Nat), runs (.tapWrapper core wir) (fun s => s.tapWrap core wir)) ∧
    (∀ (layer cfg : Nat), runs (.tapLayer layer cfg) (fun s => s.tapLayerRun layer cfg)) ∧
    (∀ (code : Nat), runs (.tapVendor code) (fun s => s.tapVendorRun code)) ∧
    (runs .tapReset (fun s => s.tapTestReset)) ∧
    (∀ (m : Master) (arg : List Byte), runs (.testHold m arg) (fun s => s.writeBy m (ekey 0x4800 0x10) arg {})) ∧
    (∀ (ch : Nat), runs (.spargeSliceDue ch ()) (fun s => s.sliceDue ch)) ∧
    (∀ (ch : Nat) (diffs rereads : List BitAt) (env : ChanEnv), runs (.spargeEntry ch diffs rereads env)
      (fun s => s.spargeEntry ch diffs rereads env)) ∧
    (∀ (conv : Nat), runs (.converterMinorCycle conv ()) (fun s => s.minorCycle conv)) ∧
    (∀ (sensor : Nat) (value : Option Int) (windowUs : Nat), runs (.sensorSample sensor value windowUs)
      (fun s => (s.sensorSample sensor value windowUs).tryBoot)) ∧
    (runs (.zoneHoldExpiry ()) (fun s => s.zoneHoldExpiry)) ∧
    (runs .z2StepPeriodExpiry (fun s => s.z2Step)) ∧
    (runs .stopComplete (fun s => s.stopComplete)) ∧
    (runs .stopTimeout (fun s => s.stopTimeout)) ∧
    (∀ (m : Master) (arg : List Byte), runs (.resume m arg) (fun s => s.writeBy m (ekey 0x0400 0x10) arg {})) ∧
    (∀ (conv : Option Nat), runs (.sensingFailure conv) (fun s => s.sensingFailure conv)) ∧
    (∀ (m : Master) (arg : List Byte), runs (.groupClear m arg) (fun s => s.writeBy m (ekey 0x0400 0x12) arg {})) ∧
    (runs .fanLoopTick (fun s => s.fanLoop)) ∧
    (∀ (fan pulses : Nat), runs (.fanSpeedUpdate fan pulses) (fun s => s.fanSpeed fan pulses)) ∧
    (∀ (fan : Nat) (recovered : Bool), runs (.fanFailDetect fan recovered) (fun s => s.fanFail fan recovered)) ∧
    (runs .fanDutyTimeout (fun s => s.fanTimeout)) ∧
    (∀ (input : Nat) (raw : Option Nat), runs (.boardSensorSample input raw) (fun s => s.boardSample input raw)) ∧
    (runs .powerOnReset (fun s => s.powerOn)) ∧
    (∀ (rail : Rail), runs (.railLoss rail) (fun s => s.railLoss rail)) ∧
    (runs .railRestart (fun s => s.railRestart)) ∧
    (∀ (layer : Nat), runs (.layerSupplyFault layer) (fun s => s.supplyFault layer)) ∧
    (∀ (layer : Nat), runs (.vddRepPhaseLoss layer) (fun s => s.phaseLoss layer)) ∧
    (∀ (replies : List (Option PmbReply)) (voutMode : Nat) (rails : RailReadings), runs (.pmbusPoll replies voutMode rails)
      (fun s => s.pmbusPoll replies voutMode rails)) ∧
    (∀ (slot : Option Nat) (statusWord : Nat), runs (.pmbusAlert slot statusWord) (fun s => s.pmbusAlert slot statusWord)) ∧
    (∀ (slack : Int) (confirmed : Bool), runs (.avsAdjust slack confirmed) (fun s => s.avsAdjust slack confirmed)) ∧
    (∀ (after : Option Nat), runs (.pmbusRecovery after) (fun s => s.pmbusRecovery after)) ∧
    (∀ (m : Master) (arg : List Byte), runs (.powerStateReq m arg) (fun s => s.writeBy m kPower arg {})) ∧
    (runs .wakeNAssert (fun s => s.wakeN)) ∧
    (runs .pwrwarnAssert (fun s => s.pwrwarnOn)) ∧
    (runs .pwrwarnClear (fun s => s.pwrwarnOff)) ∧
    (runs .resetNAssert (fun s => s.resetAssert)) ∧
    (∀ (maddr : Nat), runs (.resetNRelease maddr) (fun s => s.resetRelease maddr)) ∧
    (∀ (m : Master) (arg : List Byte), runs (.chipReset m arg) (fun s => s.writeBy m (ekey 0x0500 0x12) arg {})) ∧
    (∀ (m : Master) (arg : List Byte), runs (.blockReset m arg) (fun s => s.writeBy m (ekey 0x0500 0x13) arg {})) ∧
    (∀ (q : CdcQueue), runs (.cdcResync q) (fun s => s.cdcResync q)) ∧
    (∀ (errs : List Int) (refclkOk : Bool), runs (.clockMonitorWindow errs refclkOk) (fun s => s.clockWindow errs refclkOk)) ∧
    (∀ (us : Nat), runs (.refclkReturn us) (fun s => s.refclkReturn us)) ∧
    (runs .holdoverTimeout (fun s => s.holdoverTimeout)) ∧
    (∀ (pll : Pll), runs (.pllLossOfLock pll) (fun s => s.pllLoss pll)) ∧
    (∀ (source : Nat) (on : Bool), runs (.wireFault source on) (fun s => s.wireFault source on)) ∧
    (∀ (m : Master) (source : Nat) (wire : Bool) (val : List Byte) (again : Option (Nat × Nat)), runs (.stickyWrite m source wire val again)
      (fun s => s.writeBy m (sourceKey source (if wire then 2 else 1)) val { again := again })) ∧
    (∀ (m : Master) (wire : Bool) (val : List Byte), runs (.stickyClear m wire val)
      (fun s => s.writeBy m (ekey 0x4000 (if wire then 0x83 else 0x82)) val {})) ∧
    (∀ (m : Master) (source : Option Nat) (val : List Byte), runs (.reactionWrite m source val)
      (fun s => s.writeBy m (source.elim (ekey 0x4000 0x84) (fun n => sourceKey n 3)) val {})) ∧
    (∀ (link : Nat), runs (.eventSend link) (fun s => s.eventSend link)) ∧
    (runs .mgmtWdtWarn (fun s => s.watchdog 80)) ∧
    (runs .mgmtWdt (fun s => s.watchdog 81)) ∧
    (∀ (sense : List SenseAt) (jointOk : Bool), runs (.granarySensingEnd sense jointOk) (fun s => s.sensingEnd sense jointOk)) ∧
    (∀ (m : Master) (arg : List Byte) (sense : List SenseAt), runs (.granResense m arg sense)
      (fun s => s.writeBy m (ekey 0x5000 0x08) arg { sense := sense })) ∧
    (∀ (m : Master) (arg : List Byte) (env : ProgEnv), runs (.granProgram m arg env) (fun s => s.writeBy m (ekey 0x5000 0x06) arg { prog := env })) ∧
    (∀ (m : Master) (arg : List Byte) (env : ProgEnv), runs (.granLock m arg env) (fun s => s.writeBy m (ekey 0x5000 0x07) arg { prog := env })) ∧
    (∀ (env : ProgEnv), runs (.lcMarkComplete env) (fun s => s.markComplete env)) ∧
    (∀ (m : Master) (arg : List Byte) (env : ProgEnv), runs (.lcToField m arg env) (fun s => s.writeBy m (ekey 0x0200 0x05) arg { prog := env })) ∧
    (∀ (m : Master) (arg : List Byte) (wipeUs : Nat) (env : ProgEnv), runs (.lcReturn m arg wipeUs env)
      (fun s => s.writeBy m (ekey 0x0200 0x06) arg { prog := env, wipeUs := wipeUs })) ∧
    (∀ (m : Master) (arg : List Byte) (env : ProgEnv), runs (.lcVoid m arg env) (fun s => s.writeBy m (ekey 0x0200 0x07) arg { prog := env })) ∧
    (∀ (count : Nat) (data : List Byte) (within : Option BusEnd) (stretchUs : Nat), runs (.dictRead count data within stretchUs)
      (fun s => s.dictRead count data within stretchUs)) ∧
    (∀ (count : Nat) (data : List Byte), runs (.dictWrite count data) (fun s => s.dictWrite count data)) ∧
    (runs .dictResult (fun s => s.dictResult)) ∧
    (∀ (how : BusEnd), runs (.busAccessComplete how) (fun s => s.busComplete how {})) ∧
    (runs .busFlagsRead (fun s => s.flagsRead)) ∧
    (∀ (data : List Byte), runs (.busFlagsWrite data) (fun s => s.flagsWrite data)) ∧
    (∀ (ptr : Nat) (data : List Byte), runs (.windowWrite ptr data) (fun s => s.windowWrite ptr data)) ∧
    (∀ (ptr n : Nat), runs (.windowRead ptr n) (fun s => s.windowRead ptr n)) ∧
    (runs .attentionRead (fun s => s.attentionRead)) ∧
    (∀ (reply : AttnReply), runs (.attentionRequest reply) (fun s => s.attentionRequest reply)) ∧
    (∀ (reply : AttnReply), runs (.attentionRetry reply) (fun s => s.attentionRetry reply)) ∧
    (∀ (code : Nat), runs (.mbUndefinedCommand code) (fun s => s.undefinedCommand code)) ∧
    (runs .mbProtocolError (fun s => s.protocolAbort)) ∧
    (∀ (during : Bool), runs (.mbTimeout during) (fun s => s.busTimeout during)) ∧
    (∀ (code inst : Nat), runs (.blockResetEnd code inst) (fun s => s.endBlockReset code inst)) ∧
    (∀ (link lane : Nat), runs (.laneWithoutLock link lane) (fun s => s.laneWithoutLock link lane)))

/-- A write to a CMD entry that runs is refused with BUSY, one that meets a commit with COMMIT_BUSY, one of a wrong length with
BAD_LENGTH: A write that reaches a CMD entry whose invocation runs is answered BUSY 0x0107; a COMMIT or DISCARD that meets a
commit which is validated or applied is answered COMMIT_BUSY 0x0202; an argument of another length is answered BAD_LENGTH
0x0104. In each case the REFUSED bit of the entry's state word is set, LAST_STATUS and all else stay. (That the length is
judged before BUSY is the model's reading, log entry 23.) (R39; R45; spec/02_control_dictionary.md, Table 3 and Table 4) -/
def Obligations.RunningCommandRefusesAnother : Prop :=
  ∀ (s : State) (m : Master) (k : Nat) (arg : List Byte), k < 16777216 → arg.length ≤ 240 →
    let u := s.asks m k arg
    let refuse : Nat → Host.Outcome State Fault Refusal := fun st =>
      .next (State.settle ((u.setCmd k { s.cmd k with refused := true }).tells s.dict.mpDown m k st))
    (s.reaches m k arg = true → (s.cmd k).running = true → (k = kCommit ∨ k = kDiscard → s.dict.commit = none) →
      exec (.entryWrite m k arg) s = refuse 0x0107) ∧
    (s.reaches m k arg = true → s.dict.commit ≠ none →
      (k = kCommit → exec (.commit m arg) s = refuse 0x0202) ∧ (k = kDiscard → exec (.discard m arg) s = refuse 0x0202)) ∧
    (m.wf = true → s.hears m = true → s.judge k = 0 →
      (∃ r, entryRow k = some r ∧ r.ty = .cmd ∧ arg.length ≠ r.len) → exec (.entryWrite m k arg) s = refuse 0x0104)

/-- DISCARD gives every staging copy its committed value, counts STAGE_GEN once, and changes no committed value: A DISCARD that
is taken up is answered OK with its state word at LAST_STATUS 0. In the state before the answer every staged entry k with
committed copy j reads as j did, every register that is no staging copy reads as before, the staged queue limit sets are the
committed ones, STAGE_GEN has gone up by one, and nothing else has changed. (R15; R44; R253; spec/02_control_dictionary.md,
Stage and commit) -/
def Obligations.DiscardRestoresStaging : Prop :=
  ∀ (s : State) (m : Master) (arg : List Byte), s.obeys m kDiscard arg = true →
    let u := s.asks m kDiscard arg
    ∃ regs : SMap Nat,
      let t : State := { u with
        regs := regs, qe := { u.qe with limitStage := u.qe.limitAct }, dict := { u.dict with stageGen := u.dict.stageGen + 1 } }
      exec (.discard m arg) s = .next (State.settle ((t.cmdEnd kDiscard 0).tells s.dict.mpDown m kDiscard 0)) ∧
      (∀ k j, actKey k = some j → t.rget k = s.rget j) ∧ (∀ k, actKey k = none → t.rget k = s.rget k)

/-- COMMIT is refused whole, STAGE_CHANGED, INCONSISTENT or OVERSUBSCRIBED, or counts COMMIT_SEQ and waits for the blocks of its
set: A COMMIT that is taken up is answered, and recorded in LAST_STATUS, LAST_COMMIT_STATUS and LAST_REFUSED_ENTRY:
STAGE_CHANGED 0x0203 where its argument is neither 0xFFFFFFFF nor STAGE_GEN; INCONSISTENT 0x0201 with the lowest entry that
contradicts its chapter (the lowest is the model's choice, log entry 24), where no failed engine is to be enabled;
OVERSUBSCRIBED 0x0200 with the deciding entry where a set that admission control judges does not fit. No staged or committed
value changes, and COMMIT_SEQ stays. With a fitting generation and a set that is not empty, contradicts nothing, enables no
failed engine, passes admission control and holds neither PROFILE nor EXCLUDE: the set is fixed as the staged values that
differ, every block that holds one of them has still to apply, COMMIT_SEQ goes up by one, the state word runs, and the
answer waits. No table has changed. (R42; R44; R45; R47; R135; R139; R155; R235; spec/02_control_dictionary.md, Stage and
commit) -/
def Obligations.CommitIsRefusedOrStarts : Prop :=
  (∀ (s : State) (m : Master) (arg : List Byte), s.obeys m kCommit arg = true →
     let u := s.asks m kCommit arg
     let record : Nat → Nat → Host.Outcome State Fault Refusal := fun st e =>
       .next (State.settle ((({ u with dict := { u.dict with lastCommit := st, lastRefused := e } }).cmdEnd kCommit st).tells
         s.dict.mpDown m kCommit st))
     let fits := bytesNat arg = 0xFFFFFFFF ∨ bytesNat arg = s.dict.stageGen.toNat
     let engine := s.qe.failed = true ∧ (ekey 0x3000 1, 1) ∈ u.staged
     (¬ fits → exec (.commit m arg) s = record 0x0203 0) ∧
     (∀ k r, fits → ¬ engine → u.contradictions u.staged = k :: r → exec (.commit m arg) s = record 0x0201 k) ∧
     (∀ k, fits → ¬ engine → u.contradictions u.staged = [] → (u.staged.any (fun e => admissionKey e.1)) = true →
       u.overSubscribed (u.staged.any (fun e => decide (e.1 = kProfile))) = some k →
       exec (.commit m arg) s = record 0x0200 k)) ∧
  (∀ (s : State) (m : Master) (arg : List Byte), s.obeys m kCommit arg = true →
     let u := s.asks m kCommit arg
     bytesNat arg = 0xFFFFFFFF ∨ bytesNat arg = s.dict.stageGen.toNat →
     ¬ (u.staged = [] ∧ u.stagedLimits = []) → u.contradictions u.staged = [] →
     ¬ (s.qe.failed = true ∧ (ekey 0x3000 1, 1) ∈ u.staged) →
     ((u.staged.any (fun e => admissionKey e.1)) = true → u.overSubscribed false = none) →
     (∀ e ∈ u.staged, e.1 ≠ kProfile ∧ ¬ (e.1 / 256 < 0x1080 ∧ e.1 % 256 = 0xE2)) →
     exec (.commit m arg) s = .next (State.settle ((({ u with dict := { u.dict with
       commitSeq := u.dict.commitSeq + 1
       commit := some { set := u.staged, limits := u.stagedLimits, answer := some m, since := s.now, left :=
         (u.staged.flatMap (fun (e : Nat × Nat) => u.owners e.1) ++ if u.stagedLimits = [] then [] else [Block.queueEngine]).dedup } } }).cmdStart
           kCommit).awaits m)))

/-- COMMIT_APPLY_BLOCK puts a block's tables of the running commit in force together; the last block completes the COMMIT with
OK: While a commit c is applied and block b (not the stack, whose profile applies by R26) has still to apply: b is done,
every committed copy of an entry of the set whose other blocks have all applied takes the value of the set, no other
register changes by the swap, then the block acts on its new settings; while the management processor is down what it
applies is staged too. A channel applies at its next refresh command, or at once where it issues none. If it was the last
block, the COMMIT completes: state word and LAST_COMMIT_STATUS OK, COMMIT_TIME in ns, and the waiting master is answered. A
block that has nothing to apply, or a channel that is due to refresh but cannot, changes nothing. (R6; R42; R46; R47; R48;
spec/02_control_dictionary.md, Table 8 and Stage and commit) -/
def Obligations.CommitBlockApplies : Prop :=
  ∀ (s : State) (b : Block) (c : CommitRun), b.wf = true → b ≠ .stack → s.dict.commit = some c →
    let quiet := ∀ m, b = .channel m → s.quietBlock b = true ∨ s.chanRefreshes m = true
    (b ∉ c.left ∨ ¬ quiet → exec (.commitApplyBlock b) s = .next s.settle) ∧
    (b ∈ c.left → quiet →
      let left := c.left.filter (fun x => decide (x ≠ b))
      ∃ regs : SMap Nat,
        let t : State := { s with dict := { s.dict with commit := some { c with left := left } }, regs := regs }
        let u := t.afterSwap s c b
        let u := if u.dict.mpDown then u.unstage else u
        let d : State := { u with dict := { u.dict with
          commit := none, commitTime := (u.now - c.since) / 2, lastCommit := 0, lastRefused := 0 } }
        exec (.commitApplyBlock b) s = .next (State.settle
          (if left ≠ [] then u
          else match c.answer with
            | some m => (d.cmdEnd kCommit 0).answerWait m kCommit 0
            | none => d.cmdEnd kCommit 0)) ∧
        (∀ e ∈ c.set, b ∈ s.owners e.1 → (∀ o ∈ s.owners e.1, o ∉ left) →
          (∀ e' ∈ c.set, (actKey e'.1).getD e'.1 = (actKey e.1).getD e.1 → e' = e) → t.rget ((actKey e.1).getD e.1) = e.2) ∧
        (∀ j, (∀ e ∈ c.set, b ∈ s.owners e.1 → (∀ o ∈ s.owners e.1, o ∉ left) → (actKey e.1).getD e.1 ≠ j) →
          t.rget j = s.rget j))

/-- PROFILE_DRAIN_COMPLETE in P0 puts a waiting profile in force and grants the withheld credits: In P0, with credits withheld
for a committed profile that waits (PROFILE_PENDING), no commit running, every holding queue and channel queue empty and no
queue command in work, and no stop or power change: the committed profile is in force, PROFILE_PENDING is clear, credits are
granted again, and every link gets the credits that it was owed, one that retrains only after its training (log entry 41).
Between THROUGHPUT and DETERMINISTIC the links change in nothing else; nothing else of the stack changes. (R26; R27;
spec/01_architecture.md, Table 6) -/
def Obligations.ProfileSwitchesWhenDrained : Prop :=
  ∀ (s : State), s.dict.draining = true → s.dict.profileWait = true → s.dict.commit = none → s.drained = true →
    s.profileMustWait = false → s.power.changing = false → s.power.st = 0 →
    let new := profileOf (s.rget (kProfile + 1))
    (s.profile = .economy ↔ new = .economy) →
    ∃ links : SMap Link,
      let t : State := { s with
        profile := new, links := links, dict := { s.dict with profileWait := false, draining := false } }
      exec .profileDrainComplete s = .next t.settle ∧
      ∀ n, t.link n = if n < enabled s.variant ∧ (s.link n).st ≠ .recover ∧ (s.link n).st ≠ .idle then (s.link n).grantOwed else s.link n

/-- A commit with an empty set returns OK and leaves COMMIT_SEQ unchanged, and repeating it does the same again: A COMMIT that
is taken up with a fitting generation while every staged entry and limit set equals the committed one is answered OK, with
LAST_COMMIT_STATUS OK and no refused entry: COMMIT_SEQ, every staged and committed value, the limit sets and STAGE_GEN are
as before, and the state word does not stand running. Once the values are committed that were staged, the set is empty, so a
repeated commit is such a one. (R43) -/
def Obligations.EmptyCommitIsHarmless : Prop :=
  ∀ (s : State) (m : Master) (arg : List Byte), s.obeys m kCommit arg = true → s.staged = [] → s.stagedLimits = [] →
    bytesNat arg = 0xFFFFFFFF ∨ bytesNat arg = s.dict.stageGen.toNat →
    ∃ t : State, exec (.commit m arg) s = .next (State.settle (t.tells s.dict.mpDown m kCommit 0)) ∧
      t = (({ s.asks m kCommit arg with dict := { (s.asks m kCommit arg).dict with lastCommit := 0, lastRefused := 0 } } : State).cmdEnd kCommit 0) ∧
      t.dict.commitSeq = s.dict.commitSeq ∧ t.dict.stageGen = s.dict.stageGen ∧ t.dict.commit = none ∧ t.regs = s.regs ∧
      t.staged = [] ∧ t.stagedLimits = []

/-- A memory request with a free tag is held at its port with a slot in issue order, or refused with NOEXEC; a bad tag is a
protocol error: On a link that takes requests, RD64, RD128, WR64, WRM, FADD32 or SWAP32 with a tag below 384 that is not
outstanding and that nothing refuses: it joins the end of the port's holding queue with its class, blocks and data, a
completion slot for its channels joins the end of the link's response buffer with one execution to wait for per channel, the
receipt time is recorded, and REQ_OCC_PEAK rises where this is the largest occupancy. The request flit's credit stays out.
Nothing else changes. Where no other request of the same flit is held: a read or write that R107 refuses with a status joins
the response buffer as NOEXEC (OPC 0x9F) with that status and its own OPC in VALUE, and the credits of its flit and of its
data flits return. A tag above 383 or outstanding is a protocol error: counted, the link reset with cause 0x8, source 2
reported. On a link that takes no requests nothing happens. (R98; R101; R105; R106; R107; R108; R109; R110; R111; R113;
R118; spec/04_transactions.md, Request messages and Table 12) -/
def Obligations.MemoryRequestIsHeldOrRefused : Prop :=
  (∀ (s : State) (n tag label block word : Nat) (psn : Bool) (mask : BitVec 64) (data : BitVec 512) (op : BitVec 32)
     (i : Instr) (h : Held),
     n < 128 → label < 256 → block < 2 ^ 30 → word < 16 → s.takesRequests n = true → s.tagOk n tag = true →
     ((i = .rd64 n tag label block ∧ h = { tag := tag, opc := 0x10, cls := s.labelSet label, block := block }) ∨
      (i = .rd128 n tag label block ∧ h = { tag := tag, opc := 0x11, cls := s.labelSet label, block := block }) ∨
      (i = .wr64 n tag label block psn data ∧
         h = { tag := tag, opc := 0x12, cls := s.labelSet label, block := block, psn := psn, data := data }) ∨
      (i = .wrm n tag label block psn mask data ∧
         h = { tag := tag, opc := 0x13, cls := s.labelSet label, block := block, psn := psn, mask := mask, data := data }) ∨
      (i = .fadd32 n tag label block word op ∧
         h = { tag := tag, opc := 0x14, cls := s.labelSet label, block := block, word := word, operand := op }) ∨
      (i = .swap32 n tag label block word op ∧
         h = { tag := tag, opc := 0x15, cls := s.labelSet label, block := block, word := word, operand := op })) →
     s.refuseMem h.blocks = none →
     let t := (({ s with reg := { s.reg with nextGrp := s.reg.nextGrp + 1 } } : State).modLink n (fun l => { l with
         resp := l.resp ++ [{ tag := tag, opc := rspOf h.opc, chans := s.chansOf h, need := (s.chansOf h).length, entered := s.now,
                              cls := some h.cls }] })).modPort n (fun p => { p with
         held := p.held ++ [{ h with grp := s.reg.nextGrp, entered := s.now }] })
     exec i s = .next (State.settle (t.rset (portKey n 4) (Nat.max (s.rget (portKey n 4)) (Nat.min (t.port n).flits 65535))))) ∧
  (∀ (s : State) (n tag label block : Nat) (psn : Bool) (data : BitVec 512), n < 128 → tag < 512 → label < 256 → block < 2 ^ 30 →
     (∀ st, s.takesRequests n = true → s.tagOk n tag = true →
       (∀ h ∈ (s.port n).held, h.grp ≠ s.reg.nextGrp) → (∀ q ∈ (s.port n).qcmds, q.grp ≠ s.reg.nextGrp) →
       s.refuseMem [block] = some st →
       let u := fun (opc : Nat) => ({ s with reg := { s.reg with nextGrp := s.reg.nextGrp + 1 } } : State).modLink n (fun l => { l with
         resp := l.resp ++ [{ tag := tag, opc := 0x9F, status := st, value := BitVec.ofNat 32 opc, entered := s.now }] })
       exec (.rd64 n tag label block) s = .next (State.settle ((u 0x10).returnReq n 1)) ∧
       exec (.wr64 n tag label block psn data) s = .next (State.settle (((u 0x12).returnReq n 2).returnReq n 1))) ∧
     (s.takesRequests n = true → s.tagOk n tag = false →
       exec (.rd64 n tag label block) s =
         .next (State.settle (((s.count (linkKey n 0x1C) 1).linkReset n 0x8).report 2 n))) ∧
     (s.takesRequests n = false → exec (.rd64 n tag label block) s = .next s.settle))

/-- DEQ, PEEK and QLEN wait at their port in order of receipt; a stack without the engine answers UNSUPPORTED: On a link that
takes requests and with a free tag: where nothing refuses queue commands the command joins the end of the port's queue
commands with its tag, OPC and queue, and REQ_OCC_PEAK rises where this is the largest occupancy; where it is refused
(status 5 on an AXD3200, 3 in a stop, a test hold or a block reset of the engine) a NOEXEC with that status joins the
response buffer and the flit's credit returns. Nothing else changes. (R31; R107; R117; R243; spec/04_transactions.md,
Request messages) -/
def Obligations.QueueCommandWaitsAtItsPort : Prop :=
  ∀ (s : State) (n tag q opc : Nat) (i : Instr), n < 128 → q < 65536 → s.takesRequests n = true → s.tagOk n tag = true →
    ((i = .deq n tag q ∧ opc = 0x18) ∨ (i = .peek n tag q ∧ opc = 0x19) ∨ (i = .qlen n tag q ∧ opc = 0x1A)) →
    let s1 : State := { s with reg := { s.reg with nextGrp := s.reg.nextGrp + 1 } }
    (s.refuseQueue = none →
      let t := s1.modPort n (fun p => { p with
        qcmds := p.qcmds ++ [{ tag := tag, opc := opc, queue := q, grp := s.reg.nextGrp }] })
      exec i s = .next (State.settle (t.rset (portKey n 4) (Nat.max (s.rget (portKey n 4)) (Nat.min (t.port n).flits 65535))))) ∧
    (∀ st, s.refuseQueue = some st → (∀ h ∈ (s.port n).held, h.grp ≠ s.reg.nextGrp) →
      (∀ x ∈ (s.port n).qcmds, x.grp ≠ s.reg.nextGrp) →
      exec i s = .next (State.settle ((s1.modLink n (fun l => { l with resp := l.resp ++
        [{ tag := tag, opc := 0x9F, status := st, value := BitVec.ofNat 32 opc, entered := s.now }] })).returnReq n 1)))

/-- ENQ reserves its cells and waits for them, or is dropped QUEUE_FULL or NO_RESOURCE, or is refused, as R241 judges it: On a
link that takes requests and receives no other ENQ, with a free tag, a LEN of 1 to 16,384 and no injected fault in the queue
state: an ENQ that R241 accepts passes the queue's lock, reserves its cells in its queue and slice, joins the link's ENQs,
returns the header's credit, and takes its data flits one after another, filling cells as they come, until its last flit
gives it its place in the order of linking; one that R241 drops is counted (ENQ_DROP_LIMIT, ENQ_DROP_POOL), answered with
its status and returns all its credits; one that queue commands refuse is answered NOEXEC, its credits returning where an
engine is present. Nothing else changes. (R99; R106; R148; R241; R247; spec/10_queue_engine.md, ENQ) -/
def Obligations.EnqIsTakenDroppedOrRefused : Prop :=
  ∀ (s : State) (n tag label len q : Nat) (psn : Bool) (data : List Flit), n < 128 → label < 256 → q < 65536 →
    s.takesRequests n = true → s.tagOk n tag = true → 0 < len → len ≤ 16384 → data.length = packetFlits len →
    (s.link n).enqIn = none → nfield (s.rget (ekey 0x1800 0x64)) 63 62 = 0 →
    let u := s.locked n q 1
    (s.refuseQueue = none → s.enqFate q len = none →
      let t := ((u.newGroup.2.modQueue q (fun x => { x with reserved := x.reserved + packetCells len })).modSlice (s.sliceOf q)
        (fun y => { y with reserved := y.reserved + packetCells len })).modLink n (fun l => { l with enqs := l.enqs ++
          [{ tag := tag, label := label, len := len, queue := q, cells := [], writesLeft := 0, psn := psn, id := s.reg.nextGrp,
             toCome := packetFlits len }] })
      let t := t.modLink n (fun l => { l with enqIn := some { tag := tag, job := some s.reg.nextGrp } })
      exec (.enq n tag label len q psn data) s = .next (State.settle
        ((data.foldl (fun v f => v.enqFlit n f) (t.returnQdat n 1)).enqEnd n))) ∧
    (∀ st, s.refuseQueue = none → s.enqFate q len = some st →
      exec (.enq n tag label len q psn data) s = .next (State.settle
        (((u.count (ekey 0x3000 (if st = 6 then 0x91 else 0x92)) 1).modLink n (fun l => { l with
          resp := l.resp ++ [{ tag := tag, opc := 0x9A, status := st, entered := s.now }] })).returnQdat n (1 + packetFlits len)))) ∧
    (∀ st, s.refuseQueue = some st →
      let t := s.modLink n (fun l => { l with
        resp := l.resp ++ [{ tag := tag, opc := 0x9F, status := st, value := 0x40, entered := s.now }] })
      exec (.enq n tag label len q psn data) s = .next (State.settle
        (if s.variant = .axd3200 then t else t.returnQdat n (1 + packetFlits len))))

/-- Every request row is the arrival of its own message, no operand is lost in the encoding, and the header fixes the length:
The ten request rows are encoded as Tables 2 to 5 lay out their slots: OPC, TAG, LABEL, PSN, WORD, BLOCK, BYTE_MASK,
OPERAND, LEN and QUEUE, and data as flits. For every well-formed request row and every operand: on a link that takes
requests the row does exactly what the arrival of that message does, and of an ENQ, on a link that receives no other, what
its header flit, its data flits one after another and its end do; the header flit announces the length of the message, but
an ENQ of 0 or more than 16384 bytes is no valid header and the row resets the link; and two request rows with the same
message are the same row. On a link that takes no requests the row changes nothing. (R97; R98; R99; R100; R105; R112;
spec/04_transactions.md, Request messages) -/
def Obligations.RequestRowsAreMessages : Prop :=
  (∀ (s : State) (i : Instr) (n : Nat) (fs : List Flit), i.wf = true → requestFlits i = some (n, fs) →
    let h := fs.headD {}
    (opcOf h.s0 ≠ 0x40 → exec i s = .next (State.settle (if s.takesRequests n then s.message n fs else s))) ∧
    (opcOf h.s0 = 0x40 → (s.link n).enqIn = none → exec i s = .next (State.settle
      (if s.takesRequests n = false then s
       else if s.headerOk n h && (messageFlits h).isSome then
         (fs.tail.foldl (fun u f => u.enqFlit n f) (s.enqHeader n h)).enqEnd n
       else s.protocolError n))) ∧
    ((∀ tag label len queue psn data, i = .enq n tag label len queue psn data → 0 < len ∧ len ≤ 16384) →
      messageFlits h = some fs.length) ∧
    (∀ tag label len queue psn data, i = .enq n tag label len queue psn data → len = 0 ∨ 16384 < len →
      messageFlits h = none)) ∧
  (∀ (i j : Instr) (x : Nat × List Flit), i.wf = true → j.wf = true → requestFlits i = some x → requestFlits j = some x → i = j)

/-- QUEUE_CMD_PASS executes the oldest queue command of a port: lengths, the head packet's label and LEN, or QUEUE_EMPTY: The
engine serves, the oldest queue command waits at its port with a request flit of its own and wins the lock of its queue, the
queue's state word reads without error and, for a DEQ, the QDAT output buffer has room for the largest answer: the command
leaves the port, its credit returns, the queue's lock passes. QLEN answers packets and cells. PEEK answers status 8 on an
empty queue, and label and LEN of the head packet where its link entry is cached and trusted (read without error, on no
retired channel). DEQ of an empty queue is counted and answered with status 8. Nothing else changes. (R75; R101; R117; R148;
R243; spec/10_queue_engine.md, DEQ, PEEK and QLEN) -/
def Obligations.QueueCommandIsExecuted : Prop :=
  ∀ (s : State) (n : Nat) (env : ChanEnv) (c : QCmd) (rest : List QCmd), n < 128 → env.wf = true → env.sramBad = false →
    (s.port n).qcmds = c :: rest → (∀ h ∈ (s.port n).held, h.grp ≠ c.grp) → (∀ x ∈ rest, x.grp ≠ c.grp) →
    s.engineRuns = true → (c.opc = 0x18 → (s.link n).qdatUsed + 513 ≤ 1024) → s.winsLock n c.queue 0 = true →
    nfield (s.rget (ekey 0x1800 0x64)) 63 62 = 0 →
    let q := c.queue
    let t := ((s.modPort n (fun p => { p with qcmds := rest })).returnReq n 1).locked n q 0
    let answer := fun (u : State) (r : Resp) => State.settle (u.modLink n (fun l => { l with resp := l.resp ++ [r] }))
    (c.opc = 0x1A → exec (.queueCmdPass n env) s = .next (answer t
      { tag := c.tag, opc := 0x99, entered := s.now, packets := (s.queue q).packets, cells := (s.queue q).cells })) ∧
    (c.opc = 0x19 → (s.queue q).packets = 0 →
      exec (.queueCmdPass n env) s = .next (answer t { tag := c.tag, opc := 0x98, status := 8, entered := s.now })) ∧
    (c.opc = 0x18 → (s.queue q).packets = 0 →
      exec (.queueCmdPass n env) s = .next (State.settle ((t.count (ekey 0x3000 0x94) 1).modLink n (fun l => { l with
        qout := l.qout ++ [{ tag := c.tag, status := 8, queue := q }] })))) ∧
    (∀ b, c.opc = 0x19 → (s.queue q).packets ≠ 0 →
      let i := s.sliceOf q
      let cell := (s.queue q).head - i * s.poolK
      let addr := s.linkBlock i cell
      (s.slice i).blocks.find? (fun y => decide (y.addr = addr)) = some b → b.poisoned = false → s.blockLost addr = false →
      let e := (b.entries.getD (cell % 8) 0).toNat
      exec (.queueCmdPass n env) s = .next (answer
        (t.modSlice i (fun y => { y with blocks := b :: y.blocks.filter (fun z => decide (z.addr ≠ addr)) }))
        { tag := c.tag, opc := 0x98, entered := s.now, value := BitVec.ofNat 32 (nfield e 31 24 * 2 ^ 16 + nfield e 22 8) }))

/-- ENQ_LINK makes the written packet of one cell the head and tail of its empty queue and answers ENQ_RSP with OK: The engine
serves, the oldest ENQ of the link that can link has one cell, all its flits and all its cell writes, it is its turn and it
wins the lock of its queue, which is empty and reads without error, and where its link entry is not yet written the link
block of the cell is cached: the link entry (FIRST, LAST, label, LEN) is written then, the queue has its head and tail at
the cell, one cell and one packet more and one reserved cell less, the slice's reserved cell is linked, ENQ_COUNT goes up,
the ENQ leaves its link and ENQ_RSP with status 0 joins the response buffer (none for a link that was reset). Nothing else
changes. (R99; R102; R242; R246; R249; spec/10_queue_engine.md, ENQ and Table 3) -/
def Obligations.EnqLinkPutsThePacketAtTheTail : Prop :=
  ∀ (s : State) (n : Nat) (env : ChanEnv) (j : EnqJob) (cell : Nat) (b : LinkBlk), n < 128 → env.wf = true →
    env.sramBad = false → s.engineRuns = true → nfield (s.rget (ekey 0x1800 0x64)) 63 62 = 0 →
    nextJob [] (s.link n).enqs = some j → s.linkTurn j = true → s.winsLock n j.queue 1 = true →
    (s.link n).enqs.find? (fun x => decide (x.id = j.id)) = some j → j.cells = [cell] → j.chained ≤ 1 →
    packetCells j.len = 1 → (s.queue j.queue).packets = 0 →
    let i := s.sliceOf j.queue
    let addr := s.linkBlock i cell
    (j.chained = 0 → (s.slice i).blocks.find? (fun y => decide (y.addr = addr)) = some b) →
    let entry := BitVec.ofNat 64 (2 ^ 35 + 2 ^ 34 + j.label * 2 ^ 24 + j.len * 2 ^ 8)
    let b' : LinkBlk := { b with
      entries := b.entries.set (cell % 8) entry, written := nset b.written (cell % 8) true, dirty := true }
    ∃ t : State, exec (.enqLink n env) s = .next t.settle ∧
      t.slice i = { s.slice i with
        blocks := if j.chained = 0 then b' :: (s.slice i).blocks.filter (fun z => decide (z.addr ≠ addr)) else (s.slice i).blocks
        reserved := (s.slice i).reserved - 1, linked := (s.slice i).linked + 1 } ∧
      (∀ i', i' ≠ i → t.slice i' = s.slice i') ∧
      t.queue j.queue = { s.queue j.queue with
        head := i * s.poolK + cell, tail := i * s.poolK + cell, cells := (s.queue j.queue).cells + 1, packets := 1
        reserved := (s.queue j.queue).reserved - 1, lockPtr := (n + 1) % 128 } ∧
      (∀ q', q' ≠ j.queue → t.queue q' = s.queue q') ∧
      t.link n = { s.link n with
        sidePtr := 0, enqs := (s.link n).enqs.filter (fun y => decide (y.id ≠ j.id))
        resp := (s.link n).resp ++ if j.silent then [] else [{ tag := j.tag, opc := 0x9A, entered := s.now }] } ∧
      (∀ m, m ≠ n → t.link m = s.link m) ∧ (∀ k, k ≠ ekey 0x3000 0x90 → t.rget k = s.rget k) ∧
      { s with
        links := t.links, regs := t.regs, free := t.free
        qe := { s.qe with queues := t.qe.queues, slices := t.qe.slices } } = t

/-- CACHE_REFILL, CACHE_SPILL and LINK_BLOCK_EVICT move sixteen pointers, or one link block, between a cache and memory: In a
slice that is present, with the engine serving and a pool: a refill below 1,024 pointers with an empty stack takes the
sixteen cells after the fresh mark on top of the cache, and one with a stack takes the sixteen pointers of its top block,
or, where the last stack block reads poisoned, loses those cells and takes sixteen after the fresh mark; a spill above 3,072
pointers writes the sixteen oldest to the next stack block and counts SPILL_COUNT; an eviction from a full link-block cache
drops its least recently used block, and writes a dirty one back whole, poisoned where it was read poisoned and not
rewritten whole. An access that has to wait leaves the pointers, or the block, where they are, and ENQs that wait for cells
go on. Where the conditions fail nothing happens. (R238; R239; R246; R248; R250; spec/10_queue_engine.md, Free cells) -/
def Obligations.PointerCachesMoveSixteen : Prop :=
  ∀ (s : State) (i : Nat) (env : ChanEnv), i < 8 → env.wf = true →
    let y := s.slice i
    let x0 : Eng := { s := s, env := env }
    ((s.engineRuns && decide (i < slices s.variant)) = true →
      (s.poolK ≠ 0 → y.cache.length < 1024 → y.stack < 16 → y.fresh < s.poolK →
        exec (.cacheRefill i env) s = .next (State.settle ((s.modSlice i (fun z => { z with
          cache := (List.range 16).map (· + y.fresh) ++ z.cache, fresh := z.fresh + 16 })).feedJobs i))) ∧
      (s.poolK ≠ 0 → y.cache.length < 1024 → 16 ≤ y.stack →
        let r := x0.read i (s.stackBlock i (y.stack / 16 - 1))
        let u := r.2.s.count (ekey 0x3000 0x9A) 1
        (r.2.stall = true → exec (.cacheRefill i env) s = .next (State.settle (r.2.s.feedJobs i))) ∧
        (r.2.stall = false → r.1.poisoned = false →
          exec (.cacheRefill i env) s = .next (State.settle ((u.modSlice i (fun z => { z with
            stack := z.stack - 16, cache :=
              ((List.range 16).map (fun j => nfield r.1.data (32 * j + 31) (32 * j))).reverse ++ z.cache })).feedJobs i))) ∧
        (r.2.stall = false → r.1.poisoned = true → y.stack < 32 → (u.slice i).stack = y.stack → (u.slice i).fresh < u.poolK →
          exec (.cacheRefill i env) s = .next (State.settle ((u.modSlice i (fun z => { z with
            stack := z.stack - 16, lost := z.lost + 16,
            cache := (List.range 16).map (· + z.fresh) ++ z.cache, fresh := z.fresh + 16 })).feedJobs i)))) ∧
      (3072 < y.cache.length →
        let d := ((y.cache.drop (y.cache.length - 16)).reverse).foldr (fun p acc => p + 2 ^ 32 * acc) 0
        let x := x0.write i (s.stackBlock i (y.stack / 16)) d false
        exec (.cacheSpill i env) s = .next (State.settle (State.feedJobs (if x.stall then x.s
          else (x.s.count (ekey 0x3000 0x9B) 1).modSlice i (fun z => { z with
            cache := z.cache.take (y.cache.length - 16), stack := z.stack + 16 })) i))) ∧
      (∀ b, 2048 ≤ y.blocks.length → y.blocks.getLast? = some b →
        let x := x0.write i b.addr (blockOf b.entries) (b.poisoned && decide (b.written ≠ 255))
        let less := fun (t : State) => t.modSlice i (fun z => { z with blocks := z.blocks.dropLast })
        exec (.linkBlockEvict i env) s = .next (State.settle
          (if b.dirty = false then less s
           else if x.stall then x.s else (less x.s).count (ekey 0x3000 0x99) 1)))) ∧
    ((s.engineRuns && decide (i < slices s.variant)) = false →
      exec (.cacheRefill i env) s = .next s.settle ∧ exec (.cacheSpill i env) s = .next s.settle ∧
      exec (.linkBlockEvict i env) s = .next s.settle)

/-- QFLUSH and its walk steps return every cell of a queue; POOL_RESET empties an unused pool; LS_FILL stages a limit set for a
range: A QFLUSH that is taken up, outside a block reset of the engine, empties the queue (its reserved cells stay) and
clears BROKEN; without cells, or without a pool, the command ends with OK; else its cells are awaiting return, the walk
stands at the head and the state word runs. A walk step with the engine serving, a cache that is not full and no cell
waiting for it: with one cell left it returns that cell to the top of the cache, ends the flush with OK and starts ENQs that
waited; with more left and the cell's link entry cached and trusted (on no retired channel) it returns the cell and goes on
at the entry's NEXT. POOL_RESET, outside a block reset of the engine, with QE_ENABLE 0, no flush running and no queue
holding a packet or a cell: every slice starts afresh, every queue is empty and not BROKEN and keeps its lock pointer, and
the command ends with OK; otherwise it is refused with PRECONDITION 0x0109 and only its REFUSED bit is set. LS_FILL with
first ≤ last and a set of at most 15 gives every queue of the range that staged set, leaves every other queue's, counts
STAGE_GEN once and ends with OK; other arguments are refused with INVALID_VALUE 0x0105. (R39; R244; R249; R251; R253;
spec/10_queue_engine.md, QFLUSH; spec/10_queue_engine.md, Entries) -/
def Obligations.QueueFlushPoolResetAndLimitFill : Prop :=
  (∀ (s : State),
     (∀ (m : Master) (arg : List Byte), s.obeys m kFlush arg = true → s.inReset 2 0 = false →
       let q := bytesNat arg
       let x := s.queue q
       let u := (s.asks m kFlush arg).setQueue q { x with head := 0, tail := 0, cells := 0, packets := 0, broken := false }
       exec (.qflush m arg) s = .next (State.settle ((
         if s.poolK = 0 ∨ x.cells = 0 then u.cmdEnd kFlush 0
         else
           let v := u.modSlice (s.sliceOf q) (fun y => { y with linked := y.linked - x.cells, awaiting := y.awaiting + x.cells })
           ({ v with qe := { v.qe with flush := some { slice := s.sliceOf q, cell := x.head, left := x.cells } } }).cmdStart
             kFlush).tells s.dict.mpDown m kFlush 0))) ∧
     (∀ (env : ChanEnv) (f : Flush), env.wf = true → s.engineRuns = true → s.qe.flush = some f →
       (s.slice f.slice).cache.length < 4096 → (s.slice f.slice).backlog = [] →
       let l := f.cell - f.slice * s.poolK
       let give := fun (t : State) => (t.modSlice f.slice (fun y => { y with cache := l :: y.cache })).modSlice f.slice
         (fun y => { y with awaiting := y.awaiting - 1 })
       (f.left ≤ 1 →
         let t := give s
         exec (.qflushWalkStep env) s = .next (State.settle
           ((({ t with qe := { t.qe with flush := none } }).cmdEnd kFlush 0).feedJobs f.slice))) ∧
       (∀ b, 1 < f.left → (s.slice f.slice).blocks.find? (fun y => decide (y.addr = s.linkBlock f.slice l)) = some b →
         b.poisoned = false → s.blockLost (s.linkBlock f.slice l) = false →
         let t := give (s.modSlice f.slice (fun y => { y with
           blocks := b :: y.blocks.filter (fun z => decide (z.addr ≠ s.linkBlock f.slice l)) }))
         exec (.qflushWalkStep env) s = .next (State.settle (({ t with qe := { t.qe with flush := some { f with
           cell := leNext (b.entries.getD (l % 8) 0), left := f.left - 1 } } }).feedJobs f.slice))))) ∧
  (∀ (s : State) (m : Master) (arg : List Byte),
     (let k := ekey 0x3000 0x72
      let u := s.asks m k arg
      let used := s.qeSet 1 ≠ 0 ∨ s.qe.flush ≠ none ∨
        ∃ e ∈ s.qe.queues, e.2.packets ≠ 0 ∨ e.2.cells ≠ 0 ∨ e.2.reserved ≠ 0
      s.obeys m k arg = true → s.inReset 2 0 = false →
       (used → exec (.poolReset m arg) s =
         .next (State.settle ((u.setCmd k { s.cmd k with refused := true }).tells s.dict.mpDown m k 0x0109))) ∧
       (¬ used → ∃ queues : SMap Queue,
         let t : State := { u with qe := { u.qe with slices := [], queues := queues } }
         exec (.poolReset m arg) s = .next (State.settle ((t.cmdEnd k 0).tells s.dict.mpDown m k 0)) ∧
         (mwf (fun _ => {}) s.qe.queues = true → ∀ q, t.queue q = { lockPtr := (s.queue q).lockPtr }))) ∧
     (let k := ekey 0x3000 0x74
      let u := s.asks m k arg
      let first := bytesNat arg % 65536
      let last := bytesNat arg / 65536 % 65536
      let set := bytesNat arg / 2 ^ 32
      s.obeys m k arg = true →
       (last < first ∨ 15 < set → exec (.lsFill m arg) s =
         .next (State.settle ((u.setCmd k { s.cmd k with refused := true }).tells s.dict.mpDown m k 0x0105))) ∧
       (first ≤ last → set ≤ 15 → mwf (fun _ => 0) s.qe.limitStage = true → ∃ stage : SMap Nat,
         let t : State := { u with
           qe := { u.qe with limitStage := stage }, dict := { u.dict with stageGen := u.dict.stageGen + 1 } }
         exec (.lsFill m arg) s = .next (State.settle ((t.cmdEnd k 0).tells s.dict.mpDown m k 0)) ∧
         ∀ q, mget 0 stage q = if first ≤ q ∧ q ≤ last then set else mget 0 s.qe.limitStage q)))

/-- URG_PIN_EDGE, URG_FILTER_CHANGE and URG_STUCK_DETECT move a pin's synchronized level, its filtered level and its stuck mark:
With the FABRIC domain running: an edge inverts the synchronized level of the pin and counts it; the filter takes the level
that the synchronized pin has held where it differs, and a negation clears the stuck mark; the stuck time of a bound,
asserted pin, with URG_STUCK_TIME not 0, sets the mark. Where marks appear or the last one goes, level source 34 begins or
ends to report; otherwise nothing else changes. With the domain stopped, nothing happens. (R150; R152; R153; R378;
spec/06_service_regulation.md, Urgency pins) -/
def Obligations.UrgencyPinsAreFiltered : Prop :=
  ∀ (s : State) (p : Nat), p < 16 →
    (s.fabricClocked = true →
      exec (.urgPinEdge p) s = .next (State.settle
        (({ s with reg := { s.reg with urgSync := vset s.reg.urgSync p (!s.reg.urgSync.getLsbD p) } }).count
          (ekey 0x2300 (0x20 + p)) 1)) ∧
      (∀ level, s.reg.urgSync.getLsbD p = level → s.reg.urgLevel.getLsbD p ≠ level →
        let stuck := if level then s.reg.urgStuck else vset s.reg.urgStuck p false
        let t : State := { s with reg := { s.reg with urgLevel := vset s.reg.urgLevel p level, urgStuck := stuck } }
        exec (.urgFilterChange p level) s = .next (State.settle
          (if s.faults.now.getLsbD 34 = decide (stuck ≠ 0) then t else t.setLevel 34 (decide (stuck ≠ 0))))) ∧
      (∀ level, s.reg.urgSync.getLsbD p ≠ level ∨ s.reg.urgLevel.getLsbD p = level →
        exec (.urgFilterChange p level) s = .next s.settle) ∧
      (s.reg.urgLevel.getLsbD p = true → s.pinSet p ≠ 0xFF → s.rget (ekey 0x2300 0x32) ≠ 0 →
        s.reg.urgStuck.getLsbD p = false →
        let t : State := { s with reg := { s.reg with urgStuck := vset s.reg.urgStuck p true } }
        exec (.urgStuckDetect p) s = .next (State.settle
          (if s.faults.now.getLsbD 34 then t else t.setLevel 34 true))) ∧
      (s.reg.urgLevel.getLsbD p = false ∨ s.pinSet p = 0xFF ∨ s.rget (ekey 0x2300 0x32) = 0 →
        exec (.urgStuckDetect p) s = .next s.settle)) ∧
    (s.fabricClocked = false →
      exec (.urgPinEdge p) s = .next s.settle ∧ (∀ level, exec (.urgFilterChange p level) s = .next s.settle) ∧
      exec (.urgStuckDetect p) s = .next s.settle)

/-- DELIVERABLE_RECOMPUTE records D, SHORTFALL_CUT takes exactly the shortfall from the parts, SHARE_RECOMPUTE gives every port
its rates: With the FABRIC domain running: D in 0.1 GB/s is the healthy channels times 38.4 times the profile's efficiency
times one less the derating, halves rounded up, and nothing else changes. A shortfall recomputation sets the shortfall to
RESERVED_SUM less D (0 where D suffices); no class gives more than its guarantee part and its urgent part; where every class
has a priority of 0 to 15 the cuts add up to the shortfall; the shares follow, and an increase is counted and reported as
source 32. After SHARE_RECOMPUTE the state holds, for every class and every port or slice that shares in it, the class's
urgent, guarantee and excess rates in bytes per ns times the share, and 0 for every other; every token counter keeps its
content, clipped to the larger of 128 bytes and its rate times BURST; nothing else changes. (R140; R141; R142; R154; R155;
R156; spec/06_service_regulation.md, Table 4 and Shortfall; spec/06_service_regulation.md, Token counters and the holding
queue) -/
def Obligations.DeliverableShortfallAndShares : Prop :=
  (∀ s : State, s.fabricClocked = true →
     (let d := (if s.rget (ekey 0x1400 0x30) = 2 then 60 else 30) + 5 + 100 * s.therm.step
      let f := if s.profile = .deterministic then 72 else 82
      let healthy := (s.map.filter (fun m => !s.retired m)).length
      exec .deliverableRecompute s = .next (State.settle { s with
        reg := { s.reg with deliverable := some ((2 * (healthy * 384 * f * (1000 - d)) + 100000) / 200000) } })) ∧
     (let need := s.reservedSum - s.dNow
      ∃ minCut urgCut : SMap Nat,
        let t := ({ s with reg := { s.reg with minCut := minCut, urgCut := urgCut, shortfall := need } } : State).shareRecompute
        exec .shortfallCut s = .next (State.settle
          (if s.reg.shortfall < need then (t.count (ekey 0x2300 0x55) 1).report 32 else t)) ∧
        (∀ c, mget 0 minCut c ≤ (if s.classSet c 1 ≤ 1 then s.classSet c 3 else 0) ∧ mget 0 urgCut c ≤ s.urgPart c) ∧
        ((∀ c, c < 16 → s.classSet c 2 < 16) →
          ((List.range 16).map (fun c => mget 0 minCut c + mget 0 urgCut c)).sum = need))) ∧
  (∀ s : State, ∃ rates tok : SMap Tok,
     exec .shareRecompute s = .next (State.settle { s with reg := { s.reg with rates := rates, tok := tok } }) ∧
     (∀ c, c < 16 → ∀ x ∈ s.classShares c, mget {} rates (tokKey x.1 c) =
       { u := (s.urgEff c : Rat) / 10 * x.2
         g := ((if s.guarClass c then s.minEff c else 0 : Nat) : Rat) / 10 * x.2
         e := ((if s.guarClass c then s.classSet c 4 - s.classSet c 3 else s.classSet c 4 : Nat) : Rat) / 10 * x.2 }) ∧
     (∀ c p, c < 16 → (∀ x ∈ s.classShares c, x.1 ≠ p) → mget {} rates (tokKey p c) = {}) ∧
     (mwf (fun _ => {}) s.reg.tok = true → ∀ p c, c < 16 →
       let t := mget {} s.reg.tok (tokKey p c)
       let r := mget {} rates (tokKey p c)
       let b := s.classSet c 8
       t ≠ {} → mget {} tok (tokKey p c) =
         { u := min t.u (max 128 (r.u * (b : Rat))), g := min t.g (max 128 (r.g * (b : Rat))), e := min t.e (max 128 (r.e * (b : Rat))) }))

/-- ACCT_WINDOW_CLOSE records each class's bytes, counts a missed guarantee, and starts the next window with the overlap: With
the FABRIC domain and the regulator running: for every class SCc_LAST_WIN_BYTES takes the bytes of the window; a class whose
guarantee covered held requests for longer than ACCT_WINDOW and that got less than 90 % of its effective guarantee has one
more consecutive missed window, which returns to 0 where MISS_LIMIT is reached, and any other class has none; the next
window is the one that opened with the last quarter of this one, with the bytes and the held cycles that fell after its
start, and closes ACCT_WINDOW after that; the time is at least that of the close (log entry 158). No register changes but
SCc_LAST_WIN_BYTES and SCc_GUAR_MISS_WIN. With the regulator stopped nothing happens. (R157; R158; R159;
spec/06_service_regulation.md, Accounting windows and monitoring) -/
def Obligations.AccountingWindowJudgesClasses : Prop :=
  ∀ s : State,
    ((!s.fabricClocked || s.regulatorStopped) = true → exec (.acctWindowClose () ()) s = .next s.settle) ∧
    ((!s.fabricClocked || s.regulatorStopped) = false → ∃ t : State, exec (.acctWindowClose () ()) s = .next t.settle ∧
      (∀ c, c < 16 →
        let bytes := mget 0 s.reg.winBytes c
        let missed := s.guarClass c = true ∧ 100 * bytes < 9 * s.minEff c * s.acctWindow ∧
          s.acctWindow < mget 0 s.reg.winHeld c
        let run := mget 0 s.reg.missRun c + 1
        t.rget (classKey c 0x34) = bytes % 2 ^ 32 ∧
        mget 0 t.reg.winBytes c = mget 0 s.reg.nextBytes c ∧
        mget 0 t.reg.winHeld c = mget 0 s.reg.nextHeld c ∧
        (¬ missed → mget 0 t.reg.missRun c = 0 ∧ t.rget (classKey c 0x36) = s.rget (classKey c 0x36)) ∧
        (missed → mget 0 t.reg.missRun c = (if s.classSet c 9 ≠ 0 ∧ s.classSet c 9 ≤ run then 0 else run) ∧
          (s.rget (classKey c 0x36) + 1 < 2 ^ 32 → t.rget (classKey c 0x36) = s.rget (classKey c 0x36) + 1))) ∧
      (∀ k, (∀ c, c < 16 → k ≠ classKey c 0x34 ∧ k ≠ classKey c 0x36) → t.rget k = s.rget k) ∧
      t.reg.nextBytes = [] ∧ t.reg.nextHeld = [] ∧ t.now = Nat.max s.now (s.reg.winFrom + 2 * s.acctWindow) ∧
      t.reg.winFrom = s.reg.winFrom + 3 * s.acctWindow / 2 ∧
      t.ports = s.ports ∧ t.chans = s.chans ∧ t.qe = s.qe ∧ t.dict = s.dict)

/-- REQUEST_ADMIT lets one FABRIC cycle pass and admits the one request that a channel can take and a counter can pay: With the
FABRIC domain and the regulator running and no injected fault: the time advances by one cycle. Where the one request held in
the stack is at port p of a link, has one block on an enabled channel that serves and has room, and may pay from a counter
after this cycle's gain, it leaves the holding queue, its cost is counted in the class's and the port's delivered bytes, and
it is the last entry of that channel's queue, admitted now. Without a held request no channel queue gets longer. (R142;
R143; R144; R145; R147; R148; spec/06_service_regulation.md, Admission to channel queues) -/
def Obligations.RequestAdmitAdmitsTheOnlyCandidate : Prop :=
  ∀ s : State, s.fabricClocked = true → s.regulatorStopped = false →
    nfield (s.rget (ekey 0x1800 0x64)) 63 62 = 0 →
    (∀ (p a x r : Nat) (h : Held), p < 128 → s.ports = [(p, { held := [h] })] → h.engine = none → h.cls < 16 →
      s.places h = [(a, x)] → a < enabled s.variant → (s.chan a).st = .serving → s.roomAt a = true →
      let g := ({ s with now := s.now + 1 } : State).gainAll
      g.rankOf p h = some r → s.rget (classKey h.cls 0x33) + h.cost < 2 ^ 64 →
      ∃ t : State, exec .requestAdmit s = .next t.settle ∧ t.now = s.now + 1 ∧ (t.port p).held = [] ∧
        (t.chan a).queue = (s.chan a).queue ++ [{ port := p, req := h, h := x, admitted := s.now + 1 }] ∧
        t.rget (classKey h.cls 0x33) = s.rget (classKey h.cls 0x33) + h.cost) ∧
    (s.ports = [] → ∃ t : State, exec .requestAdmit s = .next t.settle ∧ t.now = s.now + 1 ∧ t.ports = [] ∧ t.links = s.links ∧
      ∀ m, (t.chan m).queue = (s.chan m).queue)

/-- IDLE_TIMER_EXPIRY starts the entry of a channel without work, and leaves any other channel as it is: A channel that can
issue commands to a clocked layer, with a non-zero idle time in force, an empty queue, no refresh debt, no open burst, no
slice, no evacuation and no interim, is entering self-refresh with every row closed; its commit point comes in the next
cycle, or 30 cycles later where a row was open. Without those conditions, shown here by an idle time of 0, a waiting entry
or a debt, nothing happens. (R169; R170; R21; spec/07_channel_controller.md, Automatic self-refresh) -/
def Obligations.IdleChannelBeginsSelfRefresh : Prop :=
  ∀ (s : State) (m : Nat), m < 128 →
    (s.chanRuns m = true → s.layerClocked m = true → s.idleTime m ≠ 0 → (s.chan m).queue = [] → (s.chan m).ref.debt = 0 →
      (s.chan m).rep.slice = none → (s.chan m).rep.evac = 0 → (s.chan m).interim = false → (s.chan m).ref.burst = [] →
      exec (.idleTimerExpiry m) s = .next (State.settle (s.setChan m { s.chan m with
        st := .entering, openRows := [], srSince := s.now + if (s.chan m).openRows = [] then 1 else 30 }))) ∧
    (s.idleTime m = 0 ∨ (s.chan m).queue ≠ [] ∨ (s.chan m).ref.debt ≠ 0 ∨ s.chanRuns m = false →
      exec (.idleTimerExpiry m) s = .next s.settle)

/-- REFRESH_DUE_EVENT, SCHEDULED_REFRESH and REFRESH_RATE_CHANGE keep the debt of a channel, and refresh four rows a command: A
due event on a serving, powered channel with a clocked layer whose debt is at most 7 units adds one unit (counted as
postponed where a unit was owed, the peak kept), and on a channel asleep on a clocked layer it refreshes NEXT_BANK at once.
A scheduled refresh of a bank that no entry of the lookahead window targets precharges the bank, pays one unit, is counted,
and moves the bank's pointer by four rows and NEXT_BANK by one; of an open burst the first bank with no row open is
refreshed and leaves the burst, counted as forced; with no unit owed and no open burst nothing happens. The command counts
in A_k, and what the layer corrected or had repeated is counted. A rate change to 1x returns an open burst to the debt and
NEXT_BANK to its first bank, and makes an odd debt even. (R183; R187; R188; R189; R192; R197;
spec/08_refresh_disturbance.md, Refresh debt) -/
def Obligations.RefreshDebtIsPaidInUnits : Prop :=
  ∀ (s : State) (m : Nat), m < enabled s.variant → s.chanPowered = true →
    let c := s.chan m
    let q := if c.ref.fast then c.ref.quantum + 1 else (c.ref.quantum / 2 + 1) * 2
    (c.ref.running = true → c.asleep = true → s.layerClocked m = true →
      exec (.refreshDueEvent m) s = .next (State.settle
        (s.setChan m (Chan.refreshNext { c with ref := { c.ref with quantum := q } })))) ∧
    (c.ref.running = true → c.st = .serving → c.stopped = false → s.layerClocked m = true → c.ref.debt + c.unit ≤ 8 * c.unit →
      let t := s.setChan m { c with ref := { c.ref with quantum := q, debt := c.ref.debt + c.unit } }
      let u := if c.unit ≤ c.ref.debt then t.count (chanKey m 0x85) 1 else t
      exec (.refreshDueEvent m) s = .next (State.settle (u.rset (chanKey m 0x83)
        (Nat.max (u.rget (chanKey m 0x83)) (Nat.min (c.ref.debt + c.unit) 65535))))) ∧
    (∀ env, env.wf = true → s.chanRefreshes m = true → c.ref.burst = [] → s.targeted m c.ref.nextBank = false → c.unit ≤ c.ref.debt →
      let k := c.ref.nextBank
      let w := mget 0 c.ref.ptr k
      let t := (mget {} c.ref.tabs k).free4 w
      exec (.scheduledRefresh ⟨m, env⟩) s = .next (State.settle (((((s.setChan m { c with
        openRows := mdel c.openRows k
        ref := { c.ref with
          debt := c.ref.debt - c.unit, nextBank := (k + 1) % 16, ptr := mset 0 c.ref.ptr k ((w + 4) % 32768)
          tabs := mset {} c.ref.tabs k (if (w + 4) % 32768 = 0 then { t with spillPrev := t.spillCur, spillCur := 0 } else t) } }).count
            (chanKey m 0x84) 1).countActs m 1).count (chanKey m 0xC5) env.caCorr).count (chanKey m 0xC6) env.caBad))) ∧
    (∀ env k rest, env.wf = true → s.chanRefreshes m = true → c.ref.burst = k :: rest → mfind c.openRows k = none →
      let w := mget 0 c.ref.ptr k
      let t := (mget {} c.ref.tabs k).free4 w
      exec (.scheduledRefresh ⟨m, env⟩) s = .next (State.settle ((((((s.setChan m { c with
        openRows := mdel c.openRows k
        ref := { c.ref with
          burst := rest, ptr := mset 0 c.ref.ptr k ((w + 4) % 32768)
          tabs := mset {} c.ref.tabs k (if (w + 4) % 32768 = 0 then { t with spillPrev := t.spillCur, spillCur := 0 } else t) } }).count
            (chanKey m 0x84) 1).count (chanKey m 0x86) 1).countActs m 1).count (chanKey m 0xC5) env.caCorr).count
              (chanKey m 0xC6) env.caBad))) ∧
    (∀ env, env.wf = true → c.ref.debt < c.unit → c.ref.burst = [] → exec (.scheduledRefresh ⟨m, env⟩) s = .next s.settle) ∧
    (c.st ≠ .retired → c.ref.fast = s.rateWanted m → exec (.refreshRateChange m) s = .next s.settle) ∧
    (c.st ≠ .retired → c.ref.fast = true → s.rateWanted m = false → c.stopped = true →
      let d := (c.ref.debt + c.ref.burst.length + 1) / 2 * 2
      let t := (s.setChan m { c with ref := { c.ref with
        fast := false, debt := d, nextBank := c.ref.burst.headD c.ref.nextBank, burst := [] } }).rset (chanKey m 0x83)
          (Nat.max (s.rget (chanKey m 0x83)) (Nat.min d 65535))
      exec (.refreshRateChange m) s = .next (State.settle
        (if (∀ j, j < enabled s.variant → t.retired j = true ∨ (t.chan j).ref.fast = false) ∧ s.rget (ekey 0x1400 0x30) ≠ 1 then
          (t.rset (ekey 0x1400 0x30) 1).count (ekey 0x1400 0x31) 1 else t)))

/-- NEIGHBOUR_REFRESH and REGION_FILL serve the first row and the lowest region marked; RAKE_STEP takes its slot; the close of a
pass frees rows: Where a maintenance entry may run and no fill service is forced: a neighbour refresh takes the first
pending row off the list, drops the row's count by the threshold (not below 0), closes its bank, counts the rows refreshed
within the radius and ends forced service at 8 pending rows; a fill with no pending row, or in forced fill service ahead of
the other entries, sets all valid and poison bits of the region of lowest number and unmarks it. Each is counted as a
maintenance entry, its activations in A_k, and what the layer corrected or had repeated is counted. (That the lowest region
goes first is the model's choice, log entry 162.) With nothing pending, or nothing marked, nothing happens. Where a step of
the Rake may run on a mapped channel and no test hold stops it, and the region of the pointer is unwritten and nothing is
injected: the pointer moves 16 blocks on, with wrap, RAKE_STEPS goes up by one, and nothing else changes. Where it may not
run nothing happens. The close of a pass on an enabled channel that is not retired counts RAKE_PASSES, records the pass's
corrected blocks, starts the next pass with those that fell behind its start, frees every correctable-row entry not seen in
the pass, and marks the others as the overlap says. (R161; R198; R199; R216; R223; R224; R225; R226;
spec/08_refresh_disturbance.md, Row-disturbance tables; spec/09_data_integrity.md, The region map;
spec/09_data_integrity.md, The Rake) -/
def Obligations.MaintenanceServesRowsRegionsAndRake : Prop :=
  (∀ (s : State) (m : Nat), m < 128 →
     let c := s.chan m
     (∀ env k w rest, env.wf = true → c.ref.pending = (k, w) :: rest → s.mayMaintain m = true → c.forcedFill = false →
       let tab := mget {} c.ref.tabs k
       let tab' := match rowCount w tab.rows with
         | some n => { tab with rows := setCount w (n - s.rhThreshold m) tab.rows }
         | none => tab
       exec (.neighbourRefresh ⟨m, env⟩) s = .next (State.settle (((((((s.setChan m { c with
         openRows := mdel c.openRows k
         ref := { c.ref with
           tabs := mset {} c.ref.tabs k tab', pending := rest, forced := c.ref.forced && decide (8 < rest.length) } }).modChan m
             (fun x => { x with sinceMaint := 0 })).count (chanKey m 0x65) 1).count (chanKey m 0x89) (neighbours (c.physRow k w) (s.rhRadius m)).length).countActs m
               (neighbours (c.physRow k w) (s.rhRadius m)).length).count (chanKey m 0xC5) env.caCorr).count (chanKey m 0xC6) env.caBad))) ∧
     (∀ env r rest, env.wf = true → c.mem.fills = r :: rest →
       (c.ref.pending = [] ∧ s.mayMaintain m = true) ∨
         (c.forcedFill = true ∧ c.ref.forced = false ∧ s.chanRuns m = true ∧ s.layerClocked m = true) →
       exec (.regionFill ⟨m, env⟩) s = .next (State.settle (((((s.setChan m { c with
         mem := c.mem.fill r, forcedFill := c.forcedFill && decide (48 < (c.mem.fill r).fills.length) }).modChan m
           (fun x => { x with sinceMaint := 0 })).count (chanKey m 0x65) 1).count (chanKey m 0xC5) env.caCorr).count
             (chanKey m 0xC6) env.caBad))) ∧
     (∀ env, env.wf = true → c.ref.pending = [] → exec (.neighbourRefresh ⟨m, env⟩) s = .next s.settle) ∧
     (∀ env, env.wf = true → c.mem.fills = [] → exec (.regionFill ⟨m, env⟩) s = .next s.settle)) ∧
  (∀ (s : State) (m : Nat), m < enabled s.variant →
     (∀ noise env, (Instr.rakeStep m noise env).wf = true → env.rmapBad = false →
       nfield (s.rget (ekey 0x1800 0x65)) 63 62 = 0 → (s.mayRun m && s.map.contains m && !s.rakeStopped) = true →
       mget false (s.chan m).mem.rmap (regionOf (s.rget (kRake m))) = false →
       exec (.rakeStep m noise env) s = .next (State.settle
         ((s.rset (kRake m) ((s.rget (kRake m) + 16) % 2 ^ 23)).count (chanKey m 0xAA) 1))) ∧
     (∀ noise env, (Instr.rakeStep m noise env).wf = true → (s.mayRun m && s.map.contains m && !s.rakeStopped) = false →
       exec (.rakeStep m noise env) s = .next s.settle) ∧
     (∀ (ce : Nat) (rows : List (Nat × Nat)), (Instr.rakePassClose m ce rows).wf = true → s.chanClocked = true →
       s.retired m = false →
       let c := s.chan m
       exec (.rakePassClose m ce rows) s = .next (State.settle (((s.setChan m { c with
         rakePassCe := Nat.min ce c.rakePassCe
         ceRows := c.ceRows.map (fun x => match x with
           | some y => if y.seen then some { y with seen := rows.contains (y.bank, y.row) } else none
           | none => none) }).count (chanKey m 0xAD) 1).rset (chanKey m 0xB1) (c.rakePassCe % 2 ^ 32)))))

/-- CHANNEL_ENTRY_EXECUTE of an RD64 answers zeros for an unwritten or invalid block, and else the stored data, poisoned as its
bit says: The head entry of an enabled channel is an RD64 of a link that may run, nothing disturbs it, nothing is injected,
no region of the channel is marked for a fill and no coil is erased. In an unwritten region, or with the valid bit 0, the
answer is 64 zero bytes, unpoisoned; with the valid bit 1 and a stored codeword it is the data of the codeword, with status
OK, or POISON_DATA and both flits poisoned where the poison bit is 1. The entry leaves the queue, the memory of the channel
keeps its content, and no other channel or link changes. (R106; R108; R161; R163; R213; R217; R219;
spec/09_data_integrity.md, Table 2) -/
def Obligations.ChannelReadsWhatItHolds : Prop :=
  ∀ (s : State) (m : Nat) (e : QEntry) (rest : List QEntry), m < enabled s.variant → (s.chan m).queue = e :: rest →
    s.entryRuns m e = true → e.req.opc = 0x10 → e.req.engine = none → e.h2 = none → e.half = 0 → e.h < 2 ^ 23 →
    (∀ k, k < 7 → nfield (s.rget (ekey 0x1800 (0x60 + k))) 63 62 = 0) → (s.chan m).mem.fills = [] →
    (s.chan m).erased = none → (s.chan m).forced = false →
    let mem := (s.chan m).mem
    let written := mget false mem.rmap (regionOf e.h)
    let valid := nbit (mget 0 mem.valid (e.h / 64)) (e.h % 64)
    let poison := nbit (mget 0 mem.poison (e.h / 64)) (e.h % 64)
    let w := s.arrayWord m e.h
    (written = true → valid = true → isCodeword w = true) →
    ∃ t : State, exec (.channelEntryExecute m {}) s = .next t.settle ∧
      (t.chan m).queue = rest ∧ (t.chan m).mem = mem ∧ (∀ m', m' ≠ m → t.chan m' = s.chan m') ∧
      (∀ n, n ≠ e.port → t.link n = s.link n) ∧
      (t.link e.port).resp = (s.link e.port).resp.map (fun r => if r.tag = e.req.tag then
        (if written = true ∧ valid = true then
          r.done 0 (if poison then 1 else 0) (if poison then 3 else 0) 0 (blockFlits (BitVec.ofNat 512 (w % 2 ^ 512)))
        else r.done 0 0 0 0 (blockFlits 0)) else r) ∧
      (written = false → s.rget (chanKey m 0x64) + 1 < 2 ^ 32 → t.rget (chanKey m 0x64) = s.rget (chanKey m 0x64) + 1)

/-- CHANNEL_ENTRY_EXECUTE of a WR64 stores the block, and an atomic its word, with their two bits, and initializes an unwritten
region: The head entry of an enabled channel is a WR64, FADD32 or SWAP32 of a link that may run, with the premises of the
read. A WR64 stores the codeword of its data with valid bit 1 and poison bit PSN, answered OK; in an unwritten region every
other valid bit of the region becomes 0 and the region bit 1. An atomic on a valid, unpoisoned codeword of a written region
answers the old word and stores the codeword of the block with the sum modulo 2^32, or the operand, in its place. Every
other stored word, and every other block's bits in a written region, stay; no other channel or link changes. (R106; R109;
R111; R202; R214; R218; spec/09_data_integrity.md, Tables 2 and 3) -/
def Obligations.ChannelWritesWhatItIsGiven : Prop :=
  ∀ (s : State) (m : Nat) (e : QEntry) (rest : List QEntry), m < enabled s.variant → (s.chan m).queue = e :: rest →
    s.entryRuns m e = true → e.req.engine = none → e.h2 = none → e.half = 0 → e.h < 2 ^ 23 →
    (∀ k, k < 7 → nfield (s.rget (ekey 0x1800 (0x60 + k))) 63 62 = 0) → (s.chan m).mem.fills = [] →
    (s.chan m).erased = none → (s.chan m).forced = false →
    let mem := (s.chan m).mem
    let written := mget false mem.rmap (regionOf e.h)
    let bit := fun (plane : SMap Nat) (h : Nat) => nbit (mget 0 plane (h / 64)) (h % 64)
    let w := s.arrayWord m e.h
    let old := nfield w (32 * e.req.word + 31) (32 * e.req.word)
    ∀ (stored : Nat) (poison : Bool) (value : BitVec 32),
    (e.req.opc = 0x12 ∧ stored = e.req.data.toNat ∧ poison = e.req.psn ∧ value = 0) ∨
    (written = true ∧ bit mem.valid e.h = true ∧ bit mem.poison e.h = false ∧ isCodeword w = true ∧ e.req.word < 16 ∧
      poison = false ∧ value = BitVec.ofNat 32 old ∧
      ((e.req.opc = 0x14 ∧ stored = setWord e.req.word ((old + e.req.operand.toNat) % 2 ^ 32) (w % 2 ^ 512)) ∨
       (e.req.opc = 0x15 ∧ stored = setWord e.req.word e.req.operand.toNat (w % 2 ^ 512)))) →
    ∃ t : State, exec (.channelEntryExecute m {}) s = .next t.settle ∧
      (t.chan m).queue = rest ∧ t.arrayWord m e.h = encodeBlock stored ∧
      mget false (t.chan m).mem.rmap (regionOf e.h) = true ∧
      bit (t.chan m).mem.valid e.h = true ∧ bit (t.chan m).mem.poison e.h = poison ∧
      (∀ h, h ≠ e.h → t.arrayWord m h = s.arrayWord m h) ∧
      (∀ h, h < 2 ^ 23 → h ≠ e.h → bit (t.chan m).mem.poison h = bit mem.poison h ∧
        bit (t.chan m).mem.valid h = (bit mem.valid h && (written || decide (regionOf h ≠ regionOf e.h)))) ∧
      (∀ m', m' ≠ m → t.chan m' = s.chan m') ∧ (∀ n, n ≠ e.port → t.link n = s.link n) ∧
      (t.link e.port).resp = (s.link e.port).resp.map (fun r =>
        if r.tag = e.req.tag then r.done 0 0 0 value [] else r)

/-- RAW_WRITE stores 72 symbols and two bits as given, RAW_READ shows what is stored, INJ_CTRL_WRITE takes a valid control
alone: Raw commands that are taken up and that R228 does not refuse wait, with what they need latched, while their channel
cannot run a maintenance entry (that it is latched then is log entry 163). Where it can, with nothing injected, they run:
RAW_WRITE leaves the word of RAW_DATA and the two bits of RAW_META at the address of RAW_SELECT and changes no other stored
word; RAW_READ leaves the stored word, the bits, their check bits and the region bit in the RAW registers and the memory as
it was. Refused, they answer the status of R228 and only REFUSED is set. A valid control of INJ_CTRLk is stored without bits
61:56 and its remaining count is loaded in mode 1; another is refused with INVALID_VALUE 0x0105. (R227; R228; R230;
spec/09_data_integrity.md, Raw diagnostic access and Check-bit injection) -/
def Obligations.RawAccessAndInjection : Prop :=
  ∀ (s : State) (a : Master),
    (∀ arg sub, sub = 0x85 ∨ sub = 0x86 → s.obeys a (ekey 0x1800 sub) arg = true →
      let i := if sub = 0x85 then Instr.rawWrite a arg else Instr.rawRead a arg
      let key := ekey 0x1800 sub
      let u := s.asks a key arg
      let m := nfield (s.rget (ekey 0x1800 0x80)) 29 23
      let h := nfield (s.rget (ekey 0x1800 0x80)) 22 0
      let mem := (s.chan m).mem
      let bit := fun (plane : SMap Nat) (x : Nat) => nbit (mget 0 plane (x / 64)) (x % 64)
      (s.rawRefused m ≠ 0 → exec i s = .next (State.settle
        ((u.setCmd key { s.cmd key with refused := true }).tells s.dict.mpDown a key (s.rawRefused m)))) ∧
      (s.rawRefused m = 0 → s.mayRun m = false →
        let t : State := { u with dict := { u.dict with raw := u.dict.raw ++ [{
          by_ := a, key := key, chan := m, addr := h, data := s.rget (ekey 0x1800 0x81), bits := s.rget (ekey 0x1800 0x82) }] } }
        exec i s = .next (State.settle ((t.cmdStart key).awaits a))) ∧
      (s.rawRefused m = 0 → s.mayRun m = true → nfield (s.rget (ekey 0x1800 0x64)) 63 62 = 0 →
        nfield (s.rget (ekey 0x1800 0x65)) 63 62 = 0 →
        ∃ t : State, exec i s = .next (State.settle ((t.cmdEnd key 0).tells s.dict.mpDown a key 0)) ∧
          (sub = 0x85 →
            t.arrayWord m h = s.rget (ekey 0x1800 0x81) % 2 ^ 576 ∧
            bit (t.chan m).mem.valid h = nbit (s.rget (ekey 0x1800 0x82)) 0 ∧
            bit (t.chan m).mem.poison h = nbit (s.rget (ekey 0x1800 0x82)) 1 ∧
            mget false (t.chan m).mem.rmap (regionOf h) = true ∧
            ∀ x, x ≠ h → t.arrayWord m x = s.arrayWord m x) ∧
          (sub = 0x86 → (t.chan m).mem = mem ∧ t.rget (ekey 0x1800 0x81) = s.arrayWord m h ∧
            t.rget (ekey 0x1800 0x82) = b2n (bit mem.valid h) + 2 * b2n (bit mem.poison h) ∧
            t.rget (ekey 0x1800 0x83) = secCheck (mget 0 mem.valid (h / 64)) + 256 * secCheck (mget 0 mem.poison (h / 64)) ∧
            t.rget (ekey 0x1800 0x84) = b2n (mget false mem.rmap (regionOf h))) ∧
          ∀ m', m' ≠ m → t.chan m' = s.chan m')) ∧
    (∀ k val, k < 7 → a.wf = true → s.hears a = true → s.judge (ekey 0x1800 (0x60 + k)) = 0 → val.length = 8 →
      let key := ekey 0x1800 (0x60 + k)
      let u := s.asks a key val
      let v := bytesNat val
      (s.injValid k v = true → exec (.injCtrlWrite a k val) s = .next (State.settle
        (((u.rset key (v - nfield v 61 56 * 2 ^ 56)).rset (ekey 0x1800 (0x70 + k))
          (if nfield v 63 62 = 1 then nfield v 47 32 else 0)).tells s.dict.mpDown a key 0))) ∧
      (s.injValid k v = false → exec (.injCtrlWrite a k val) s =
        .next (State.settle (u.tells s.dict.mpDown a key 0x0105))))

/-- An idle time of 0 in force disables automatic self-refresh in every profile, including ECONOMY: For every channel whose
committed idle time is 0 (IDLE_SR_TIME, as the channel holds it), in each of the three profiles and whatever else the state
holds, the idle timer never starts an entry: IDLE_TIMER_EXPIRY changes nothing. (R23) -/
def Obligations.IdleTimeZeroDisablesSelfRefresh : Prop :=
  ∀ (s : State) (m : Nat) (p : Profile), m < 128 →
    let u : State := { s with profile := p }
    (u.blockSetting (.channel m) (chanKey m 0x01) (chanKey m 0x21) = 0 → exec (.idleTimerExpiry m) u = .next u.settle)

/-- STEEP_WINDOW_START, STEEP_WINDOW_END, EXIT_CHECK_END and SUBSTITUTION_WINDOW stop a channel for a window and resume it: On a
channel whose supplies are up and whose layer queue is ready, with any values of the parity bits of the commands: where a
window may open and no interim stops the channel, the start issues the refresh that opens it and the channel is in the
window; the end measures the margins of the sites (free values), counts it with its length, drops the WEAK marks, declares
the sites outside margin failed in their order and resumes service; an exit check adds the stay to the time in self-refresh,
records its wait and length, measures the margins, and where it finds sites outside counts an extension, drops the WEAK
marks and declares those that the full window leaves outside; a substitution window with waiting sites is a full window,
which drops the WEAK marks and in which up to four substitutions are performed and the sites that it leaves outside margin
fail. A resumed channel that is not retired, owes at most 8 units, is not forced and not stopped serves; nothing else of it
changes. (R172; R179; R191; R268; R271; R274; spec/07_channel_controller.md, Steep windows; spec/11_vertical_links.md, Drift
tracking in Steep windows) -/
def Obligations.SteepWindowsAndExitChecks : Prop :=
  ∀ (s : State) (m : Nat) (env : ChanEnv), m < enabled s.variant → env.wf = true → s.chanPowered = true → s.clk.nrLayer.getLsbD m = false →
    let c := s.chan m
    let measured := fun (t : State) => { (t.modChan m (fun c => { c with vl := { c.vl with measured := t.free } })) with free := t.free + 1 }
    let ended := fun (t : State) (len : Nat) => ((measured t).count (chanKey m 0x6C) 1).peak (chanKey m 0x6E) len 65535
    let failed := fun (t : State) (xs : List Site) => xs.foldl (fun t x => t.coilFail m false x) t
    (s.windowOpens m = true → c.interimStop = false →
      exec (.steepWindowStart ⟨m, env⟩) s = .next (State.settle (((s.refreshCmd m).caCount m env).modChan m (fun c => { c with
        st := .steep, fullExit := false, vl := { c.vl with early := false } })))) ∧
    (∀ outside len, outside.all Site.wf = true → c.st = .steep → c.fullExit = false →
      exec (.steepWindowEnd m outside len) s = .next (State.settle ((failed (ended (s.modChan m (fun c => { c with
        fullExit := false, vl := { c.vl with weak := [] } })) len) outside).resumeChan m))) ∧
    (∀ outside after wait len, outside.all Site.wf = true → after.all Site.wf = true → c.st = .exiting → s.layerClocked m = true →
      c.fullExit = false →
      let t := ((s.setChan m { c with fullExit := false, forced := c.forced || c.wasForced, wasForced := false, srTime := 0 }).peak
        (chanKey m 0x6B) wait 65535).count (chanKey m 0x6A) c.srTime
      let u := (measured t).peak (chanKey m 0x6E) len 65535
      exec (.exitCheckEnd m outside after wait len) s = .next (State.settle
        (if outside = [] then u.resumeChan m else (failed
          ((u.count (chanKey m 0x6D) 1).modChan m (fun c => { c with vl := { c.vl with weak := [] } })) after).resumeChan m))) ∧
    (∀ outside len, outside.all Site.wf = true → s.windowOpens m = true → c.vl.waiting ≠ [] →
      exec (.substitutionWindow ⟨m, env⟩ ⟨outside, len⟩) s = .next (State.settle ((failed ((ended (((s.refreshCmd m).caCount m env).modChan m (fun c =>
          { c with vl := { c.vl with weak := [], early := false } })) len).substitute m) outside).resumeChan m))) ∧
    (s.windowOpens m = false → exec (.steepWindowStart ⟨m, env⟩) s = .next s.settle ∧
      ∀ outside len, outside.all Site.wf = true → exec (.substitutionWindow ⟨m, env⟩ ⟨outside, len⟩) s = .next s.settle) ∧
    (s.retired m = false → c.ref.debt ≤ 8 * c.unit → c.forced = false → c.stopped = false →
      s.resumeChan m = s.modChan m (fun c => { c with st := .serving }))

/-- LAYER_LOSS_OF_LOCK stops a layer's home channels, RELOCK_ATTEMPT_END resumes or fails it, and a frequency beyond 1,000 ppm
loses lock: With the supplies of the CHAN domain up: a locked layer that loses lock is relocking, and every channel homed on
it is stopped, its queues to the layer not ready, a window or an uncommitted entry on it abandoned; an attempt that locks
counts a relock and returns the layer to its former state; one of the first two that does not counts an attempt and restarts
a faulted supply; the third fails the layer. A frequency window records its error and loses lock beyond 1,000 ppm either
way. A joint word whose CRC fails records its bundle, counts a retry below the fourth failure, and at the fourth is reported
as source 20. (R259; R261; R262; R263; R345; spec/11_vertical_links.md, Layer clocks and Table 6) -/
def Obligations.LayersLoseAndRegainLock : Prop :=
  ∀ s : State,
    (∀ k, k < 18 → s.chanPowered = true →
      let l := s.layer k
      (l.locked = true → exec (.layerLossOfLock k) s = .next (s.loseLock k).settle ∧
        (s.loseLock k).layer k = { l with locked := false, was := l.st, st := 4, attempts := 0 } ∧
        (∀ j, j ≠ k → (s.loseLock k).layer j = s.layer j) ∧
        (∀ m, (s.loseLock k).clk.nrLayer.getLsbD m = (s.clk.nrLayer.getLsbD m || decide (m ∈ s.homedOn k))) ∧
        ∀ m, (s.loseLock k).chan m = if m ∈ s.homedOn k then { s.chan m with
            stopped := true, wasForced := (s.chan m).wasForced || ((s.chan m).forced && decide ((s.chan m).st = .inSr))
            st := if (s.chan m).st = .steep ∨ (s.chan m).st = .entering then .serving else (s.chan m).st }
          else s.chan m) ∧
      (l.locked = false → exec (.layerLossOfLock k) s = .next s.settle) ∧
      (∀ ns, l.st = 4 → ∃ t : State, exec (.relockAttemptEnd k true ns) s = .next t.settle ∧ t.layer k = { l with
        locked := true, st := l.was, supply := 2, relocks := Nat.min (l.relocks + 1) 255, attempts := 0
        refSlot := (s.refSlotOf k).getD l.refSlot } ∧
        ∀ m, m ∈ s.homedOn k → (t.chan m).stopped = false ∧
          ((s.chan m).st = .serving → (t.chan m).st = .steep ∧ (t.chan m).fullExit = true)) ∧
      (∀ ns, l.st = 4 → exec (.relockAttemptEnd k false ns) s = .next (State.settle
        (if 3 ≤ l.attempts + 1 then s.layerFail k 3
        else s.setLayer k { l with attempts := l.attempts + 1, supply := if l.supply = 2 then 2 else 1 }))) ∧
      (∀ ppm : Int, isI20 ppm = true → l.supply ≠ 0 →
        let t := s.rset (ekey 0x1C00 (0x60 + k)) (i20 ppm)
        exec (.layerFreqWindowClose k ppm) s = .next (State.settle
          (if l.locked = true ∧ (1000 < ppm ∨ ppm < -1000) then t.loseLock k else t)))) ∧
    (∀ bundle attempt, bundle < 512 → 0 < attempt → s.boot ≠ .held →
      let k := ekey 0x1C00 0x7B
      let w := nset (s.rget k) 1 (nbit (s.rget k) 1 || decide (attempt = 4))
      let t := s.rset k (w - nfield w 22 14 * 2 ^ 14 + bundle * 2 ^ 14)
      exec (.jointWordFail bundle attempt false) s = .next (State.settle
        (if attempt < 4 then t.count (ekey 0x1C00 0x7C) 1 else if attempt = 4 then t.report 20 else t)) ∧
      (s.boot = .sensing → exec (.jointWordFail bundle attempt true) s = .next (State.settle
        { s with boot := .jointFailed, faults := { s.faults with jointPin := true } })))

/-- COIL_SER_WINDOW_CLOSE marks weak coils, HOP_TRAINING trains one hop of the columns that cross it, END_TO_END_CHECK ends the
training: An error-rate window on a channel that is not retired marks every coil above COIL_SER_LIMIT (0 disables) WEAK,
asks for an early window, counts the trips and starts the next window with its overlap. While the layers train and the hop
is the next one: every column whose home is at it or above, that of a retired channel too, has it trained and its margins
measured (free values), the sites that failed at it fail, and a locked layer is in service with its reference slot. With
every hop trained, and no layer assignment held, the end-to-end check records its time, fails the sites found dead, and
starts the refresh timer of every channel that is not retired; the training is over. (R184; R264; R265; R266; R269; R271;
spec/11_vertical_links.md, Training at power-up and Coil faults) -/
def Obligations.CoilsAreSparedAndTrained : Prop :=
  ∀ s : State,
    (∀ m tail, m < enabled s.variant → tail.length ≤ 36 → s.chanClocked = true → s.retired m = false →
      let c := s.chan m
      let lim := s.blockSetting (.channel m) (ekey 0x1C00 0x7E) (ekey 0x1C00 0x7F)
      let trips := (List.range 36).filter (fun i => decide (lim ≠ 0) && decide (lim < c.vl.coilCe.getD i 0))
      exec (.coilSerWindowClose m tail) s = .next (State.settle ((s.setChan m { c with vl := { c.vl with
        coilCe := (List.range 36).map (fun i => Nat.min (tail.getD i 0) (c.vl.coilCe.getD i 0))
        weak := trips.foldl insertOnce c.vl.weak, early := c.vl.early || decide (trips ≠ []) } }).count
          (chanKey m 0xC4) trips.length))) ∧
    (∀ hop fails, (Instr.hopTraining hop fails true).wf = true → s.training = true → s.qt.nextHop = hop →
      hop < layerCount s.variant → ∃ t : State, exec (.hopTraining hop fails true) s = .next t.settle ∧
        t.qt.nextHop = hop + 1 ∧ (t.layer hop).locked = true ∧ (t.layer hop).st = 2 ∧ (t.layer hop).supply = 2 ∧
        (fails = [] → ∀ m, ∃ f : Nat, s.free ≤ f ∧ t.chan m = if m < enabled s.variant ∧ hop ≤ m / 8
          then { s.chan m with vl := { (s.chan m).vl with hops := hop + 1, measured := f } } else s.chan m)) ∧
    (∀ us, s.training = true → s.qt.nextHop = layerCount s.variant → us < 4000 → s.repair.assign16 = none → s.repair.assign17 = none →
      ∃ t : State, exec (.endToEndCheck [] us) s = .next t.settle ∧ t.qt = { s.qt with trainDone := true, trainUs := us } ∧
        t.boot = (if s.qt.baseDone then .qtLoopback else s.boot) ∧ t.rget (ekey 0x1C00 0x7D) = us ∧
        ∀ m, t.chan m = if m < enabled s.variant ∧ s.retired m = false
          then { s.chan m with ref := { (s.chan m).ref with running := true } } else s.chan m)

/-- ROW_REPAIR moves a candidate's row to the next idle spare, MIGRATION_STEP moves a column row by row, REPAIR_REQUEST asks for
either: Where a maintenance entry may run, ROW_REPAIR takes the first pending row candidate that may be repaired: both rows
are activated (log entry 164), every block of a row of a written region is read and written again as a new codeword, the
address is mapped to the lowest spare not used, one more spare row is used, and the candidate is soft repaired; candidates
that find no spare any more are then judged. A remap entry bad in both copies retires the channel instead, and likewise in
MIGRATION_STEP. MIGRATION_STEP starts the first pending column candidate where none migrates and no evacuation holds the
channel, taking a spare column; each step moves one row, and after row 32,767 the column is repaired and its candidate soft
repaired. REPAIR_REQUEST refuses a location that is not the home location of a serving channel with 0x0105, ends with
NO_SPARE 0x0400 where no spare is idle, and else lists the candidate as asked for and, where a maintenance entry may run,
repairs its row at once, or starts its migration. Without a candidate, or where no entry may run, the two rows do nothing.
(R281; R282; R283; R284; spec/12_repair_degraded.md, Soft repair) -/
def Obligations.RowsAndColumnsAreRepaired : Prop :=
  let checked := fun (t : State) (m k w : Nat) (env : ChanEnv) =>
    (t.lookupRegion m (regionOf (localOf k w 0)) env.rmapBad).2.maintCheck m env
  let spared := fun (t : State) (m : Nat) (e : BitVec 64) (noise : List Nat) (env : ChanEnv) =>
    let k := rlBank e
    let w := rlRow e
    let h := localOf k w 0
    let u := checked t m k w env
    let t := (if (t.lookupRegion m (regionOf h) env.rmapBad).1 then
      State.readRow (State.recodeBlock m) ((u.maintRow m h).activate m k w) m h 16 noise (env.vNoise, env.pNoise) else u).maintained m
    let used := mget 0 (t.chan m).rep.usedRows k
    (t.modChan m (fun c => { c with rep := { c.rep with
      remap := mput c.rep.remap (k * 32768 + w) used
      usedRows := mset 0 c.rep.usedRows k (used + 1) } })).softRepaired e (recordPlace 1 (rlLayer e) (m % 8) k + w * 4)
  let repaired := fun (t : State) (m : Nat) (e : BitVec 64) (noise : List Nat) (env : ChanEnv) =>
    if (checked t m (rlBank e) (rlRow e) env).retired m = true then checked t m (rlBank e) (rlRow e) env
    else (spared t m e noise env).rejudge
  let starts := fun (t : State) (m : Nat) (e : BitVec 64) => (t.modChan m (fun c => { c with rep := { c.rep with
    migr := some (rlBank e, rlCol e, rlSym e, 0)
    usedCols := mset 0 c.rep.usedCols (rlBank e) (mget 0 c.rep.usedCols (rlBank e) + 1) } })).rejudge
  let listed := fun (t u : State) (e : BitVec 64) => t.repair.list =
    mapFirst (fun x => sameLocation x e && decide (rlState x = 0)) (fun x => rlSetState x 1) u.repair.list
  ∀ (s : State) (m : Nat) (noise : List Nat) (env : ChanEnv), (Instr.rowRepair ⟨m, env⟩ noise).wf = true →
    (∀ e, s.mayRun m = true → s.nextRepair m 1 = some e →
      exec (.rowRepair ⟨m, env⟩ noise) s = .next (State.settle (repaired s m e noise env)) ∧
      ((s.lookupRegion m (regionOf (localOf (rlBank e) (rlRow e) 0)) env.rmapBad).1 = false → (s.chan m).rep.slice = none →
        (checked s m (rlBank e) (rlRow e) env).retired m = false →
        ((spared s m e noise env).chan m).physRow (rlBank e) (rlRow e) = 32768 + mget 0 (s.chan m).rep.usedRows (rlBank e) ∧
        listed (spared s m e noise env) s e)) ∧
    (∀ k col sym w, s.mayRun m = true → (s.chan m).rep.migr = some (k, col, sym, w) →
      (s.maintCheck m env).retired m = false →
      let u := s.maintCheck m env
      let h := localOf k w 0
      let r := u.lookupRegion m (regionOf h) env.rmapBad
      let t := (if r.1 then State.readRow (State.migrateBlock m col sym) (r.2.maintRow m h) m h 16 noise (env.vNoise, env.pNoise)
        else r.2).maintained m
      exec (.migrationStep ⟨m, env⟩ noise) s = .next (State.settle (
        if w < 32767 then t.modChan m (fun c => { c with rep := { c.rep with migr := some (k, col, sym, w + 1) } })
        else (t.modChan m (fun c => { c with rep := { c.rep with
          migr := none, cols := c.rep.cols ++ [(k, col, sym)] } })).softRepaired (candidate 2 0 (t.home m) m k 0 col sym 0 false)
            (recordPlace 2 (t.home m) (m % 8) k + col * 2 ^ 13 + sym * 2 ^ 6)))) ∧
    (∀ k col sym w, s.mayRun m = true → (s.chan m).rep.migr = some (k, col, sym, w) →
      (s.maintCheck m env).retired m = true →
      exec (.migrationStep ⟨m, env⟩ noise) s = .next (s.maintCheck m env).settle) ∧
    (∀ e, s.mayRun m = true → (s.chan m).rep.migr = none → s.nextRepair m 2 = some e → (s.chan m).rep.evac = 0 →
      exec (.migrationStep ⟨m, env⟩ noise) s = exec (.migrationStep ⟨m, env⟩ noise) (starts s m e)) ∧
    (s.mayRun m = false ∨ s.nextRepair m 1 = none → exec (.rowRepair ⟨m, env⟩ noise) s = .next s.settle) ∧
    (s.mayRun m = false ∨ ((s.chan m).rep.migr = none ∧ (s.nextRepair m 2 = none ∨ (s.chan m).rep.evac ≠ 0)) →
      exec (.migrationStep ⟨m, env⟩ noise) s = .next s.settle) ∧
    (∀ (by' : Master) (arg : List Byte),
      let key := ekey 0x1C00 0x0D
      let u := s.asks by' key arg
      let v := BitVec.ofNat 64 (bytesNat arg)
      let ch := rlChan v
      let e := candidate (rlKind v) 4 (rlLayer v) ch (rlBank v) (if rlKind v = 1 then rlRow v else 0) (rlCol v) (rlSym v)
        (nfield v.toNat 13 11) (nbit v.toNat 10)
      let bad := (rlKind v ≠ 1 ∧ rlKind v ≠ 2) ∨ enabled s.variant ≤ ch ∨ s.retired ch = true ∨ rlLayer v ≠ s.home ch ∨
        (rlKind v = 2 ∧ 71 < rlSym v)
      let woken := ({ u with repair := { u.repair with list := s.repair.list ++ [e] } }).wake ch true
      let fresh : State := { woken with repair := { woken.repair with asked := woken.repair.asked ++ [e] } }
      s.obeys by' key arg = true →
      (bad → exec (.repairRequest by' arg) s =
        .next (State.settle ((u.setCmd key { s.cmd key with refused := true }).tells s.dict.mpDown by' key 0x0105))) ∧
      (¬ bad → s.spareFor e = false → exec (.repairRequest by' arg) s =
        .next (State.settle ((u.cmdEnd key 0x0400).tells s.dict.mpDown by' key 0x0400))) ∧
      (¬ bad → s.spareFor e = true → s.repair.list.length < 256 →
        (∀ x ∈ s.repair.list, sameLocation x e = true → 1 < rlState x) →
        exec (.repairRequest by' arg) s = .next (State.settle (((
          if rlKind v = 1 then (if fresh.mayRun ch = false ∨ (fresh.chan ch).sliceAt (rlBank v) (rlRow v) = true then fresh
            else repaired fresh ch e [] {})
          else if (fresh.chan ch).rep.migr = none ∧ (fresh.chan ch).rep.evac = 0 then starts fresh ch e else fresh).cmdEnd key 0).tells
            s.dict.mpDown by' key 0))))

/-- EVACUATE starts an evacuation or is refused; its rows ready the target, extend, copy and switch the channels to it: A source
that is no in-service layer, or homes no channel of the map, is refused with 0x0105, a running evacuation with 0x0107, and
no idle spare layer with 0x0402; else L16, or if it is taken L17, becomes the target: source, target and channels take their
evacuation states (a source that relocks when it is in lock again). The target that becomes ready while the source homes a
channel is regulating and locked to the lowest eligible slot of the source (the choice of slot is the model's, log entry
149), and the repeaters below it are powered; the state is then extending, or copying where no channel of the source is left
to extend; one that fails takes failure 5. A channel in automatic self-refresh is first woken. With the window open and no
interim stop, each of 256 slices of a hop is a refresh with dual use, and the last one measures the margins of the hop (free
values); the last slice of the last hop starts the copy, and with every channel there the evacuation copies. A copy step
reads every block of the next written row, writes it to the target and moves on; a remap entry bad in both copies retires
the channel instead. A channel with nothing left to copy switches: its memory is the target copy, its home the target layer,
its column the extended one, and its spares are those of the target location; with the last one, where no other assignment
is held, the source is replaced, the spare in service, and the assignment is made, with its record where the sensed
G-REPAIR-FIELD does not hold it yet. (R275; R289; R290; R291; R292; R293; spec/12_repair_degraded.md, Tables 4 and 5) -/
def Obligations.EvacuationMovesALayer : Prop :=
  ∀ s : State,
    let src := s.repair.evacSrc
    let dst := s.repair.evacDst
    (∀ (by' : Master) (arg : List Byte), s.obeys by' kEvacuate arg = true →
      let k := bytesNat arg
      let u := s.asks by' kEvacuate arg
      let bad := layerCount s.variant ≤ k ∨ ∀ m ∈ s.map, s.home m ≠ k
      let taken := fun j => decide ((s.layer j).st ≠ 0)
      let refusal := fun status => exec (.evacuate by' arg) s = .next (State.settle
        ((u.setCmd kEvacuate { s.cmd kEvacuate with refused := true }).tells s.dict.mpDown by' kEvacuate status))
      (bad → refusal 0x0105) ∧
      (¬ bad → s.repair.evacState ∈ [1, 2, 3, 4] → refusal 0x0107) ∧
      (¬ bad → s.repair.evacState ∉ [1, 2, 3, 4] → taken 16 = true → taken 17 = true → refusal 0x0402) ∧
      (¬ bad → s.repair.evacState ∉ [1, 2, 3, 4] → taken 16 = false ∨ taken 17 = false →
        let tgt := if taken 16 then 17 else 16
        ∃ t : State, exec (.evacuate by' arg) s = .next (State.settle (t.tells s.dict.mpDown by' kEvacuate 0)) ∧
          t.repair = { s.repair with evacState := 1, evacSrc := k, evacDst := tgt, switched := 0, evacAns := true } ∧
          t.cmd kEvacuate = { s.cmd kEvacuate with refused := false, running := true } ∧
          (∀ j, t.layer j = if j = k then (if (s.layer k).st = 4 then { s.layer k with was := 6 } else { s.layer k with st := 6 })
            else if j = tgt then { s.layer tgt with st := 7 } else s.layer j) ∧
          ∀ m, t.chan m = if m < enabled s.variant ∧ s.home m = k ∧ s.retired m = false then { s.chan m with
            rep := { (s.chan m).rep with evac := 1, copyAt := 0 }
            vl := { (s.chan m).vl with extHops := 0, extSlices := 0 } } else s.chan m)) ∧
    (s.chanClocked = true → s.repair.evacState = 1 →
      (s.homedOn src ≠ [] → ∃ t : State, exec (.evacTargetReady true) s = .next t.settle ∧
        t.repair = (if ∃ m ∈ s.homedOn src, (s.chan m).rep.evac = 1 then { s.repair with evacState := 2 }
          else { s.repair with evacState := 3 }) ∧
        ∀ k, t.layer k = if k = dst then { s.layer k with supply := 2, locked := true, refSlot := (s.refSlotOf src).getD 0 }
          else if layerCount s.variant ≤ k ∧ k < dst ∧ (s.layer k).phases = 0 then { s.layer k with phases := 2 } else s.layer k) ∧
      exec (.evacTargetReady false) s = .next (s.layerFail dst 5).settle) ∧
    (∀ ok, s.repair.evacState ≠ 1 → exec (.evacTargetReady ok) s = .next s.settle) ∧
    (∀ m, m < 128 →
      let c := s.chan m
      let left := dst - s.home m - c.vl.extHops
      (∀ env, env.wf = true → s.repair.evacState = 2 → c.rep.evac = 1 → c.st ≠ .inSr → s.windowOpens m = true → c.interimStop = false →
        let issued := (s.refreshCmd m).caCount m env
        let done := issued.chan m
        (∀ fails, fails.all Site.wf = true → c.vl.extSlices < 255 → 0 < left → exec (.extensionSlice ⟨m, env⟩ ⟨fails, true⟩) s = .next (State.settle
          (issued.setChan m { done with vl := { done.vl with extSlices := c.vl.extSlices + 1 } }))) ∧
        (c.vl.extSlices = 255 → 1 < left → exec (.extensionSlice ⟨m, env⟩ ⟨[], true⟩) s = .next (State.settle
          ({ issued.setChan m { done with vl := { done.vl with
            extSlices := 0, extHops := c.vl.extHops + 1, measured := s.free } } with free := s.free + 1 }))) ∧
        (c.vl.extSlices = 255 → left = 1 → ∃ t : State, exec (.extensionSlice ⟨m, env⟩ ⟨[], true⟩) s = .next t.settle ∧
          t.chan m = { done with
            vl := { done.vl with extSlices := 0, extHops := c.vl.extHops + 1, measured := s.free }
            rep := { done.rep with evac := 2, copyAt := 0 }, mem := { done.mem with arrT := [] } } ∧
          (∀ j, j ≠ m → t.chan j = s.chan j) ∧
          t.repair = if ∃ j ∈ s.homedOn src, j ≠ m ∧ (s.chan j).rep.evac = 1 then s.repair else { s.repair with evacState := 3 }) ∧
        ∀ fails, fails.all Site.wf = true → exec (.extensionSlice ⟨m, env⟩ ⟨fails, false⟩) s = .next s.evacFail.settle) ∧
      (∀ fails ok env, fails.all Site.wf = true → env.wf = true → s.repair.evacState = 2 → c.rep.evac = 1 → c.st = .inSr →
        exec (.extensionSlice ⟨m, env⟩ ⟨fails, ok⟩) s = .next (s.wake m true).settle) ∧
      (∀ noise env, (Instr.evacCopyStep ⟨m, env⟩ noise).wf = true → s.evacRuns = true → c.rep.evac = 2 → c.rep.migr = none →
        (c.st = .inSr → exec (.evacCopyStep ⟨m, env⟩ noise) s = .next (s.wake m true).settle) ∧
        (∀ h, c.st ≠ .inSr → s.mayRun m = true → c.nextCopy = some h →
          let t := ((s.lookupRegion m (regionOf h) env.rmapBad).2).maintCheck m env
          exec (.evacCopyStep ⟨m, env⟩ noise) s = .next (State.settle (if t.retired m = true then t
            else ((State.readRow (State.copyBlock m) (t.maintRow m h) m h 16 noise (env.vNoise, env.pNoise)).maintained m).modChan m
              (fun x => { x with rep := { x.rep with copyAt := h + 16 } })))) ∧
        (c.nextCopy = none → c.st ≠ .inSr → exec (.evacCopyStep ⟨m, env⟩ noise) s = .next s.settle)) ∧
      (s.evacRuns = true → c.rep.evac = 2 → c.rep.migr = none → s.chanRuns m = true → s.layerClocked m = true →
        c.nextCopy = none → m < enabled s.variant → s.home m = src → 16 ≤ dst → src < 16 →
        let rep := s.locationRepairs c.rep dst (m % 8)
        ∃ t : State, exec (.evacChannelSwitch m) s = .next t.settle ∧
          t.chan m = { c with
            openRows := [], ceRows := List.replicate 32 none
            mem := { c.mem with arr := c.mem.arrT, arrT := [] }
            ref := { c.ref with tabs := [], pending := [], forced := false }
            vl := { c.vl with home := some dst, hops := c.hopsTrained, extHops := 0 }
            rep := { rep with evac := 0, copyAt := 0 } } ∧
          (∀ j, j ≠ m → t.chan j = s.chan j) ∧ nbit t.repair.switched (m % 8) = true ∧
          ((∃ j ∈ s.homedOn src, j ≠ m) → (∀ k, t.layer k = s.layer k) ∧ t.repair.evacState =
            if s.repair.evacState = 2 ∧ ∀ j ∈ s.homedOn src, j ≠ m → (s.chan j).rep.evac ≠ 1 then 3 else s.repair.evacState) ∧
          ((∀ j ∈ s.homedOn src, j = m) → (if dst = 16 then s.repair.assign17 else s.repair.assign16) = none → t.repair.evacState = 5 ∧
            (if dst = 16 then t.repair.assign16 = some src else t.repair.assign17 = some src) ∧
            let record := BitVec.ofNat 32 (5 * 2 ^ 29 + src * 2 ^ 24 + dst * 2 ^ 19)
            (record ∈ t.repair.unhardened ∨ s.fieldRecorded record = true) ∧
            ((s.layer dst).st ≠ 4 → (t.layer dst).st = 8) ∧ ((s.layer src).st = 6 → (t.layer src).st = 3) ∧
            (s.repair.evacAns = true → t.cmd kEvacuate = { last := 0 }))))

/-- QUICK_TEST_PHASE_END moves through the phases, QUICK_TEST_END builds the channel map, QUICK_TEST_TIME_LIMIT ends a test that
runs: The remap phase retires the channels found and leads to the base phase with every in-service layer training. The base
phase retires channels and holds links in RESET; it leads to the loopback phase once training is over too; a global failure
ends the test with result 3 and its time and holds every link. The loopback phase leads to the layer sanity phase. A sanity
phase without findings builds the map of all channels that are neither retired nor taken out, the stack is up, and the
result is 2 where anything was lost and 1 where nothing was. The limit ends a running test like a global failure, with
60,000 µs and the limit recorded. Outside their phases the rows do nothing. (R130; R131; R298; R299; R300;
spec/13_self_test.md, Tables 1 and 2) -/
def Obligations.QuickTestRunsItsPhases : Prop :=
  ∀ (s : State) (f : QtFound), f.wf = true →
    let phase := exec (.quickTestPhaseEnd f) s
    let failed := fun (t : State) => t.boot = .qtFailed ∧ t.qt.result = 3 ∧
      ∀ n, n < enabled s.variant → (t.link n).st = .reset ∧ (t.link n).qtHeld = true
    (s.boot = .qtRemap → ∃ t : State, phase = .next t.settle ∧ t.boot = .qtBase ∧
      (∀ k, k < layerCount s.variant → (t.layer k).st = 1) ∧
      ∀ m ∈ f.chans, m < enabled s.variant → t.retired m = true) ∧
    (s.boot = .qtBase → s.qt.baseDone = false →
      (f.global = false → ∃ t : State, phase = .next t.settle ∧ t.boot = (if s.qt.trainDone then .qtLoopback else .qtBase) ∧
        t.qt.baseDone = true ∧ t.qt.rmapSram = (s.qt.rmapSram || f.rmap) ∧ t.qe.failed = (s.qe.failed || f.qe) ∧
        (∀ m ∈ f.chans, m < enabled s.variant → t.retired m = true) ∧
        ∀ n ∈ f.links, n < enabled s.variant → (t.link n).st = .reset ∧ (t.link n).qtHeld = true) ∧
      (f.global = true → ∃ t : State, phase = .next t.settle ∧ failed t ∧ t.qt.us = f.us ∧ t.qt.globalSram = true)) ∧
    (s.boot = .qtLoopback → f.coils = [] →
      phase = .next (State.settle { s with boot := .qtSanity, qt := { s.qt with loopback := false } })) ∧
    (s.boot ∉ [.qtRemap, .qtBase, .qtLoopback] ∨ (s.boot = .qtBase ∧ s.qt.baseDone = true) → phase = .next s.settle) ∧
    (∀ us, s.boot = .qtSanity → f.rows = [] → f.metaChans = [] →
      ∃ t : State, exec (.quickTestEnd f us) s = .next t.settle ∧ t.boot = .up ∧ t.mapBuilt = true ∧ t.qt.us = us ∧
        t.map = (List.range (enabled s.variant)).filter (fun m => !s.retired m && decide (s.rget (chanKey m 0xE3) = 0)) ∧
        t.qt.result = if s.qt.chanLost ≠ 0 ∨ s.qt.linkLost ≠ 0 ∨ s.qe.failed = true ∨ s.qt.loopback = true ∨ s.qt.rows ≠ 0
          then 2 else 1) ∧
    (∀ us, s.boot ≠ .qtSanity → exec (.quickTestEnd f us) s = .next s.settle) ∧
    (s.boot ∈ [.qtRemap, .qtBase, .qtLoopback, .qtSanity] → ∃ t : State, exec .quickTestTimeLimit s = .next t.settle ∧ failed t ∧
      t.qt.us = 60000 ∧ t.qt.timeLimit = true ∧ t.qt.globalSram = s.qt.globalSram) ∧
    (s.boot ∉ [.qtRemap, .qtBase, .qtLoopback, .qtSanity] → exec .quickTestTimeLimit s = .next s.settle)

/-- SPARGE_SLICE_DUE starts, defers or skips a slice; each SPARGE_ENTRY moves it on, aborts it, or ends it; TEST_HOLD stops the
stack: Where the Sparge of a channel runs and no slice does: causes defer the slice, recorded and counted, among them bit 1
the supplies (the telemetry of the home layer and of VIN_MEM not within 3 % of its nominal values), bit 2 a zone above Z0
and bit 3 self-refresh; with no spare left the position is skipped and counted; else the slice starts at the position's bank
and row. An entry of a slice that may run: a remap entry bad in both copies retires the channel; causes 0 to 2 before E1 to
E8, or a forced self-refresh to come, abort it; an entry before E9 activates the row, counts as maintenance, closes the
bank, keeps the first confirmed failure and moves on; E9 ends the slice, counts it and moves to the next position, and with
a failure first counts it, reports source 26, records the candidate, tallies its column, and remaps the row where repair is
automatic and a spare is idle. TEST_HOLD holds the stack: ports answered, channels forced, quiet links idled, and ends with
OK. (R302; R303; R304; R305; R307; R308; R309; R310; R311; spec/13_self_test.md, Tables 5 and 6) -/
def Obligations.SpargeTestsOneRowAtATime : Prop :=
  ∀ (s : State) (m : Nat), m < 128 →
    let c := s.chan m
    let pos := s.rget (chanKey m 0xF0)
    let onward := fun (t : State) =>
      let n := t.rget (chanKey m 0xF0)
      if n < 524287 then t.rset (chanKey m 0xF0) (n + 1)
      else ((t.rset (chanKey m 0xF0) 0).count (chanKey m 0xF6) 1).modChan m (fun c =>
        { c with rep := { c.rep with tally := [], fullTest := false } })
    (s.spargeRuns m = true → c.rep.slice = none →
      let due := exec (.spargeSliceDue m ()) s
      let why := s.deferCauses m (pos % 16) (pos / 16)
      let within := fun (sub nominal : Nat) => decide (97 * nominal ≤ 100 * s.rget (ekey 0x6000 sub) ∧
        100 * s.rget (ekey 0x6000 sub) ≤ 103 * nominal)
      nbit why 1 = !(within (0x90 + s.home m) 105000 && within (0xA2 + s.home m) 70000 && within (0xB4 + s.home m) 180000 &&
        within 0x84 120000) ∧ nbit why 2 = decide (s.therm.zone ≠ 0) ∧
      nbit why 3 = (c.forced || decide (c.st = .inSr)) ∧
      (why ≠ 0 → due = .next (State.settle
        ((s.modChan m (fun c => { c with rep := { c.rep with lastDefer := why } })).count (chanKey m 0xF2) 1))) ∧
      (why = 0 → 64 ≤ mget 0 c.rep.usedRows (pos % 16) → due = .next (State.settle (onward (s.count (chanKey m 0xF5) 1)))) ∧
      (why = 0 → mget 0 c.rep.usedRows (pos % 16) < 64 → due = .next (State.settle
        (s.modChan m (fun c => { c with rep := { c.rep with slice := some { bank := pos % 16, row := pos / 16 } } }))))) ∧
    (s.spargeRuns m = false ∨ c.rep.slice ≠ none → exec (.spargeSliceDue m ()) s = .next s.settle) ∧
    (∀ diffs rereads env, (Instr.spargeEntry m diffs rereads env).wf = true →
      let entry := exec (.spargeEntry m diffs rereads env) s
      let s' := s.maintCheck m env
      let ran := fun (x : Slice) => ((s'.activate m x.bank x.row).maintained m).modChan m (fun c =>
        { c with openRows := mdel c.openRows x.bank })
      let stops := fun (x : Slice) => (1 ≤ x.entry ∧ x.entry ≤ 8 ∧ s'.spargeCauses m ≠ 0) ∨ (s'.chan m).forced = true
      (∀ x, c.rep.slice = some x → s.mayRun m = true → s'.retired m = true → entry = .next s'.settle) ∧
      (∀ x, c.rep.slice = some x → s.mayRun m = true → s'.retired m = false → stops x → entry = .next (s'.abortSlice m).settle) ∧
      (∀ x, c.rep.slice = some x → s.mayRun m = true → s'.retired m = false → ¬ stops x → x.entry < 9 →
        let found := if x.entry ∈ [2, 3, 4, 5, 6, 8]
          then confirmed (s'.chan m).erased (decide (x.entry = 4 ∨ x.entry = 5)) diffs rereads else none
        entry = .next (State.settle ((ran x).modChan m (fun c => { c with rep := { c.rep with
          slice := some { x with entry := x.entry + 1, fail := if x.fail.isSome then x.fail else found } } })))) ∧
      (∀ x, c.rep.slice = some x → s.mayRun m = true → s'.retired m = false → ¬ stops x → 9 ≤ x.entry →
        let ended := (ran x).modChan m (fun c => { c with rep := { c.rep with slice := none } })
        (x.fail = none → entry = .next (State.settle (onward (ended.count (chanKey m 0xF1) 1)))) ∧
        (∀ b, x.fail = some b →
          let e := candidate 1 2 (ended.home m) m x.bank x.row b.column b.symbol b.bit true
          let told := ((ended.count (chanKey m 0xF4) 1).report 26 m).rset (ekey 0x4800 0x40) e.toNat
          let listed := (told.addCandidate e).tallyFail m x.bank b.column b.symbol
          entry = .next (State.settle (onward ((if told.repairAuto m && told.spareFor e then listed.remapRow m e else listed).count
            (chanKey m 0xF1) 1))))) ∧
      (c.rep.slice = none ∨ s.mayRun m = false → entry = .next s.settle)) ∧
    (∀ (by' : Master) (arg : List Byte),
      let k := ekey 0x4800 0x10
      let u := s.asks by' k arg
      s.obeys by' k arg = true → exec (.testHold by' arg) s = .next (State.settle
        (((({ u with therm := { u.therm with testHeld := true } } : State).stopPorts.forceAll.idleQuietAll).cmdEnd k 0).tells
          s.dict.mpDown by' k 0)))

/-- Each TAP row loads its instruction where it is open, with its register and what it does; one that is not open selects BYPASS
and is counted: BYPASS and IDCODE are always open, SAMPLE/PRELOAD in MFG and RETURN, EXTEST, CLAMP, HIGHZ and the two access
instructions there under test hold, and vendor codes 0x80 to 0xFE in MFG under test hold. An open instruction sits in the
register, selects its data register and drives the pins as it says (EXTEST 1, CLAMP 2, HIGHZ 3); a reserved code stays with
the bypass register selected; a known one that is not open leaves BYPASS and counts. IDCODE captures version, part number
0x6400, maker field and a 1; SAMPLE captures the pins and loads the cells; EXTEST loads the cells; accesses keep their
instruction and capture a free value. Test-Logic-Reset selects IDCODE. What CLAMP and HIGHZ select is the model's choice
(log entry 40). (R301; R371; spec/13_self_test.md, Table 4) -/
def Obligations.TapSelectsOpenInstructions : Prop :=
  ∀ s : State,
    let test := s.lc.st = .mfg ∨ s.lc.st = .ret
    let held := s.therm.testHeld = true
    let opens := fun (code : Nat) => code = 0xFF ∨ code = 0x01 ∨ (code = 0x02 ∧ test) ∨
      (code ∈ [0x03, 0x04, 0x05, 0x10, 0x20] ∧ test ∧ held) ∨ (0x80 ≤ code ∧ code ≤ 0xFE ∧ s.lc.st = .mfg ∧ held)
    let loads := fun (code : Nat) (r : TapReg) (drive : Nat) => { s with tap := { s.tap with ir := code, sel := r, drive := drive } }
    let gives := fun (i : Instr) (t : State) => exec i s = .next t.settle
    (∀ code, code < 256 →
      (opens code → gives (.tapUpdateIr code) (loads code
        (if code = 0x01 then .idcode else if code = 0x02 ∨ code = 0x03 then .boundary else if code = 0x10 then .wrapper
         else if code = 0x20 then .layer else if 0x80 ≤ code ∧ code ≤ 0xFE then .vendor else .bypass)
        (if code = 0x03 then 1 else if code = 0x04 then 2 else if code = 0x05 then 3 else 0))) ∧
      (code ∉ [0x01, 0x02, 0x03, 0x04, 0x05, 0x10, 0x20] → code < 0x80 → gives (.tapUpdateIr code) (loads code .bypass 0)) ∧
      (code ∈ [0x01, 0x02, 0x03, 0x04, 0x05, 0x10, 0x20] ∨ 0x80 ≤ code → ¬ opens code →
        gives (.tapUpdateIr code) ((loads 0xFF .bypass 0).count (ekey 0x4800 0x12) 1))) ∧
    gives .tapBypass (loads 0xFF .bypass 0) ∧
    (let t := loads 0x01 .idcode 0
     gives .tapIdcode { t with tap := { t.tap with
       captured := s.shadowField 0 31 28 * 2 ^ 28 + 0x6400 * 2 ^ 12 + s.shadowField 0 10 0 * 2 + 1 } }) ∧
    (∀ pins cells, test →
      let t := loads 0x02 .boundary 0
      gives (.tapSamplePreload pins cells) { t with tap := { t.tap with captured := pins, cells := cells } }) ∧
    (test → held →
      (∀ cells, let t := loads 0x03 .boundary 1; gives (.tapExtest cells) { t with tap := { t.tap with cells := cells } }) ∧
      gives .tapClamp (loads 0x04 .bypass 2) ∧ gives .tapHighz (loads 0x05 .bypass 3) ∧
      (∀ wir, let t := loads 0x10 .wrapper 0
        gives (.tapWrapper 0 wir) (State.tick { t with tap := { t.tap with wir0 := wir, test := Config.testCapture s.free 0 wir } }) ∧
        gives (.tapWrapper 1 wir) (State.tick { t with tap := { t.tap with wir1 := wir, test := Config.testCapture s.free 1 wir } })) ∧
      ∀ layer cfg, layer < 18 → let t := loads 0x20 .layer 0
        gives (.tapLayer layer cfg) (State.tick { t with tap := { t.tap with
          layerSel := layer, layerCfg := cfg, test := Config.testCapture s.free (2 + layer) cfg } })) ∧
    (∀ code, 0x80 ≤ code → code ≤ 0xFE → opens code → let t := loads code .vendor 0
      gives (.tapVendor code) (State.tick { t with tap := { t.tap with test := Config.vendorTap s.free code } })) ∧
    (∀ pins cells core wir layer cfg code, core < 2 → layer < 18 → code < 256 →
      (¬ opens 0x02 → exec (.tapSamplePreload pins cells) s = exec (.tapUpdateIr 0x02) s) ∧
      (¬ opens 0x03 → exec (.tapExtest cells) s = exec (.tapUpdateIr 0x03) s) ∧
      (¬ opens 0x04 → exec .tapClamp s = exec (.tapUpdateIr 0x04) s) ∧
      (¬ opens 0x05 → exec .tapHighz s = exec (.tapUpdateIr 0x05) s) ∧
      (¬ opens 0x10 → exec (.tapWrapper core wir) s = exec (.tapUpdateIr 0x10) s) ∧
      (¬ opens 0x20 → exec (.tapLayer layer cfg) s = exec (.tapUpdateIr 0x20) s) ∧
      (¬ opens code → exec (.tapVendor code) s = exec (.tapUpdateIr code) s)) ∧
    gives .tapReset (loads 0x01 .idcode 0)

/-- A valid SENSOR_SAMPLE raises its group and TJ; CONVERTER_MINOR_CYCLE serves tiers; failures, GROUP_CLEAR and the board
inputs act: A valid sample below 108 degrees of a trusted diode, with every group trusted and no check failing, is kept; its
group takes the highest trusted reading and counts one sample; TJ is the highest group value. In the evaluator's block reset
the comparator alone acts: 108 degrees trips the stack, which unpowers the layers. Every eighth minor cycle of converter A
closes a millisecond of the activation counts, of which the last eight are kept (log entry 89); a minor cycle gives at most
two groups of its converter the fastest tier and none a faster tier than it asks for, and leaves the other groups. A sensing
failure is kept with its level source and begins a stop. GROUP_CLEAR refuses a group above 19 with 0x0105 and else makes the
diodes of the group trusted again and restarts its numbering. An enabled board input turns what is measured into a
temperature (the diode's ideality divided out; a thermistor at its resistance of 25 degrees, hotter below it and colder
above it; log entry 172) and keeps it as its sample, and the third reading at its limit in a row, or a reading that is no
sample, reports source 54; a valid sample of TD0–TD3 ends the silence of its converter. (R317; R318; R319; R321; R322; R324;
R332; R334; R339; R373; spec/14_thermal.md, Table 2 and Group values and cross-checks) -/
def Obligations.SensorsFeedTheGroups : Prop :=
  ∀ s : State, s.boot ≠ .held → s.power.st ≠ 4 →
    (∀ (i : Nat) (v : Int) (us : Nat), i < 80 → isI20 v = true → s.therm.diodeBad.getLsbD i = false →
      (s.inReset 4 0 = true → 108 * 1024 ≤ v → s.therm.trip = false →
        ∃ t : State, exec (.sensorSample i (some v) us) s = .next t.settle ∧ t.therm.trip = true ∧ t.therm.thermN = true ∧
          t.power.st = 0 ∧ t.rget (ekey 0x0400 0x09) = 1 ∧ ∀ k, k < 18 → (t.layer k).supply = 0 ∧ (t.layer k).locked = false) ∧
      (s.inReset 4 0 = true → v < 108 * 1024 → exec (.sensorSample i (some v) us) s = .next s.settle) ∧
      (let g := i / 4
       let u := { s with therm := { s.therm with sample := mset noSample s.therm.sample i v } }
       s.inReset 4 0 = false → v ≠ noSample → v < 108 * 1024 → s.therm.groupBad = 0 → s.therm.convBad = 0 →
       s.therm.causeSense = false → s.basesBad = false → 2 ≤ (s.trusted g).length → u.sampleStrays i v = false →
       u.neighbourFails g = false → ((s.group g).count < 3 ∨ (s.group g).count % 3 ≠ 0) →
        ∃ t : State, exec (.sensorSample i (some v) us) s = .next t.settle ∧ mget noSample t.therm.sample i = v ∧
          v ≤ (t.group g).value ∧ (t.group g).value ∈ u.readings (s.trusted g) ∧
          (∀ r ∈ u.readings (s.trusted g), r ≤ (t.group g).value) ∧
          (t.group g).count = (s.group g).count + 1 ∧ (∀ k, k ≠ g → t.group k = s.group k) ∧ t.therm.zone = s.therm.zone ∧
          (∀ k, k < 20 → (t.group k).value ≤ t.therm.tj) ∧ t.therm.tj = (t.group t.therm.tjFrom).value)) ∧
    (∀ conv : Nat, conv < 2 → s.inReset 4 0 = false →
      ∃ t : State, exec (.converterMinorCycle conv ()) s = .next t.settle ∧
        (conv = 1 ∨ s.therm.minor < 7 → t.therm.acts = s.therm.acts ∧ t.therm.actNow = s.therm.actNow) ∧
        (conv = 0 → 7 ≤ s.therm.minor → t.therm.actNow = [] ∧
          ∀ k, k < 18 → mget [] t.therm.acts k = (mget 0 s.therm.actNow k :: mget [] s.therm.acts k).take 8) ∧
        (∀ g ∈ converterGroups conv, t.group g = { s.group g with tier := (t.group g).tier } ∧ (t.group g).tier ≤ s.wantedTier g) ∧
        (∀ g, g ∉ converterGroups conv → t.group g = s.group g) ∧
        ((converterGroups conv).filter (fun g => decide ((t.group g).tier = 2))).length ≤ 2) ∧
    (∀ c, c < 2 → s.therm.causeSense = false → exec (.sensingFailure (some c)) s = .next (State.settle
      ((({ s with therm := { s.therm with convBad := nset s.therm.convBad c true, causeSense := true } } : State).setLevel 52
        true).beginStop))) ∧
    (∀ (by' : Master) (arg : List Byte),
      let k := ekey 0x0400 0x12
      let g := bytesNat arg
      s.obeys by' k arg = true →
      (19 < g → exec (.groupClear by' arg) s = .next (State.settle
        (((s.asks by' k arg).setCmd k { s.cmd k with refused := true }).tells s.dict.mpDown by' k 0x0105))) ∧
      (g ≤ 19 → ∃ t : State, exec (.groupClear by' arg) s = .next (State.settle ((t.cmdEnd k 0).tells s.dict.mpDown by' k 0)) ∧
        (∀ i, i < 80 → t.therm.diodeBad.getLsbD i = (s.therm.diodeBad.getLsbD i && decide (i / 4 ≠ g))) ∧
        (∀ j, j < 20 → t.therm.groupBad.getLsbD j = (s.therm.groupBad.getLsbD j && decide (j ≠ g))) ∧
        t.group g = { s.group g with count := 0, recent := [] })) ∧
    (∀ (input : Nat) (raw : Option Nat), (Instr.boardSensorSample input raw).wf = true → s.inReset 4 0 = false →
      let read := s.boardTemp input raw
      let v := read.1
      let r := read.2
      let high := decide (v ≠ noSample) && decide (i20Val (s.rget (ekey 0x0400 (0x31 + input))) ≤ v)
      let run := if high then mget 0 s.therm.boardRun input + 1 else 0
      let t := { r with therm := { s.therm with
        sample := mset noSample s.therm.sample (80 + input) v, boardRun := mset 0 s.therm.boardRun input (Nat.min run 4) } }
      (raw = none → read = (noSample, s)) ∧
      (∀ (x : Nat) (temp : Int), raw = some x → input < 4 → -524287 ≤ temp → temp ≤ 524287 →
        let ideality := s.rget (ekey 0x0400 (0x39 + input))
        0 < ideality → (x * 100000 : Int) = (10 * temp + 2797056) * ideality → read = (temp, s)) ∧
      (∀ ohms, raw = some ohms → 4 ≤ input → (ohms = 10000 → v = celsius 25) ∧ (ohms ≤ 10000 → celsius 25 ≤ v) ∧
        (10000 ≤ ohms → v ≤ celsius 25)) ∧
      exec (.boardSensorSample input raw) s = .next (State.settle
        (let u := if v = noSample ∨ run = 3 then t.report 54 else t
       if nbit (s.rget (ekey 0x0400 0x30)) input = false then s
       else if v ≠ noSample ∧ input < 4 then State.judgeSensing
         { u with therm := { u.therm with convBad := nset u.therm.convBad (input / 2) false } }
       else u)))

/-- ZONE_HOLD_EXPIRY ends the 10 ms limit; a window that closes changes the zone; steps, stops, RESUME and the power warning
follow Tables 4 and 5: The target zone is 3 from any lower zone once all samples of a closed window are at 100 degrees or
more, and 0 once every sample of every closed window is below 83. Where a sample closes a window and reaches no comparator,
a zone other than the target takes it unless a change is less than 10 ms old: then the change is held and counted once, and
waits for a window that closes after ZONE_HOLD_EXPIRY. At a change zone, step and marks are set and the change is counted;
entry into Z3 begins a stop, with an infinite projection where the window does not rise, and trips where the projection is
400 us at most. In Z2 each period moves the step by TJ between 1 and 4. A stop that runs completes when every channel is
past its commit point: links idle, THERM_N asserted, counted; at its timeout it trips. RESUME is refused with 0x0109 during
a stop's work or while a cause stands, ends with OK without a stop, and else releases channels and links. The power warning
sets its cause and level and begins a stop; its end clears both. (R325; R326; R328; R329; R330; R333; R358;
spec/14_thermal.md, Tables 3 to 6) -/
def Obligations.ZonesStopTheStackAndResume : Prop :=
  ∀ s : State,
    let auto := s.rget (ekey 0x0400 0x11)
    let windows := (List.range 20).map (fun g => (s.group g).window)
    (s.therm.zone < 3 → (∃ w ∈ windows, w ≠ [] ∧ ∀ v ∈ w, celsius 100 ≤ v) → s.targetZone = 3) ∧
    ((∀ w ∈ windows, ∀ v ∈ w, v < celsius 83) → s.targetZone = 0) ∧
    exec (.zoneHoldExpiry ()) s = .next (State.settle { s with therm := { s.therm with limit := false } }) ∧
    (∀ i value us, (Instr.sensorSample i value us).wf = true → s.power.st ≠ 4 → s.inReset 4 0 = false → s.boot ≠ .held →
      let e := s.evaluate i value
      let u := e.s
      let gives := fun (t : State) => exec (.sensorSample i value us) s = .next t.judgeSensing.settle
      e.hot = false → u.therm.trip = false →
      (e.closed = false → gives u) ∧
      (e.closed = true → auto = 0 →
        (u.targetZone = u.therm.zone → gives { u with therm := { u.therm with held := false } }) ∧
        (u.targetZone ≠ u.therm.zone → u.therm.limit = true → u.therm.held = true → gives u) ∧
        (u.targetZone ≠ u.therm.zone → u.therm.limit = true → u.therm.held = false →
          gives (({ u with therm := { u.therm with held := true } } : State).count (ekey 0x0400 0x07) 1)) ∧
        (∀ z, u.targetZone = z → z ≠ u.therm.zone → u.therm.limit = false → z ≠ 3 → u.rget (ekey 0x0400 0x06) + 1 < 2 ^ 32 →
          ∃ t : State, gives t ∧ t.therm = { u.therm with
              zone := z, limit := true, held := false, step := if z = 2 then 1 else 0
              causeThermal := u.therm.causeThermal && decide (z ≠ 0) } ∧
            t.rget (ekey 0x0400 0x06) = u.rget (ekey 0x0400 0x06) + 1) ∧
        (let w := (u.group u.therm.tjFrom).window
         let rise := w.headD 0 - w.getLastD 0
         u.targetZone = 3 → u.therm.zone < 3 → u.therm.limit = false → u.therm.stop = 0 →
          (rise ≤ 0 → ∃ t : State, gives t ∧ t.therm.zone = 3 ∧ t.therm.causeThermal = true ∧
            t.therm.projection = 0xFFFFFFFF ∧ t.therm.stop = 1) ∧
          (0 < rise → (celsius 108 - u.therm.tj) * us ≤ 400 * rise →
            ∃ t : State, gives t ∧ t.therm.zone = 3 ∧ t.therm.trip = true)))) ∧
    (s.inReset 4 0 = false → s.therm.zone = 2 → s.therm.trip = false →
      exec .z2StepPeriodExpiry s = .next (State.settle { s with therm := { s.therm with
        step := if celsius 97 ≤ s.therm.tj then Nat.min (s.therm.step + 1) 4
          else if s.therm.tj < celsius 96 then Nat.max (s.therm.step - 1) 1 else s.therm.step } })) ∧
    (s.therm.zone ≠ 2 → exec .z2StepPeriodExpiry s = .next s.settle) ∧
    (let t := s.each (chanNums s) State.forceNow
     s.therm.stop = 1 → s.therm.trip = false → exec .stopComplete s = .next (State.settle
      (if t.allForced then ({ t.idleAll with therm := { t.idleAll.therm with stop := 2, thermN := true } } : State).count
        (ekey 0x0400 0x08) 1 else s)) ∧ exec .stopTimeout s = .next (s.tripNow 3).settle) ∧
    (s.therm.stop ≠ 1 → exec .stopComplete s = .next s.settle ∧ exec .stopTimeout s = .next s.settle) ∧
    (∀ (by' : Master) (arg : List Byte),
      let k := ekey 0x0400 0x10
      let u := s.asks by' k arg
      let may := s.therm.causeSense = false ∧ s.therm.causePower = false ∧ s.therm.causeThermal = false ∧ s.therm.zone = 0 ∧
        s.therm.trip = false
      s.obeys by' k arg = true →
      (¬ may ∨ s.therm.stop = 1 → exec (.resume by' arg) s = .next (State.settle
        ((u.setCmd k { s.cmd k with refused := true }).tells s.dict.mpDown by' k 0x0109))) ∧
      (may → s.therm.stop ∉ [1, 2] → exec (.resume by' arg) s = .next (State.settle ((u.cmdEnd k 0).tells s.dict.mpDown by' k 0))) ∧
      (may → s.therm.stop = 2 → s.power.st = 0 → s.therm.testHeld = false → s.dict.profileWait = false →
        let v := u.each (chanNums s) State.unforce
        exec (.resume by' arg) s = .next (State.settle ((((({ v with therm := { v.therm with stop := 0, thermN := false } }
          : State).each (linkNums v) State.releaseLink)).cmdEnd k 0).tells s.dict.mpDown by' k 0)))) ∧
    (s.boot ≠ .held → s.power.st ≠ 4 → exec .pwrwarnAssert s = .next (State.settle
      ((({ s with power := { s.power with pwrwarn := true }, therm := { s.therm with causePower := true } } : State).setLevel 57
        true).beginStop))) ∧
    (s.boot = .held ∨ s.power.st = 4 → exec .pwrwarnAssert s = .next (State.settle
      { s with power := { s.power with pwrwarn := true } })) ∧
    (∃ t : State, exec .pwrwarnClear s = .next t.settle ∧ t.faults.now.getLsbD 57 = false ∧
      t.power = { s.power with pwrwarn := false } ∧ t.therm = { s.therm with causePower := false })

/-- FAN_LOOP_TICK writes one duty to both outputs; FAN_SPEED_UPDATE, FAN_FAIL_DETECT and FAN_DUTY_TIMEOUT act as R335 to R338
say: While the management processor runs, a tick writes the manual duty, or the sum of the proportional and the integral
term, whose integral lies between 0 and 100 percent, held between the minimum duty and 100 percent; a part of 0.1 percent
goes either way (a free value). A speed is 60 times the pulses by the pulses of a turn, at most 65,535, a part of 1 rpm
either way. A fan that fails with a limit set and at 30 percent duty or more is marked, one that recovers is unmarked, and
FAN_FAIL reports while a mark stands. Without a duty for 500 ms the outputs are at 100 percent. (R335; R336; R337; R338;
spec/14_thermal.md, Cooling) -/
def Obligations.FansFollowTheLoop : Prop :=
  ∀ s : State,
    let g := fun i => s.rget (ekey 0x0400 i)
    let wrote := fun (t : State) (d : Nat) => t.rget (ekey 0x0400 0x26) = d ∧ t.rget (ekey 0x0400 0x27) = d ∧ t.therm.fwLate = false
    (s.mpRuns = true → g 0x20 = 1 → ∃ t : State, exec .fanLoopTick s = .next t.settle ∧ wrote t (g 0x25)) ∧
    (s.mpRuns = true → g 0x20 ≠ 1 →
      let e := s.therm.hottest - i20Val (g 0x21)
      let i := max 0 (min (s.therm.integral + (g 0x23 : Int) * e) (1000 * 10240))
      let d := 10 * (g 0x22 : Int) * e + i
      ∃ (t : State) (part : Int), exec .fanLoopTick s = .next t.settle ∧ t.therm.integral = i ∧ (part = 0 ∨ part = 1) ∧
        (d % 10240 = 0 → part = 0) ∧ wrote t (max (g 0x24 : Int) (min (d / 10240 + part) 1000)).toNat) ∧
    (s.mpRuns = false → exec .fanLoopTick s = .next s.settle) ∧
    (∀ fan pulses, fan < 2 → s.boot ≠ .held → s.power.st ≠ 4 →
      let p := g 0x2A
      ∃ (t : State) (part : Nat), exec (.fanSpeedUpdate fan pulses) s = .next t.settle ∧ part ≤ 1 ∧
        (60 * pulses % p = 0 → part = 0) ∧ t.rget (ekey 0x0400 (0x28 + fan)) = Nat.min (60 * pulses / p + part) 65535 ∧
        ∀ k, k ≠ ekey 0x0400 (0x28 + fan) → t.rget k = s.rget k) ∧
    (∀ fan, fan < 2 → s.boot ≠ .held → s.power.st ≠ 4 →
      let marked := fun (b : Bool) (i : Instr) => ∃ t : State, exec i s = .next t.settle ∧
        t.therm = { s.therm with fanBad := nset s.therm.fanBad fan b } ∧ t.faults.now.getLsbD 53 = decide (t.therm.fanBad ≠ 0)
      marked false (.fanFailDetect fan true) ∧
      (g (0x2B + fan) ≠ 0 → 300 ≤ s.fanDuty fan → marked true (.fanFailDetect fan false)) ∧
      (g (0x2B + fan) = 0 ∨ s.fanDuty fan < 300 → exec (.fanFailDetect fan false) s = .next s.settle)) ∧
    (s.power.st ≠ 4 →
      let t := { s with therm := { s.therm with fwLate := true } }
      exec .fanDutyTimeout s = .next (State.settle t) ∧ ∀ n, t.fanDuty n = 1000)

/-- Power-on, rail, pin and commanded resets restart the stack; what each keeps, what holds it, and when sensing starts: A
power-on reset keeps only the antifuses. RESET_N low resets with cause 1 and holds; its release samples MADDR, and with
REFCLK present and TJ below 83 degrees sensing starts. A rail lost outside P4 resets with cause 3 and holds until
RAIL_RESTART, which starts sensing where RESET_N is high. CHIP_RESET with its key resets with cause 4 and boots at once
where nothing holds the stack; another argument is refused with 0x0105. After each, the reset is counted, the antifuses, the
boundary cells of the TAP and the record of retired channels stay, every link, port and queue is as after a reset, and every
channel that the record does not name is fresh. (R134; R333; R342; R359; R371; R372; R375; R382; R426; spec/15_power.md,
Table 6; spec/16_clocks_resets.md, Table 6) -/
def Obligations.ResetsRestartTheStack : Prop :=
  ∀ s : State,
    let cleared := fun (t : State) (cause : Nat) => t.clk.cause = cause ∧ t.clk.count = s.clk.count + 1 ∧
      t.gran.c0 = s.gran.c0 ∧ t.gran.c1 = s.gran.c1 ∧ t.tap.cells = s.tap.cells ∧ t.repair.retired = s.repair.retired ∧
      t.links = [] ∧ t.ports = [] ∧ t.qe = {} ∧ t.dict = {} ∧ t.mapBuilt = false ∧
      ∀ m, m ∉ s.repair.retired → t.chan m = {}
    exec .powerOnReset s = .next (State.settle { State.reset with
      pending := s.pending, now := s.now, free := s.free, reg := { winFrom := s.now }
      gran := { c0 := s.gran.c0, c1 := s.gran.c1 } }) ∧
    (s.boot = .held → exec .resetNAssert s = .next (State.settle { s with clk := { s.clk with resetN := false } })) ∧
    (s.boot ≠ .held → s.power.pwrwarn = false → ∃ t : State, exec .resetNAssert s = .next t.settle ∧ cleared t 1 ∧ t.boot = .held ∧
      t.clk.resetN = false) ∧
    (∀ a, a < 8 → s.boot = .held → s.clk.resetN = false → s.clk.refclkOk = true → s.power.pwrwarn = false →
      ∃ t : State, exec (.resetNRelease a) s = .next t.settle ∧ t.clk.maddr = a ∧ t.clk.resetN = true ∧
        (s.therm.tj < celsius 83 → t.boot = .sensing ∧ t.clk.locks = 31) ∧
        (celsius 83 ≤ s.therm.tj → t.boot = .held ∧ t.therm.thermN = true)) ∧
    (∀ a, a < 8 → s.boot ≠ .held ∨ s.clk.resetN = true → exec (.resetNRelease a) s = .next s.settle) ∧
    (∀ r, s.boot ≠ .held → s.power.st ≠ 4 → ∃ t : State, exec (.railLoss r) s = .next t.settle ∧ cleared t 3 ∧ t.boot = .held ∧
      t.power.railLost = some r ∧ t.rget (ekey 0x0300 0x16) = railCode r) ∧
    (∀ r, s.power.st = 4 → exec (.railLoss r) s = .next (State.settle { s with power := s.power.setRail r false })) ∧
    (s.power.railLost = none → exec .railRestart s = .next s.settle) ∧
    (s.power.railLost ≠ none → s.boot = .held → s.clk.resetN = true → s.clk.refclkOk = true → s.therm.tj < celsius 83 →
      s.power.pwrwarn = false → s.clk.cause ≠ 2 → ∃ t : State, exec .railRestart s = .next t.settle ∧ t.boot = .sensing ∧
        t.power.coreOk = true ∧ t.power.phyOk = true ∧ t.power.memOk = true ∧ t.power.railLost = none) ∧
    (∀ (by' : Master) (arg : List Byte),
      let k := ekey 0x0500 0x12
      s.obeys by' k arg = true →
      (bytesNat arg ≠ 0xA5C3 → exec (.chipReset by' arg) s = .next (State.settle
        (((s.asks by' k arg).setCmd k { s.cmd k with refused := true }).tells s.dict.mpDown by' k 0x0105))) ∧
      (bytesNat arg = 0xA5C3 → s.clk.resetN = true → s.clk.refclkOk = true → s.power.railLost = none → s.therm.tj < celsius 83 →
        s.power.pwrwarn = false → ∃ t : State, exec (.chipReset by' arg) s = .next (State.settle (t.tells s.dict.mpDown by' k 0)) ∧
          cleared t 4 ∧ t.boot = .sensing))

/-- BLOCK_RESET starts the reset of one block and ends with OK; BLOCK_RESET_END ends it; CDC_RESYNC ends its handshake: A block
reset of an existing block that is not in reset already is counted and listed and does to its block what Table 8 says: a
link is reset with cause 0xA and, if enabled, held in RESET, a channel is held in block reset with an empty queue, the
crossings of link, channel and evaluator are not ready, and the management processor stops and loses a pending bus access;
the command ends with OK, and with 0x0105 and nothing else for a block that does not exist. A block in reset stays as it is.
At its end the block leaves the list: a link leaves RESET for DETECT, or for DISABLED where it is not enabled, unless the
quick test holds it; a channel that is not in forced self-refresh begins an exit with a full window, the management
processor runs again, takes the traps that still stand and sets READY. The handshake of a queue completes where neither side
is in reset, that of a channel to its layer once the layer has its clock. (R40; R175; R369; R370; R373; R375;
spec/16_clocks_resets.md, Tables 5, 7 and 8) -/
def Obligations.BlockResetsHoldOneBlock : Prop :=
  ∀ s : State,
    (∀ (by' : Master) (arg : List Byte),
      let k := ekey 0x0500 0x13
      let code := bytesNat arg % 256
      let inst := bytesNat arg / 256
      let u := s.asks by' k arg
      let begun := fun (t : State) => t.clk.resets = s.clk.resets ++ [(code, inst)] ∧
        (s.rget (ekey 0x0500 0x15) + 1 < 2 ^ 32 → t.rget (ekey 0x0500 0x15) = s.rget (ekey 0x0500 0x15) + 1)
      let there := code < 6 ∧ ((code = 0 ∨ code = 1) ∧ inst < enabled s.variant ∨ 2 ≤ code ∧ inst = 0) ∧
        (code = 1 → s.retired inst = false) ∧ (code = 2 → s.variant ≠ .axd3200)
      s.obeys by' k arg = true →
      (¬ there → ¬ (code = 1 ∧ inst < enabled s.variant) → exec (.blockReset by' arg) s = .next (State.settle
        ((u.setCmd k { s.cmd k with refused := true }).tells s.dict.mpDown by' k 0x0105))) ∧
      (there → s.inReset code inst = true → exec (.blockReset by' arg) s = .next (State.settle
        ((u.cmdEnd k 0).tells s.dict.mpDown by' k 0))) ∧
      (there → s.inReset code inst = false → s.power.st ≠ 4 → ∃ t : State,
        exec (.blockReset by' arg) s = .next (State.settle ((t.cmdEnd k 0).tells s.dict.mpDown by' k 0)) ∧ begun t ∧
        (code = 0 → (t.link inst).cause = 0xA ∧ (s.linkAct inst 1 = 1 → s.lc.st ≠ .void → (t.link inst).st = .reset) ∧ t.clk.nrLink.getLsbD inst = true ∧ (t.link inst).resp = []) ∧
        (code = 1 → (t.chan inst).st = .blockReset ∧ (t.chan inst).queue = [] ∧ t.clk.nrChan.getLsbD inst = true) ∧
        (code = 4 → nbit t.clk.nrOther 1 = true) ∧
        (code = 5 → t.dict.mpDown = true ∧ t.clk.nrOther = 7 ∧ t.bus.acc = none))) ∧
    (∀ code inst, code ≤ 5 → inst < 128 →
      (s.inReset code inst = false → exec (.blockResetEnd code inst) s = .next s.settle) ∧
      (s.inReset code inst = true → ∃ t : State, exec (.blockResetEnd code inst) s = .next t.settle ∧
        t.clk.resets = s.clk.resets.filter (fun x => decide (x ≠ (code, inst))) ∧
        (code ≠ 1 → code ≠ 5 → t.chans = s.chans ∧ t.dict = s.dict) ∧ (code ≠ 0 → code ≠ 1 → code ≠ 5 → t.links = s.links) ∧
        (code = 0 → (∀ n, n ≠ inst → t.link n = s.link n) ∧
          ((s.link inst).st ≠ .reset → t.link inst = s.link inst) ∧
          ((s.link inst).st = .reset → t.link inst = { s.link inst with
            st := if s.linkAct inst 1 = 0 ∨ s.lc.st = .void then .disabled else if (s.link inst).qtHeld then .reset else .detect })) ∧
        (code = 1 → s.retired inst = false → if (s.chan inst).forced then (t.chan inst).st = .inSr
          else (t.chan inst).st = .exiting ∧ (t.chan inst).fullExit = true) ∧
        (code = 5 → t.dict.mpDown = false ∧ nbit t.bus.reasons 2 = true ∧ t.faults.nmiWait = [] ∧
          ∀ n ∈ s.faults.nmiWait, n < 256 → (n ∈ t.faults.nmi ↔ n ∈ s.faults.nmi ∨ s.faults.sticky.getLsbD n = true)))) ∧
    (∀ n, n < 128 →
      (s.inReset 0 n = false → exec (.cdcResync (.link n)) s = .next (State.settle
        { s with clk := { s.clk with nrLink := vset s.clk.nrLink n false } })) ∧
      (s.inReset 0 n = true → exec (.cdcResync (.link n)) s = .next s.settle) ∧
      (s.inReset 1 n = false → exec (.cdcResync (.channel n)) s = .next (State.settle
        { s with clk := { s.clk with
          nrChan := vset s.clk.nrChan n false
          nrLayer := if s.layerClocked n then vset s.clk.nrLayer n false else s.clk.nrLayer } })) ∧
      (s.inReset 1 n = true → exec (.cdcResync (.channel n)) s = .next s.settle)) ∧
    (s.inReset 5 0 = false →
      (∀ e ∈ [(CdcQueue.dictionary, 0), (CdcQueue.bus, 2)], exec (.cdcResync e.1) s = .next (State.settle
        { s with clk := { s.clk with nrOther := nset s.clk.nrOther e.2 false } })) ∧
      (s.inReset 4 0 = false → exec (.cdcResync .thermal) s = .next (State.settle
        { s with clk := { s.clk with nrOther := nset s.clk.nrOther 1 false } })))

/-- POWER_STATE_REQ is judged and begins its change, WAKE_N_ASSERT ends P4, and supply faults take their layer or their
channels: A request above 4 is refused with 0x0105, one before the power-up sequence has ended with 0x0108, and one during a
trip, or during a stop unless it asks for P4, with 0x0109; a request for the state in force ends with OK; a request for P0
from another state leaves P3, clears the change, releases channels and links outside test hold, records cause 1 and ends
with OK. Any other request runs: its target is set, credits are withheld, and no change of profile is applied meanwhile from
P2 on. WAKE_N in P4 brings the rails back and restarts the stack with reset cause 7 and wake cause 2. A supply fault of a
powered layer is counted and reported with its layer, and the layer loses lock; a phase lost of VDD_REP is counted and
reported, and with none left the channels that cross the layer are retired. (R344; R345; R346; R353; R354; R355; R356; R357;
R361; spec/15_power.md, Tables 4 and 5) -/
def Obligations.PowerStatesAndSupplies : Prop :=
  ∀ s : State,
    (∀ (by' : Master) (arg : List Byte),
      let n := bytesNat arg
      let u := s.asks by' kPower arg
      let answer := fun (t : State) (st : Nat) =>
        exec (.powerStateReq by' arg) s = .next (State.settle (t.tells s.dict.mpDown by' kPower st))
      let refusal := fun (st : Nat) => answer (u.setCmd kPower { s.cmd kPower with refused := true }) st
      let ended := s.boot ∈ [.up, .qtFailed, .jointFailed, .voidStop]
      let blocked := s.therm.trip = true ∨ (s.therm.stop ≠ 0 ∧ n ≠ 4)
      s.obeys by' kPower arg = true →
      (4 < n → refusal 0x0105) ∧ (n ≤ 4 → ¬ ended → refusal 0x0108) ∧ (n ≤ 4 → ended → blocked → refusal 0x0109) ∧
      (n ≤ 4 → ended → ¬ blocked → n = s.power.st → answer (u.cmdEnd kPower 0) 0) ∧
      (n = 0 → ended → ¬ blocked → s.power.st ≠ 0 → ∃ t : State, answer (t.cmdEnd kPower 0) 0 ∧
        t.power.st = 0 ∧ t.power.target = 0 ∧ t.power.changing = false ∧ t.rget (ekey 0x0300 0x15) = 1 ∧
        t.rget (ekey 0x0300 0x18) = 0xFF) ∧
      (n ≤ 4 → ended → ¬ blocked → n ≠ s.power.st → n ≠ 0 →
        let v := { u with
          power := { u.power with changing := true, target := n, since := s.now, wakeLater := false }
          dict := { u.dict with draining := true } }
        answer (((if 2 ≤ n then v.holdProfile else v).cmdStart kPower).powerAdvance 6) 0)) ∧
    (s.boot ≠ .held → s.power.st = 4 → ∃ t : State, exec .wakeNAssert s = .next t.settle ∧ t.clk.cause = 7 ∧
      t.power.coreOk = true ∧ t.power.phyOk = true ∧ t.power.memOk = true ∧ t.power.st = 0 ∧ t.rget (ekey 0x0300 0x15) = 2) ∧
    (s.boot ≠ .held → s.power.st ≠ 4 → s.power.target = 4 → s.power.changing = true → s.therm.trip = false →
      exec .wakeNAssert s = .next (State.settle { s with power := { s.power with wakeLater := true } })) ∧
    (s.boot = .held → exec .wakeNAssert s = .next s.settle) ∧
    (∀ k, k < 18 →
      let l := s.layer k
      (s.boot ≠ .held → s.therm.trip = false → s.power.st ≤ 3 →
        (l.supply = 1 ∨ l.supply = 2 → exec (.layerSupplyFault k) s = .next (State.settle
          ((((s.setLayer k { l with supply := 3 }).count (ekey 0x0300 0x71) 1).report 21 k).loseLock k))) ∧
        (1 < l.phases → exec (.vddRepPhaseLoss k) s = .next (State.settle
          (((s.setLayer k { l with phases := l.phases - 1 }).count (ekey 0x0300 0x71) 1).report 21 k))) ∧
        (l.phases = 1 → ∃ t : State, exec (.vddRepPhaseLoss k) s = .next t.settle ∧ (t.layer k).phases = 0 ∧
          ∀ m, m < enabled s.variant → k < s.home m + (s.chan m).vl.extHops → t.retired m = true)) ∧
      (l.supply = 0 ∨ l.supply = 3 → exec (.layerSupplyFault k) s = .next s.settle) ∧
      (l.phases = 0 → exec (.vddRepPhaseLoss k) s = .next s.settle))

/-- PMBUS_POLL, PMBUS_ALERT, AVS_ADJUST and PMBUS_RECOVERY tend the slots; the clock rows judge REFCLK and the loops: With the
controller running, a poll takes the slots, keeps what each used slot answers and marks one that does not, clearing the mark
of the others; an alert keeps the status word of its slot and reports source 56; recovery counts its attempts and sets the
level of source 59 where the line stays low. AVS writes 5 mV more on low slack below 0.85 V and 5 mV less on high slack
after a confirmed write above 0.70 V; held, it keeps the confirmed target and reports source 58 at the tenth low millisecond
in a row. A clock window records the errors; the first without REFCLK starts a holdover, counted and reported as source 64.
REFCLK_RETURN ends it with its longest time, HOLDOVER_TIMEOUT resets with cause 5. A running loop that loses lock resets
with cause 6, but the management loop resets its block. (R347; R348; R349; R350; R351; R352; R364; R365; spec/15_power.md,
The PMBus controller and AVS; spec/16_clocks_resets.md, Clock monitor and Table 3) -/
def Obligations.ControllersTendSlotsAndClocks : Prop :=
  ∀ s : State,
    let key := fun (sub : Nat) => ekey 0x0300 sub
    (∀ replies mode rails, (Instr.pmbusPoll replies mode rails).wf = true → s.pmbusRuns = true → s.power.stuck = false →
      ∃ t : State, exec (.pmbusPoll replies mode rails) s = .next t.settle ∧
        t.power.slots = [0, 1, 2, 3].map (fun d => (s.rget (key (0x40 + d)), s.rget (key (0x44 + d)))) ∧
        t.power.phyOk = (decide (77600 ≤ rails.phy) && decide (rails.phy ≤ 82400)) ∧
        t.rget (ekey 0x6000 0x82) = rails.phy ∧
        ∀ d, d < 4 → match replies.getD d none with
          | some r => s.rget (key (0x40 + d)) ≠ 0 → t.rget (key (0x50 + d)) = r.statusWord ∧ t.rget (key (0x54 + d)) = r.vout ∧
            t.rget (key (0x58 + d)) = r.iout ∧ t.rget (key (0x5C + d)) = r.temp ∧ t.stale d = false
          | none => t.stale d = decide (s.rget (key (0x40 + d)) ≠ 0)) ∧
    (∀ slot w, (Instr.pmbusAlert slot w).wf = true → s.pmbusRuns = true → s.power.stuck = false →
      exec (.pmbusAlert slot w) s = .next (State.settle ((match slot with
        | some d => s.rset (key (0x50 + d)) w
        | none => s.count (key 0x61) 1).report 56))) ∧
    (∀ after, (Instr.pmbusRecovery after).wf = true → s.pmbusRuns = true →
      let t := s.count (key 0x60) (after.getD 3)
      let u := { t with power := { t.power with stuck := after.isNone } }
      exec (.pmbusRecovery after) s = .next (State.settle
        (if after.isNone = s.power.stuck then u else u.setLevel 59 after.isNone))) ∧
    (∀ confirmed, s.pmbusRuns = true → s.power.st ≤ 2 →
      let target := s.rget kTarget
      let known := if confirmed then target else s.power.confirmed
      (∀ mode, s.avsHeldNow = false → s.power.avsMode = some mode → s.slotOf 1 ≠ none →
        (target < 85000 → ∃ t : State, exec (.avsAdjust (-1) confirmed) s = .next t.settle ∧
          t.rget kTarget = Nat.min (target + 500) 85000 ∧ t.power.avsCode = voutCode mode (Nat.min (target + 500) 85000)) ∧
        (known = target → 70000 < target → ∃ t : State, exec (.avsAdjust 1 confirmed) s = .next t.settle ∧
          t.rget kTarget = Nat.max (target - 500) 70000 ∧ t.power.avsCode = voutCode mode (Nat.max (target - 500) 70000)) ∧
        exec (.avsAdjust 0 confirmed) s = .next (State.settle { s with power := { s.power with
          confirmed := known, lowSlack := 0 } })) ∧
      (∀ slack, s.avsHeldNow = true → (slack = -1 ∨ slack = 0 ∨ slack = 1) →
        let n := if slack < 0 then Nat.min (s.power.lowSlack + 1) 11 else 0
        let t := ({ s with power := { s.power with confirmed := known, lowSlack := n } } : State).rset kTarget known
        exec (.avsAdjust slack confirmed) s = .next (State.settle (if n = 10 then t.report 58 else t)))) ∧
    (∀ errs ok, (Instr.clockMonitorWindow errs ok).wf = true → s.boot ≠ .held → s.power.st ≠ 4 →
      ∃ t : State, exec (.clockMonitorWindow errs ok) s = .next t.settle ∧ t.clk.refclkOk = ok ∧
        t.clk.holdover = (s.clk.holdover || !ok) ∧ (∀ i, i < 6 → t.rget (ekey 0x0500 (0x20 + i)) = i20 (errs.getD i 0)) ∧
        (ok = false → s.clk.holdover = false → s.rget (ekey 0x0500 0x02) < 255 →
          t.rget (ekey 0x0500 0x02) = s.rget (ekey 0x0500 0x02) + 1) ∧
        (ok = true ∨ s.clk.holdover = true → t.rget (ekey 0x0500 0x02) = s.rget (ekey 0x0500 0x02) ∧ t.faults = s.faults)) ∧
    (∀ us, s.boot ≠ .held →
      (s.clk.holdover = true → exec (.refclkReturn us) s = .next (State.settle
        (({ s with clk := { s.clk with holdover := false, refclkOk := true } } : State).rset (ekey 0x0500 0x03)
          (Nat.max (s.rget (ekey 0x0500 0x03)) (Nat.min us (2 ^ 32 - 1)))))) ∧
      (s.clk.holdover = false → exec (.refclkReturn us) s = .next s.settle ∧ exec .holdoverTimeout s = .next s.settle)) ∧
    (s.clk.holdover = true → ∃ t : State, exec .holdoverTimeout s = .next t.settle ∧ t.boot = .held ∧ t.clk.cause = 5 ∧
      t.clk.refclkOk = false) ∧
    (∀ p, s.pllRuns p = true → p ≠ .mgmt → ∃ t : State, exec (.pllLossOfLock p) s = .next t.settle ∧ t.clk.cause = 6 ∧
      t.clk.count = s.clk.count + 1) ∧
    (s.pllRuns .mgmt = true → exec (.pllLossOfLock .mgmt) s = .next (State.settle
      (({ s with clk := { s.clk with locks := nset s.clk.locks 1 false } } : State).startBlockReset 5 0))) ∧
    (∀ p, s.pllRuns p = false → exec (.pllLossOfLock p) s = .next s.settle)

/-- A report sets its sticky bit and reacts by its mask; wire faults, clears, masks and the watchdog act as R377 to R387 say: A
report outside a chip reset, with the pair of its source opposite, sets the sticky bit and no other; CHIPRST of an armed
source asks for a chip reset; else IRQ sets the FAULT reason on the bit's change, and BLOCKRST asks for the reset of the
block of the source. A wire fault that the collector judges sets the WIRE bit and marks the pair, and its end unmarks it and
lets a level source that reports do so. A write of 1 clears a sticky or WIRE bit, a write of 0 nothing; STICKY_CLEAR and
WIRE_CLEAR clear what they select; a level source that still reports sets its bit again, as does a pair that still reads
equal, and a report of the same cycle sets it after the clear. REACTION takes five bits, but BLOCKRST of a source without a
block, and either reset in WIRE_REACTION, is refused with 0x0105. The watchdog reports sources 80 and 81 while the processor
runs. (R377; R378; R379; R381; R382; R385; R387; R442; spec/17_faults.md, Tables 2 and 7) -/
def Obligations.FaultsAreRecordedAndCleared : Prop :=
  ∀ s : State,
    let f := s.faults
    (∀ n inst, n < 128 → s.boot ≠ .held → f.equal.getLsbD n = false →
      let t := s.report n inst
      let mask := s.reaction n
      let was := f.sticky.getLsbD n
      let quiet := isLevel n = true ∧ was = true
      let chip := nbit mask 3 = true ∧ f.disarmed.getLsbD n = false
      t.faults.sticky.getLsbD n = true ∧ (∀ j, j < 128 → j ≠ n → t.faults.sticky.getLsbD j = f.sticky.getLsbD j) ∧
      (¬ quiet → chip → n ∈ t.faults.chipReq) ∧ (¬ chip → nbit mask 0 = true → was = false → nbit t.bus.reasons 0 = true) ∧
      (∀ b, ¬ quiet → ¬ chip → nbit mask 2 = true → sourceBlock n = some b → (b, inst) ∈ t.faults.blockReq)) ∧
    (∀ n, n < 128 →
      (s.judges n = true → ∃ t : State, exec (.wireFault n true) s = .next t.settle ∧ t.faults.equal.getLsbD n = true ∧
        t.faults.wire.getLsbD n = true ∧ (∀ j, j < 128 → j ≠ n → t.faults.wire.getLsbD j = f.wire.getLsbD j) ∧
        (nbit s.wireReaction 0 = true → f.wire.getLsbD n = false → nbit t.bus.reasons 0 = true)) ∧
      (s.judges n = false → exec (.wireFault n true) s = .next s.settle) ∧
      (let t := { s with faults := { f with equal := vset f.equal n false } }
       exec (.wireFault n false) s = .next (State.settle
        (if f.equal.getLsbD n = true ∧ f.now.getLsbD n = true ∧ s.judges n = true then t.report n else t)))) ∧
    (∀ (m : Master) (n : Nat) (wire : Bool) (val : List Byte) (again : Option (Nat × Nat)),
      let key := sourceKey n (if wire then 2 else 1)
      (Instr.stickyWrite m n wire val again).wf = true → s.hears m = true → s.judge key = 0 →
      (val = [0] → again = none → exec (.stickyWrite m n wire val again) s = .next (State.settle
        ((s.asks m key val).tells s.dict.mpDown m key 0))) ∧
      (val = [1] → again = none → ∃ t : State,
        exec (.stickyWrite m n wire val again) s = .next (State.settle (t.tells s.dict.mpDown m key 0)) ∧
        (wire = false → t.faults.sticky.getLsbD n = (f.now.getLsbD n && !f.equal.getLsbD n) ∧
          t.faults.disarmed.getLsbD n = false ∧ ∀ j, j < 128 → j ≠ n → t.faults.sticky.getLsbD j = f.sticky.getLsbD j) ∧
        (wire = true → t.faults.wire.getLsbD n = f.equal.getLsbD n ∧
          ∀ j, j < 128 → j ≠ n → t.faults.wire.getLsbD j = f.wire.getLsbD j)) ∧
      (val = [1] → again ≠ none → wire = false → isSource n = true → isLevel n = false → s.judges n = true →
        f.equal.getLsbD n = false → ∃ t : State,
          exec (.stickyWrite m n wire val again) s = .next (State.settle (t.tells s.dict.mpDown m key 0)) ∧
          t.faults.sticky.getLsbD n = true)) ∧
    (∀ (m : Master) (wire : Bool) (val : List Byte),
      let key := ekey 0x4000 (if wire then 0x83 else 0x82)
      let ns := BitVec.ofNat 128 (bytesNat val)
      m.wf = true → s.hears m = true → s.judge key = 0 → val.length = 16 → ∃ t : State,
        exec (.stickyClear m wire val) s = .next (State.settle (t.tells s.dict.mpDown m key 0)) ∧
        ∀ j, j < 128 →
          (wire = false → t.faults.wire.getLsbD j = f.wire.getLsbD j ∧ t.faults.sticky.getLsbD j =
            if ns.getLsbD j then f.now.getLsbD j && !f.equal.getLsbD j else f.sticky.getLsbD j) ∧
          (wire = true → t.faults.sticky.getLsbD j = f.sticky.getLsbD j ∧ t.faults.wire.getLsbD j =
            if ns.getLsbD j then f.equal.getLsbD j else f.wire.getLsbD j)) ∧
    (∀ (m : Master) (source : Option Nat) (v : Byte),
      let key := source.elim (ekey 0x4000 0x84) (fun n => sourceKey n 3)
      let u := s.asks m key [v]
      let bad := source.elim (nbit v.toNat 2 || nbit v.toNat 3)
        (fun n => isSource n && nbit v.toNat 2 && (sourceBlock n).isNone)
      (Instr.reactionWrite m source [v]).wf = true → s.hears m = true → s.judge key = 0 →
      (bad = true → exec (.reactionWrite m source [v]) s = .next (State.settle (u.tells s.dict.mpDown m key 0x0105))) ∧
      (bad = false → source.all isSource = true → exec (.reactionWrite m source [v]) s = .next (State.settle
        ((u.rset key (v.toNat % 32)).tells s.dict.mpDown m key 0)))) ∧
    (s.mpRuns = true → exec .mgmtWdtWarn s = .next (s.report 80).settle ∧ exec .mgmtWdt s = .next (s.report 81).settle) ∧
    (s.mpRuns = false → exec .mgmtWdtWarn s = .next s.settle ∧ exec .mgmtWdt s = .next s.settle)

/-- Sensing fills the shadows and names the life-cycle state; GRAN_RESENSE, GRAN_PROGRAM, GRAN_LOCK, HARDEN and mark completion
act: The end of sensing copies the normal sense to the shadows, decodes the life-cycle state, and leads to the quick test,
to a failed joint, or in VOID to the end of the sequence. A re-sense keeps the shadows, lists the words that differ from
them, keeps the marginal words and records the temperature. GRAN_PROGRAM and GRAN_LOCK that are refused change nothing else;
GRAN_PROGRAM that meets no trouble leaves every masked bit reading 1 at margin sense in its word alone, in both copies, and
counts; bits that do not verify end it with 0x0411, and a lost condition with 0x0109. GRAN_LOCK makes the locks it names act
and clears none. HARDEN writes the one record due at the first free word; without a record it ends with OK. An incomplete
mark is completed where programming is allowed. (R288; R390; R394; R395; R401; R403; R404; R405; R406; R409; R410;
spec/18_granary.md, Tables 2, 6 and 9) -/
def Obligations.GranarySensesAndPrograms : Prop :=
  ∀ s : State,
    (∀ at' joint, (Instr.granarySensingEnd at' joint).wf = true →
      (s.boot = .sensing → ∃ t : State, exec (.granarySensingEnd at' joint) s = .next t.settle ∧
        t.gran.shadow = t.gran.normal ∧ t.lc.st = lcDecode t.gran.shadow ∧ (at' = [] → t.gran.normal = s.gran.fused) ∧
        t.boot = (if t.lc.st = .void then .voidStop else if joint then .qtRemap else .jointFailed) ∧
        (t.boot = .qtRemap → ∀ k, k < layerCount t.variant → (t.layer k).supply = 2 ∧ (t.layer k).phases = 2) ∧
        (t.boot = .voidStop → ∀ n, n < enabled t.variant → (t.link n).st = .disabled)) ∧
      (s.boot ≠ .sensing → exec (.granarySensingEnd at' joint) s = .next s.settle)) ∧
    (∀ (m : Master) (arg : List Byte) (sense : List SenseAt),
      let k := ekey 0x5000 0x08
      s.obeys m k arg = true → sense.all SenseAt.wf = true → ∃ t : State,
        exec (.granResense m arg sense) s = .next (State.settle ((t.cmdEnd k 0).tells s.dict.mpDown m k 0)) ∧
        t.gran.shadow = s.gran.shadow ∧ t.gran.changed = wordsDiffering t.gran.normal s.gran.shadow ∧
        (∀ w ∈ s.gran.marginal, w ∈ t.gran.marginal) ∧ t.rget (ekey 0x5000 0x0E) = i20 s.therm.tj) ∧
    (∀ (m : Master) (arg : List Byte) (env : ProgEnv),
      let k := ekey 0x5000 0x06
      let u := s.asks m k arg
      let w := bytesNat arg % 65536
      let mask := BitVec.ofNat 32 (bytesNat arg / 65536)
      let need := mask &&& ~~~ gword s.gran.margin w
      let why := s.programRefused w mask
      let ended := fun (t : State) (st : Nat) =>
        exec (.granProgram m arg env) s = .next (State.settle ((t.cmdEnd k st).tells s.dict.mpDown m k 0))
      s.obeys m k arg = true →
      (1023 < w → why = 0x0105) ∧ (s.progOk = false → why ≠ 0) ∧
      (why ≠ 0 → exec (.granProgram m arg env) s = .next (State.settle
        ((u.setCmd k { s.cmd k with refused := true }).tells s.dict.mpDown m k why))) ∧
      (why = 0 → env.stopAfter = none → need &&& env.stuck = 0 → ∃ t : State, ended t 0 ∧
        gword t.gran.margin w = gword s.gran.margin w ||| mask ∧
        gword t.gran.c0 w = gword s.gran.c0 w ||| need ∧ gword t.gran.c1 w = gword s.gran.c1 w ||| need ∧
        (∀ x, x ≠ w → gword t.gran.margin x = gword s.gran.margin x ∧ gword t.gran.c0 x = gword s.gran.c0 x ∧
          gword t.gran.c1 x = gword s.gran.c1 x ∧ gword t.gran.shadow x = gword s.gran.shadow x) ∧
        t.gran.wlock = s.gran.wlock ∧ t.lc = s.lc) ∧
      (why = 0 → env.stopAfter = none → need &&& env.stuck ≠ 0 → ∃ t : State, ended t 0x0411 ∧
        gword t.gran.margin w = gword s.gran.margin w ||| (need &&& ~~~ env.stuck) ∧ w ∈ t.gran.marginal) ∧
      (why = 0 → env.stopAfter = some 0 → ∃ t : State, ended t 0x0109)) ∧
    (∀ (m : Master) (arg : List Byte),
      let k := ekey 0x5000 0x07
      let r := bytesNat arg % 256
      let locks := bytesNat arg / 256
      let why := s.lockRefused r
      s.obeys m k arg = true →
      (8 < r ∨ r = 3 → why = 0x0105) ∧
      (why ≠ 0 → exec (.granLock m arg {}) s = .next (State.settle
        (((s.asks m k arg).setCmd k { s.cmd k with refused := true }).tells s.dict.mpDown m k why))) ∧
      (why = 0 → ∃ t : State, exec (.granLock m arg {}) s = .next (State.settle ((t.cmdEnd k 0).tells s.dict.mpDown m k 0)) ∧
        (nbit locks 0 = true → nbit t.gran.wlock r = true) ∧ (nbit locks 1 = true → nbit t.gran.rlock r = true) ∧
        ∀ j, (nbit s.gran.wlock j = true → nbit t.gran.wlock j = true) ∧ (nbit s.gran.rlock j = true → nbit t.gran.rlock j = true))) ∧
    (∀ (m : Master) (arg : List Byte),
      let k := ekey 0x1C00 0x0E
      let u := s.asks m k arg
      s.obeys m k arg = true →
      (s.hardenRefused ≠ 0 → exec (.harden m arg {}) s = .next (State.settle
        ((u.setCmd k { s.cmd k with refused := true }).tells s.dict.mpDown m k s.hardenRefused))) ∧
      (s.hardenRefused = 0 → s.repair.unhardened = [] → exec (.harden m arg {}) s = .next (State.settle
        ((u.cmdEnd k 0).tells s.dict.mpDown m k 0))) ∧
      (∀ r w rest, s.hardenRefused = 0 → s.repair.unhardened = [r] → s.freeRecords = w :: rest → ∃ t : State,
        exec (.harden m arg {}) s = .next (State.settle ((t.cmdEnd k 0).tells s.dict.mpDown m k 0)) ∧
        t.repair.unhardened = [] ∧ gword t.gran.margin w = gword s.gran.margin w ||| r)) ∧
    (∀ k, s.partialMark = some k → s.boot ≠ .held → s.boot ≠ .sensing → s.progOk = true → ∃ t : State,
      exec (.lcMarkComplete {}) s = .next t.settle ∧ gword t.gran.margin (markWord k) &&& markMask k = markMask k ∧ t.lc = s.lc) ∧
    (∀ env, s.partialMark = none ∨ s.progOk = false → exec (.lcMarkComplete env) s = .next s.settle)

/-- LC_TO_FIELD, LC_RETURN and LC_VOID are refused in their order, or program their mark and change the life-cycle state: With
the state decoded: LC_TO_FIELD needs MFG, the programming conditions and five regions with good CRCs, else 0x0109; with
fuses that verify it ends with OK in FIELD. LC_RETURN after four refusals answers 0x0422, under the policy of the key region
0x0421, outside FIELD or its preconditions 0x0109, and an authorization that does not verify ends it with 0x0420; the first
two and the last count a refusal, and every outcome draws a new nonce (a free value). An authorized return with fuses that
verify ends with OK in RETURN, with every region map cleared, the time of the wipe kept and the read lock of region 7 in
force. LC_VOID needs its key, else 0x0105, and MFG or RETURN with the programming conditions, else 0x0109; it ends with OK
in VOID, with links disabled and layers unpowered. (R415; R416; R417; R418; R419; R420; R421; spec/19_lifecycle.md, Tables
3, 5 and 10) -/
def Obligations.LifeCycleMovesOnlyForward : Prop :=
  ∀ (s : State) (m : Master) (arg : List Byte), s.boot ≠ .held → s.boot ≠ .sensing →
    let n := bytesNat arg
    let refusal := fun (i : Instr) (k st : Nat) (u : State) => exec i s = .next (State.settle
      ((u.setCmd k { s.cmd k with refused := true }).tells s.dict.mpDown m k st))
    let ended := fun (i : Instr) (k st : Nat) (t : State) => exec i s = .next (State.settle
      ((t.cmdEnd k st).tells s.dict.mpDown m k 0))
    (let k := ekey 0x0200 0x05
     let good := fun (r : Nat) => nbit s.gran.crcChecked r = true ∧ nbit s.gran.crcFail r = false
     let may := s.lc.st = .mfg ∧ s.progOk = true ∧ ∀ r ∈ [0, 1, 2, 4, 5], good r
     s.obeys m k arg = true →
      (∀ env, ¬ may → refusal (.lcToField m arg env) k 0x0109 (s.asks m k arg)) ∧
      (may → ∃ t : State, ended (.lcToField m arg {}) k 0 t ∧ t.lc.st = .field ∧
        gword t.gran.margin 88 &&& 0xFFFF = 0xFFFF)) ∧
    (∀ us env,
     let k := ekey 0x0200 0x06
     let i := Instr.lcReturn m arg us env
     let u := s.asks m k arg
     let told := { u with lc := { u.lc with refusals := s.lc.refusals + 1 } }.report 88
     let fresh := fun (t : State) => State.tick { t with lc := { t.lc with nonce := Config.nonce s.free } }
     let barred := s.lc.st ≠ .field ∨ s.progOk = false ∨ s.evacRuns = true ∨ s.therm.testHeld = true ∨ s.therm.stop ≠ 0 ∨
       s.therm.trip = true ∨ s.power.st ≠ 0 ∨ s.power.changing = true
     s.obeys m k arg = true →
      (4 ≤ s.lc.refusals → refusal i k 0x0422 (fresh told)) ∧
      (s.lc.refusals < 4 → nbit s.gran.policy 4 = true → refusal i k 0x0421 (fresh told)) ∧
      (s.lc.refusals < 4 → nbit s.gran.policy 4 = false → barred → refusal i k 0x0109 (fresh u)) ∧
      (s.lc.refusals < 4 → nbit s.gran.policy 4 = false → ¬ barred → s.authorized = false → ended i k 0x0420 (fresh told)) ∧
      (s.lc.refusals < 4 → nbit s.gran.policy 4 = false → ¬ barred → s.authorized = true → env = {} →
        ∃ t : State, ended i k 0 t ∧ t.lc.st = .ret ∧ t.lc.wipeUs = us ∧ nbit t.gran.rlock 7 = true ∧
          ∀ c, c < enabled s.variant → (t.chan c).mem.rmap = [])) ∧
    (let k := ekey 0x0200 0x07
     let may := (s.lc.st = .mfg ∨ s.lc.st = .ret) ∧ s.progOk = true
     s.obeys m k arg = true →
      (∀ env, n ≠ 0x44494F56 → refusal (.lcVoid m arg env) k 0x0105 (s.asks m k arg)) ∧
      (∀ env, n = 0x44494F56 → ¬ may → refusal (.lcVoid m arg env) k 0x0109 (s.asks m k arg)) ∧
      (n = 0x44494F56 → may → ∃ t : State, ended (.lcVoid m arg {}) k 0 t ∧ t.lc.st = .void ∧
        (∀ l, l < enabled s.variant → (t.link l).st = .disabled) ∧ ∀ l, l < 18 → (t.layer l).supply = 0))

/-- DICT_WRITE and DICT_READ are judged and accepted, DICT_RESULT shows the result frame, BUS_ACCESS_COMPLETE ends the access:
Where the target answers: with an access pending, an access command is not acknowledged and is counted. Else a write part
that is short aborts (flag 2), one that is long sets flag 5, and one whose PEC fails, or is missing where it is required,
sets flag 3, and nothing is accessed. A good DICT_WRITE of three or more bytes is accepted under the next sequence number
with its entry and value; a bad count is accepted as MALFORMED 0x010A. A good DICT_READ is accepted, and its frame shows the
access pending, or, where the access ends within the stretch, its status and value. DICT_RESULT returns count, state,
sequence, status and value with the PEC of the whole transaction. A completion performs the access, or loses it where its
request or result was bad. Where the target does not answer, the three commands do nothing. (R428; R429; R430; R432; R433;
R434; R435; R439; R441; spec/20_management_bus.md, Tables 1 and 2) -/
def Obligations.BusServesTheDictionary : Prop :=
  ∀ s : State,
    let silent := { s with bus := { s.bus with out := [] } }
    let stop := fun (t : State) => t.count (ekey 0x5800 0x10) 1
    let frame := fun (b : Bus) => BitVec.ofNat 8 (4 + b.value.length) :: BitVec.ofNat 8 b.state :: b.seq :: (natBytes 2 b.status ++ b.value)
    let required := s.flag (ekey 0x5800 0x03)
    (∀ (read : Bool) (count : Nat) (data : List Byte) (within : Option BusEnd) (us : Nat),
      let i := if read then Instr.dictRead count data within us else Instr.dictWrite count data
      let head : List Byte := [s.addrByte false, if read then 0x01 else 0x02, BitVec.ofNat 8 count]
      let bytes := data.take count
      let good := (data.length = count ∧ required = false) ∨ (data.length = count + 1 ∧ pecOf (head ++ data) = 0)
      let key := frameKey bytes
      i.wf = true →
      (s.busAnswers = false → exec i s = .next s.settle) ∧
      (s.busAnswers = true → s.bus.acc ≠ none → ∃ t : State, exec i s = .next t.settle ∧ t.bus = silent.bus ∧
        (s.rget (ekey 0x5800 0x12) + 1 < 2 ^ 32 → t.rget (ekey 0x5800 0x12) = s.rget (ekey 0x5800 0x12) + 1)) ∧
      (s.busAnswers = true → s.bus.acc = none →
        (data.length < count → exec i s = .next (State.settle ((silent.busFlag 2).count (ekey 0x5800 0x11) 1))) ∧
        (count + 1 < data.length → exec i s = .next (State.settle (stop (silent.busFlag 5)))) ∧
        (count ≤ data.length → data.length ≤ count + 1 → ¬ good → exec i s = .next (State.settle (stop (silent.busFlag 3)))) ∧
        (good → read = false → 3 ≤ count → exec i s = .next (State.settle (stop { silent with bus := { silent.bus with
          seq := s.bus.seq + 1, state := 1, status := 0, value := []
          acc := some { read := false, key := key, val := bytes.drop 3 } } }))) ∧
        (good → read = false → count < 3 → exec i s = .next (State.settle (stop { silent with bus := { silent.bus with
          seq := s.bus.seq + 1, state := 0, status := 0x010A, value := [], acc := none } }))) ∧
        (good → read = true → count = 3 →
          let a : BusAcc := { read := true, key := key, val := [] }
          let taken := { silent with bus := { silent.bus with
            seq := s.bus.seq + 1, state := 1, status := 0, value := [], acc := some a } }
          let shown := fun (t : State) => exec i s = .next t.settle ∧ t.bus.seq = s.bus.seq + 1 ∧
            t.bus.out = frame t.bus ++ [pecOf (head ++ data ++ [s.addrByte true] ++ frame t.bus)]
          (within = none → ∃ t : State, shown t ∧ t.bus.acc = some { a with told := true } ∧ t.bus.state = 1) ∧
          (within = some .done → ∃ t : State, shown t ∧ t.bus.acc = none ∧ t.bus.state = 0 ∧
            t.bus.status = (taken.readEntry key).1 ∧
            t.bus.value = if (taken.readEntry key).1 = 0 then (taken.readEntry key).2 else []) ∧
          (within = some .requestBad → ∃ t : State, shown t ∧ t.bus.state = 0 ∧ t.bus.status = 0x010A ∧ t.bus.flags.getLsbD 6 = true) ∧
          (within = some .resultBad → ∃ t : State, shown t ∧ t.bus.state = 3 ∧ t.bus.flags.getLsbD 6 = true)))) ∧
    (s.busAnswers = true → exec .dictResult s = .next (State.settle (stop { s with bus := { s.bus with
      out := frame s.bus ++ [pecOf ([s.addrByte false, 0x03, s.addrByte true] ++ frame s.bus)]
      acc := s.bus.acc.map (fun a => { a with told := true }) } }))) ∧
    (s.busAnswers = false → exec .dictResult s = .next s.settle) ∧
    (∀ how, s.bus.acc = none ∨ s.bus.acc.any BusAcc.waits = true → exec (.busAccessComplete how) s = .next s.settle) ∧
    (∀ a, s.bus.acc = some a → a.waits = false →
      (a.read = true → ∃ t : State, exec (.busAccessComplete .done) s = .next t.settle ∧ t.bus.acc = none ∧ t.bus.state = 0 ∧
        t.bus.status = (s.readEntry a.key).1 ∧ (a.told = true → nbit t.bus.reasons 1 = true)) ∧
      (∀ st t, a.read = false → (s.accessBy 128).writeEntry .bus a.key a.val {} = (some st, t) →
        exec (.busAccessComplete .done) s = .next (t.busDone st []).settle) ∧
      exec (.busAccessComplete .requestBad) s = .next (State.settle ((s.busFlag 6).busDone 0x010A [])) ∧
      (a.read = true → exec (.busAccessComplete .resultBad) s = .next ((s.busFlag 6).accessBy 128).busLost.settle))

/-- BUS_FLAGS, WINDOW, the attention rows and the error rows act on flags, scratch area and reasons as the target's rules say:
Where the target answers: the flags are returned with their PEC; a good write of two bytes clears the flags of its mask, and
a bad one sets flag 2, 5 or 3 as a dictionary frame does. A window read returns the bytes of the page from its pointer on,
with wrap; a window write puts its bytes into the scratch area, or where a PEC is required sets flag 3. An attention read
returns the reasons, clears them and is counted. A request is made where it is enabled and a reason stands: answered, it
delivers the reasons; without a clock it sets flag 7; unanswered it waits for its retry, which does the same, or is given up
where no reason stands. An undefined code sets flag 4, a protocol error aborts with flag 2, a timeout aborts with flag 1 or
sets it. Where the target does not answer, none of them does anything. (R431; R437; R438; R439; R440; R441; R442; R443;
R444; R445; spec/20_management_bus.md, Tables 3, 5 and 6) -/
def Obligations.BusFlagsWindowAndAttention : Prop :=
  ∀ s : State,
    let silent := { s with bus := { s.bus with out := [] } }
    let stop := fun (t : State) => t.count (ekey 0x5800 0x10) 1
    let gives := fun (i : Instr) (t : State) => exec i s = .next t.settle
    let required := s.flag (ekey 0x5800 0x03)
    let r : Byte := BitVec.ofNat 8 s.bus.reasons
    let deliver := fun (t : State) => State.count { t with bus := { t.bus with
      out := [r, pecOf [s.addrByte true, r]], reasons := 0 } } (ekey 0x5800 0x13) 1
    (s.busAnswers = true →
      gives .busFlagsRead (stop { s with bus := { s.bus with out := natBytes 2 s.bus.flags.toNat ++
        [pecOf ([s.addrByte false, 0x04, s.addrByte true] ++ natBytes 2 s.bus.flags.toNat)] } }) ∧
      (∀ data : List Byte, (Instr.busFlagsWrite data).wf = true →
        let good := (data.length = 2 ∧ required = false) ∨
          (data.length = 3 ∧ pecOf ([s.addrByte false, 0x04] ++ data) = 0)
        (good → gives (.busFlagsWrite data) (stop { silent with bus := { silent.bus with
          flags := s.bus.flags &&& ~~~ BitVec.ofNat 16 (bytesNat (data.take 2)) } })) ∧
        (data.length < 2 → gives (.busFlagsWrite data) ((silent.busFlag 2).count (ekey 0x5800 0x11) 1)) ∧
        (3 < data.length → gives (.busFlagsWrite data) (stop (silent.busFlag 5))) ∧
        (data.length = 2 ∨ data.length = 3 → ¬ good → gives (.busFlagsWrite data) (stop (silent.busFlag 3)))) ∧
      (∀ ptr n, ptr < 256 → n < 256 → gives (.windowRead ptr n) (stop { s with bus := { s.bus with
        ptr := (ptr + n) % 256, out := (List.range n).map (fun i => s.window.getD ((ptr + i) % 256) 0) } })) ∧
      (∀ ptr (data : List Byte), (Instr.windowWrite ptr data).wf = true →
        let t := { silent with bus := { silent.bus with ptr := (ptr + data.length) % 256 } }
        gives (.windowWrite ptr data) (stop (if data = [] then t else if required then t.busFlag 3
          else t.rset (ekey 0x5800 0x07) (scratchWrite ptr data (s.rget (ekey 0x5800 0x07)))))) ∧
      gives .attentionRead (stop (deliver s)) ∧
      (∀ code, code < 256 → code ∉ [0x01, 0x02, 0x03, 0x04, 0x20] → gives (.mbUndefinedCommand code) (silent.busFlag 4)) ∧
      gives .mbProtocolError ((silent.busFlag 2).count (ekey 0x5800 0x11) 1) ∧
      gives (.mbTimeout true) ((silent.busFlag 1).count (ekey 0x5800 0x11) 1) ∧
      gives (.mbTimeout false) (silent.busFlag 1)) ∧
    (s.busAnswers = false → ∀ i ∈ [Instr.busFlagsRead, .attentionRead, .mbProtocolError, .mbTimeout true, .mbTimeout false,
      .busFlagsWrite [1, 2], .windowRead 0 16, .windowWrite 128 [1], .mbUndefinedCommand 5], gives i s) ∧
    (let wants := s.busAnswers = true ∧ s.flag (ekey 0x5800 0x04) = true ∧ s.bus.reasons ≠ 0
     let again := { s with bus := { s.bus with retry := true } }
     let attends := fun (row : AttnReply → Instr) =>
       gives (row .answered) (deliver { s with bus := { s.bus with retry := false } }) ∧ gives (row .noClock) (again.busFlag 7) ∧
         gives (row .notAcked) again ∧ gives (row .abandoned) again
     (wants → s.bus.retry = false → attends Instr.attentionRequest) ∧ (wants → s.bus.retry = true → attends Instr.attentionRetry) ∧
     (∀ x, ¬ wants ∨ s.bus.retry = true → gives (.attentionRequest x) s) ∧
     (∀ x, s.bus.retry = false → gives (.attentionRetry x) s) ∧
     (∀ x, ¬ wants → s.bus.retry = true → gives (.attentionRetry x) { s with bus := { s.bus with retry := false } })) ∧
    (∀ (p v : Nat) (b : Byte), 128 ≤ p → p < 256 → nfield (scratchWrite p [b] v) (8 * (p - 128) + 7) (8 * (p - 128)) = b.toNat)
end

