-- ==== Sys2Proof/Laws/Maps.lean ====
section
/-!
SUPPORT. Laws/Maps: reading a sparse map after it has been written, and the canonical form that every map operation keeps.
-/

set_option Elab.async false

namespace Sys2Proof.Machine

variable {α : Type}

@[simp] theorem mfind_nil (q : Nat) : mfind ([] : SMap α) q = none := rfl

theorem mfind_mput (m : SMap α) (q : Nat) (v : α) (k : Nat) :
    mfind (mput m q v) k = if k = q then some v else mfind m k := by
  induction m with
  | nil => simp only [mput, mfind, eq_comm]
  | cons e r ih =>
    obtain ⟨i, w⟩ := e
    simp only [mput]
    split
    · simp only [mfind, eq_comm (a := q)]
    · split
      · subst_vars
        simp only [mfind, eq_comm (a := k)]
        split <;> simp_all
      · simp only [mfind, ih]
        split
        · subst_vars
          rw [if_neg (by omega)]
        · rfl

theorem mfind_mdel (m : SMap α) (q k : Nat) : mfind (mdel m q) k = if k = q then none else mfind m k := by
  induction m with
  | nil => simp [mdel]
  | cons e r ih =>
    obtain ⟨i, w⟩ := e
    simp only [mdel]
    split
    · subst_vars
      rw [ih]
      simp only [mfind]
      split
      · rfl
      · rw [if_neg (by omega)]
    · simp only [mfind, ih]
      split
      · subst_vars
        rw [if_neg (by omega)]
      · rfl

theorem mget_mput (d : α) (m : SMap α) (q : Nat) (v : α) (k : Nat) :
    mget d (mput m q v) k = if k = q then v else mget d m k := by
  simp only [mget, mfind_mput]
  split <;> rfl

theorem mget_mdel (d : α) (m : SMap α) (q k : Nat) : mget d (mdel m q) k = if k = q then d else mget d m k := by
  simp only [mget, mfind_mdel]
  split <;> rfl

theorem mget_mset [DecidableEq α] (d : α) (m : SMap α) (q : Nat) (v : α) (k : Nat) :
    mget d (mset d m q v) k = if k = q then v else mget d m k := by
  simp only [mset]
  split
  · next h => rw [mget_mdel, h]
  · exact mget_mput d m q v k

@[simp] theorem mget_mset_same [DecidableEq α] (d : α) (m : SMap α) (q : Nat) (v : α) : mget d (mset d m q v) q = v := by
  rw [mget_mset, if_pos rfl]

theorem mget_mset_other [DecidableEq α] (d : α) (m : SMap α) {q k : Nat} (v : α) (h : k ≠ q) :
    mget d (mset d m q v) k = mget d m k := by rw [mget_mset, if_neg h]

theorem mput_mput (m : SMap α) (q : Nat) (v w : α) : mput (mput m q v) q w = mput m q w := by
  induction m with
  | nil => simp [mput]
  | cons e r ih =>
    obtain ⟨k, x⟩ := e
    simp only [mput]
    split
    · simp [mput]
    · split
      · simp [mput]
      · simp only [mput]; rw [if_neg (by omega), if_neg (by omega), ih]

theorem mdel_mput (m : SMap α) (q : Nat) (v : α) : mdel (mput m q v) q = mdel m q := by
  induction m with
  | nil => simp [mput, mdel]
  | cons e r ih =>
    obtain ⟨k, x⟩ := e
    simp only [mput]
    split
    · simp [mdel]
    · split
      · subst_vars; simp [mdel]
      · simp only [mdel]; rw [if_neg (by omega), if_neg (by omega), ih]

theorem mdel_mdel (m : SMap α) (q : Nat) : mdel (mdel m q) q = mdel m q := by
  induction m with
  | nil => rfl
  | cons e r ih =>
    obtain ⟨k, x⟩ := e
    simp only [mdel]; split
    · exact ih
    · simp only [mdel]; rw [if_neg (by assumption), ih]

/-- Of two writes of a key the second stands, where the first has listed the key. -/
theorem mset_mset [DecidableEq α] (d : α) (m : SMap α) (q : Nat) (v w : α) (h : v ≠ d) :
    mset d (mset d m q v) q w = mset d m q w := by
  simp only [mset, if_neg h]
  split
  · exact mdel_mput m q v
  · exact mput_mput m q v w

/-! ### The canonical form -/

theorem mrises_weaken {lo lo' : Nat} (h : lo' ≤ lo) (m : SMap α) : mrises lo m = true → mrises lo' m = true := by
  cases m with
  | nil => exact id
  | cons e r =>
    simp only [mrises, Bool.and_eq_true, decide_eq_true_eq]
    exact fun ⟨a, b⟩ => ⟨Nat.le_trans h a, b⟩

theorem mrises_mput (lo : Nat) (m : SMap α) (q : Nat) (v : α) (hq : lo ≤ q) :
    mrises lo m = true → mrises lo (mput m q v) = true := by
  induction m generalizing lo with
  | nil => simp [mput, mrises, hq]
  | cons e r ih =>
    obtain ⟨i, w⟩ := e
    simp only [mput, mrises, Bool.and_eq_true, decide_eq_true_eq]
    intro ⟨a, b⟩
    split
    · simp only [mrises, Bool.and_eq_true, decide_eq_true_eq]
      exact ⟨hq, by omega, b⟩
    · split
      · subst_vars
        simp only [mrises, Bool.and_eq_true, decide_eq_true_eq]
        exact ⟨a, b⟩
      · simp only [mrises, Bool.and_eq_true, decide_eq_true_eq]
        exact ⟨a, ih (i + 1) (by omega) b⟩

theorem mrises_mdel (lo : Nat) (m : SMap α) (q : Nat) : mrises lo m = true → mrises lo (mdel m q) = true := by
  induction m generalizing lo with
  | nil => exact id
  | cons e r ih =>
    obtain ⟨i, w⟩ := e
    simp only [mdel, mrises, Bool.and_eq_true, decide_eq_true_eq]
    intro ⟨a, b⟩
    split
    · exact ih lo (mrises_weaken (by omega) r b)
    · simp only [mrises, Bool.and_eq_true, decide_eq_true_eq]
      exact ⟨a, ih (i + 1) b⟩

theorem mem_mput (m : SMap α) (q : Nat) (v : α) (e : Nat × α) (h : e ∈ mput m q v) : e = (q, v) ∨ e ∈ m := by
  induction m with
  | nil => simpa [mput] using h
  | cons f r ih =>
    obtain ⟨i, w⟩ := f
    simp only [mput] at h
    split at h
    · simpa using h
    · split at h
      · rcases List.mem_cons.mp h with h | h
        · exact .inl h
        · exact .inr (List.mem_cons_of_mem _ h)
      · rcases List.mem_cons.mp h with h | h
        · exact .inr (h ▸ List.mem_cons_self)
        · rcases ih h with h | h
          · exact .inl h
          · exact .inr (List.mem_cons_of_mem _ h)

theorem mem_mdel (m : SMap α) (q : Nat) (e : Nat × α) (h : e ∈ mdel m q) : e ∈ m := by
  induction m with
  | nil => exact h
  | cons f r ih =>
    obtain ⟨i, w⟩ := f
    simp only [mdel] at h
    split at h
    · exact List.mem_cons_of_mem _ (ih h)
    · rcases List.mem_cons.mp h with h | h
      · exact h ▸ List.mem_cons_self
      · exact List.mem_cons_of_mem _ (ih h)

/-- Writing a key keeps the canonical form. -/
theorem mwf_mset [DecidableEq α] (d : Nat → α) (m : SMap α) (q : Nat) (v : α) (h : mwf d m = true) :
    mwf d (mset (d q) m q v) = true := by
  simp only [mwf, Bool.and_eq_true, List.all_eq_true, decide_eq_true_eq] at h ⊢
  simp only [mset]
  split
  · exact ⟨mrises_mdel 0 m q h.1, fun e he => h.2 e (mem_mdel m q e he)⟩
  · next hv =>
    refine ⟨mrises_mput 0 m q v (Nat.zero_le q) h.1, fun e he => ?_⟩
    rcases mem_mput m q v e he with rfl | he
    · exact hv
    · exact h.2 e he

/-! ### The accessors -/

@[simp] theorem State.link_setLink (s : State) (n : Nat) (x : Link) (k : Nat) :
    (s.setLink n x).link k = if k = n then x else s.link k := mget_mset _ _ _ _ _
@[simp] theorem State.port_setPort (s : State) (n : Nat) (x : Port) (k : Nat) :
    (s.setPort n x).port k = if k = n then x else s.port k := mget_mset _ _ _ _ _
@[simp] theorem State.chan_setChan (s : State) (n : Nat) (x : Chan) (k : Nat) :
    (s.setChan n x).chan k = if k = n then x else s.chan k := mget_mset _ _ _ _ _
@[simp] theorem State.layer_setLayer (s : State) (n : Nat) (x : Layer) (k : Nat) :
    (s.setLayer n x).layer k = if k = n then x else s.layer k := mget_mset _ _ _ _ _
@[simp] theorem State.queue_setQueue (s : State) (n : Nat) (x : Queue) (k : Nat) :
    (s.setQueue n x).queue k = if k = n then x else s.queue k := mget_mset _ _ _ _ _
@[simp] theorem State.slice_setSlice (s : State) (n : Nat) (x : QSlice) (k : Nat) :
    (s.setSlice n x).slice k = if k = n then x else s.slice k := mget_mset _ _ _ _ _
@[simp] theorem State.link_modLink (s : State) (n : Nat) (f : Link → Link) (k : Nat) :
    (s.modLink n f).link k = if k = n then f (s.link n) else s.link k := mget_mset _ _ _ _ _
@[simp] theorem State.port_modPort (s : State) (n : Nat) (f : Port → Port) (k : Nat) :
    (s.modPort n f).port k = if k = n then f (s.port n) else s.port k := mget_mset _ _ _ _ _
@[simp] theorem State.chan_modChan (s : State) (n : Nat) (f : Chan → Chan) (k : Nat) :
    (s.modChan n f).chan k = if k = n then f (s.chan n) else s.chan k := mget_mset _ _ _ _ _
@[simp] theorem State.layer_modLayer (s : State) (n : Nat) (f : Layer → Layer) (k : Nat) :
    (s.modLayer n f).layer k = if k = n then f (s.layer n) else s.layer k := mget_mset _ _ _ _ _
@[simp] theorem State.cmd_setCmd (s : State) (n : Nat) (x : CmdState) (k : Nat) :
    (s.setCmd n x).cmd k = if k = n then x else s.cmd k := mget_mset _ _ _ _ _
@[simp] theorem State.rget_rset (s : State) (n v k : Nat) : (s.rset n v).rget k = if k = n then v else s.rget k := by
  simp only [State.rget, State.rset]
  by_cases h : k = n
  · subst h; simp
  · rw [if_neg h]
    simp only [mget, mset]
    split
    · rw [mfind_mdel, if_neg h]
    · rw [mfind_mput, if_neg h]

theorem State.setLink_setLink (s : State) (n : Nat) (x y : Link) (h : x ≠ {}) : (s.setLink n x).setLink n y = s.setLink n y := by
  simp only [State.setLink, mset_mset _ _ _ _ _ h]
theorem State.setPort_setPort (s : State) (n : Nat) (x y : Port) (h : x ≠ {}) : (s.setPort n x).setPort n y = s.setPort n y := by
  simp only [State.setPort, mset_mset _ _ _ _ _ h]
theorem State.setChan_setChan (s : State) (n : Nat) (x y : Chan) (h : x ≠ {}) : (s.setChan n x).setChan n y = s.setChan n y := by
  simp only [State.setChan, mset_mset _ _ _ _ _ h]
theorem State.setLayer_setLayer (s : State) (n : Nat) (x y : Layer) (h : x ≠ {}) : (s.setLayer n x).setLayer n y = s.setLayer n y := by
  simp only [State.setLayer, mset_mset _ _ _ _ _ h]
theorem State.setQueue_setQueue (s : State) (n : Nat) (x y : Queue) (h : x ≠ {}) : (s.setQueue n x).setQueue n y = s.setQueue n y := by
  simp only [State.setQueue, mset_mset _ _ _ _ _ h]
theorem State.setSlice_setSlice (s : State) (n : Nat) (x y : QSlice) (h : x ≠ {}) : (s.setSlice n x).setSlice n y = s.setSlice n y := by
  simp only [State.setSlice, mset_mset _ _ _ _ _ h]

end Sys2Proof.Machine
end

