-- ==== Sys2Proof/Laws/State.lean ====
section
/-!
SUPPORT. Laws/State: what each update of the state leaves alone, one lemma per field and update.
-/

set_option Elab.async false

namespace Sys2Proof.Machine

/-! ### setLink -/

@[simp] theorem State.setLink_pending (s : State) (n : Nat) (x : Link) : (s.setLink n x).pending = s.pending := rfl
@[simp] theorem State.setLink_now (s : State) (n : Nat) (x : Link) : (s.setLink n x).now = s.now := rfl
@[simp] theorem State.setLink_free (s : State) (n : Nat) (x : Link) : (s.setLink n x).free = s.free := rfl
@[simp] theorem State.setLink_boot (s : State) (n : Nat) (x : Link) : (s.setLink n x).boot = s.boot := rfl
@[simp] theorem State.setLink_variant (s : State) (n : Nat) (x : Link) : (s.setLink n x).variant = s.variant := rfl
@[simp] theorem State.setLink_gradeFs (s : State) (n : Nat) (x : Link) : (s.setLink n x).gradeFs = s.gradeFs := rfl
@[simp] theorem State.setLink_profile (s : State) (n : Nat) (x : Link) : (s.setLink n x).profile = s.profile := rfl
@[simp] theorem State.setLink_regs (s : State) (n : Nat) (x : Link) : (s.setLink n x).regs = s.regs := rfl
@[simp] theorem State.setLink_map (s : State) (n : Nat) (x : Link) : (s.setLink n x).map = s.map := rfl
@[simp] theorem State.setLink_mapBuilt (s : State) (n : Nat) (x : Link) : (s.setLink n x).mapBuilt = s.mapBuilt := rfl
@[simp] theorem State.setLink_ports (s : State) (n : Nat) (x : Link) : (s.setLink n x).ports = s.ports := rfl
@[simp] theorem State.setLink_chans (s : State) (n : Nat) (x : Link) : (s.setLink n x).chans = s.chans := rfl
@[simp] theorem State.setLink_layers (s : State) (n : Nat) (x : Link) : (s.setLink n x).layers = s.layers := rfl
@[simp] theorem State.setLink_reg (s : State) (n : Nat) (x : Link) : (s.setLink n x).reg = s.reg := rfl
@[simp] theorem State.setLink_qe (s : State) (n : Nat) (x : Link) : (s.setLink n x).qe = s.qe := rfl
@[simp] theorem State.setLink_dict (s : State) (n : Nat) (x : Link) : (s.setLink n x).dict = s.dict := rfl
@[simp] theorem State.setLink_repair (s : State) (n : Nat) (x : Link) : (s.setLink n x).repair = s.repair := rfl
@[simp] theorem State.setLink_qt (s : State) (n : Nat) (x : Link) : (s.setLink n x).qt = s.qt := rfl
@[simp] theorem State.setLink_therm (s : State) (n : Nat) (x : Link) : (s.setLink n x).therm = s.therm := rfl
@[simp] theorem State.setLink_power (s : State) (n : Nat) (x : Link) : (s.setLink n x).power = s.power := rfl
@[simp] theorem State.setLink_clk (s : State) (n : Nat) (x : Link) : (s.setLink n x).clk = s.clk := rfl
@[simp] theorem State.setLink_faults (s : State) (n : Nat) (x : Link) : (s.setLink n x).faults = s.faults := rfl
@[simp] theorem State.setLink_gran (s : State) (n : Nat) (x : Link) : (s.setLink n x).gran = s.gran := rfl
@[simp] theorem State.setLink_lc (s : State) (n : Nat) (x : Link) : (s.setLink n x).lc = s.lc := rfl
@[simp] theorem State.setLink_bus (s : State) (n : Nat) (x : Link) : (s.setLink n x).bus = s.bus := rfl
@[simp] theorem State.setLink_tap (s : State) (n : Nat) (x : Link) : (s.setLink n x).tap = s.tap := rfl

/-! ### setPort -/

@[simp] theorem State.setPort_pending (s : State) (n : Nat) (x : Port) : (s.setPort n x).pending = s.pending := rfl
@[simp] theorem State.setPort_now (s : State) (n : Nat) (x : Port) : (s.setPort n x).now = s.now := rfl
@[simp] theorem State.setPort_free (s : State) (n : Nat) (x : Port) : (s.setPort n x).free = s.free := rfl
@[simp] theorem State.setPort_boot (s : State) (n : Nat) (x : Port) : (s.setPort n x).boot = s.boot := rfl
@[simp] theorem State.setPort_variant (s : State) (n : Nat) (x : Port) : (s.setPort n x).variant = s.variant := rfl
@[simp] theorem State.setPort_gradeFs (s : State) (n : Nat) (x : Port) : (s.setPort n x).gradeFs = s.gradeFs := rfl
@[simp] theorem State.setPort_profile (s : State) (n : Nat) (x : Port) : (s.setPort n x).profile = s.profile := rfl
@[simp] theorem State.setPort_regs (s : State) (n : Nat) (x : Port) : (s.setPort n x).regs = s.regs := rfl
@[simp] theorem State.setPort_map (s : State) (n : Nat) (x : Port) : (s.setPort n x).map = s.map := rfl
@[simp] theorem State.setPort_mapBuilt (s : State) (n : Nat) (x : Port) : (s.setPort n x).mapBuilt = s.mapBuilt := rfl
@[simp] theorem State.setPort_links (s : State) (n : Nat) (x : Port) : (s.setPort n x).links = s.links := rfl
@[simp] theorem State.setPort_chans (s : State) (n : Nat) (x : Port) : (s.setPort n x).chans = s.chans := rfl
@[simp] theorem State.setPort_layers (s : State) (n : Nat) (x : Port) : (s.setPort n x).layers = s.layers := rfl
@[simp] theorem State.setPort_reg (s : State) (n : Nat) (x : Port) : (s.setPort n x).reg = s.reg := rfl
@[simp] theorem State.setPort_qe (s : State) (n : Nat) (x : Port) : (s.setPort n x).qe = s.qe := rfl
@[simp] theorem State.setPort_dict (s : State) (n : Nat) (x : Port) : (s.setPort n x).dict = s.dict := rfl
@[simp] theorem State.setPort_repair (s : State) (n : Nat) (x : Port) : (s.setPort n x).repair = s.repair := rfl
@[simp] theorem State.setPort_qt (s : State) (n : Nat) (x : Port) : (s.setPort n x).qt = s.qt := rfl
@[simp] theorem State.setPort_therm (s : State) (n : Nat) (x : Port) : (s.setPort n x).therm = s.therm := rfl
@[simp] theorem State.setPort_power (s : State) (n : Nat) (x : Port) : (s.setPort n x).power = s.power := rfl
@[simp] theorem State.setPort_clk (s : State) (n : Nat) (x : Port) : (s.setPort n x).clk = s.clk := rfl
@[simp] theorem State.setPort_faults (s : State) (n : Nat) (x : Port) : (s.setPort n x).faults = s.faults := rfl
@[simp] theorem State.setPort_gran (s : State) (n : Nat) (x : Port) : (s.setPort n x).gran = s.gran := rfl
@[simp] theorem State.setPort_lc (s : State) (n : Nat) (x : Port) : (s.setPort n x).lc = s.lc := rfl
@[simp] theorem State.setPort_bus (s : State) (n : Nat) (x : Port) : (s.setPort n x).bus = s.bus := rfl
@[simp] theorem State.setPort_tap (s : State) (n : Nat) (x : Port) : (s.setPort n x).tap = s.tap := rfl

/-! ### setChan -/

@[simp] theorem State.setChan_pending (s : State) (n : Nat) (x : Chan) : (s.setChan n x).pending = s.pending := rfl
@[simp] theorem State.setChan_now (s : State) (n : Nat) (x : Chan) : (s.setChan n x).now = s.now := rfl
@[simp] theorem State.setChan_free (s : State) (n : Nat) (x : Chan) : (s.setChan n x).free = s.free := rfl
@[simp] theorem State.setChan_boot (s : State) (n : Nat) (x : Chan) : (s.setChan n x).boot = s.boot := rfl
@[simp] theorem State.setChan_variant (s : State) (n : Nat) (x : Chan) : (s.setChan n x).variant = s.variant := rfl
@[simp] theorem State.setChan_gradeFs (s : State) (n : Nat) (x : Chan) : (s.setChan n x).gradeFs = s.gradeFs := rfl
@[simp] theorem State.setChan_profile (s : State) (n : Nat) (x : Chan) : (s.setChan n x).profile = s.profile := rfl
@[simp] theorem State.setChan_regs (s : State) (n : Nat) (x : Chan) : (s.setChan n x).regs = s.regs := rfl
@[simp] theorem State.setChan_map (s : State) (n : Nat) (x : Chan) : (s.setChan n x).map = s.map := rfl
@[simp] theorem State.setChan_mapBuilt (s : State) (n : Nat) (x : Chan) : (s.setChan n x).mapBuilt = s.mapBuilt := rfl
@[simp] theorem State.setChan_links (s : State) (n : Nat) (x : Chan) : (s.setChan n x).links = s.links := rfl
@[simp] theorem State.setChan_ports (s : State) (n : Nat) (x : Chan) : (s.setChan n x).ports = s.ports := rfl
@[simp] theorem State.setChan_layers (s : State) (n : Nat) (x : Chan) : (s.setChan n x).layers = s.layers := rfl
@[simp] theorem State.setChan_reg (s : State) (n : Nat) (x : Chan) : (s.setChan n x).reg = s.reg := rfl
@[simp] theorem State.setChan_qe (s : State) (n : Nat) (x : Chan) : (s.setChan n x).qe = s.qe := rfl
@[simp] theorem State.setChan_dict (s : State) (n : Nat) (x : Chan) : (s.setChan n x).dict = s.dict := rfl
@[simp] theorem State.setChan_repair (s : State) (n : Nat) (x : Chan) : (s.setChan n x).repair = s.repair := rfl
@[simp] theorem State.setChan_qt (s : State) (n : Nat) (x : Chan) : (s.setChan n x).qt = s.qt := rfl
@[simp] theorem State.setChan_therm (s : State) (n : Nat) (x : Chan) : (s.setChan n x).therm = s.therm := rfl
@[simp] theorem State.setChan_power (s : State) (n : Nat) (x : Chan) : (s.setChan n x).power = s.power := rfl
@[simp] theorem State.setChan_clk (s : State) (n : Nat) (x : Chan) : (s.setChan n x).clk = s.clk := rfl
@[simp] theorem State.setChan_faults (s : State) (n : Nat) (x : Chan) : (s.setChan n x).faults = s.faults := rfl
@[simp] theorem State.setChan_gran (s : State) (n : Nat) (x : Chan) : (s.setChan n x).gran = s.gran := rfl
@[simp] theorem State.setChan_lc (s : State) (n : Nat) (x : Chan) : (s.setChan n x).lc = s.lc := rfl
@[simp] theorem State.setChan_bus (s : State) (n : Nat) (x : Chan) : (s.setChan n x).bus = s.bus := rfl
@[simp] theorem State.setChan_tap (s : State) (n : Nat) (x : Chan) : (s.setChan n x).tap = s.tap := rfl

/-! ### setLayer -/

@[simp] theorem State.setLayer_pending (s : State) (n : Nat) (x : Layer) : (s.setLayer n x).pending = s.pending := rfl
@[simp] theorem State.setLayer_now (s : State) (n : Nat) (x : Layer) : (s.setLayer n x).now = s.now := rfl
@[simp] theorem State.setLayer_free (s : State) (n : Nat) (x : Layer) : (s.setLayer n x).free = s.free := rfl
@[simp] theorem State.setLayer_boot (s : State) (n : Nat) (x : Layer) : (s.setLayer n x).boot = s.boot := rfl
@[simp] theorem State.setLayer_variant (s : State) (n : Nat) (x : Layer) : (s.setLayer n x).variant = s.variant := rfl
@[simp] theorem State.setLayer_gradeFs (s : State) (n : Nat) (x : Layer) : (s.setLayer n x).gradeFs = s.gradeFs := rfl
@[simp] theorem State.setLayer_profile (s : State) (n : Nat) (x : Layer) : (s.setLayer n x).profile = s.profile := rfl
@[simp] theorem State.setLayer_regs (s : State) (n : Nat) (x : Layer) : (s.setLayer n x).regs = s.regs := rfl
@[simp] theorem State.setLayer_map (s : State) (n : Nat) (x : Layer) : (s.setLayer n x).map = s.map := rfl
@[simp] theorem State.setLayer_mapBuilt (s : State) (n : Nat) (x : Layer) : (s.setLayer n x).mapBuilt = s.mapBuilt := rfl
@[simp] theorem State.setLayer_links (s : State) (n : Nat) (x : Layer) : (s.setLayer n x).links = s.links := rfl
@[simp] theorem State.setLayer_ports (s : State) (n : Nat) (x : Layer) : (s.setLayer n x).ports = s.ports := rfl
@[simp] theorem State.setLayer_chans (s : State) (n : Nat) (x : Layer) : (s.setLayer n x).chans = s.chans := rfl
@[simp] theorem State.setLayer_reg (s : State) (n : Nat) (x : Layer) : (s.setLayer n x).reg = s.reg := rfl
@[simp] theorem State.setLayer_qe (s : State) (n : Nat) (x : Layer) : (s.setLayer n x).qe = s.qe := rfl
@[simp] theorem State.setLayer_dict (s : State) (n : Nat) (x : Layer) : (s.setLayer n x).dict = s.dict := rfl
@[simp] theorem State.setLayer_repair (s : State) (n : Nat) (x : Layer) : (s.setLayer n x).repair = s.repair := rfl
@[simp] theorem State.setLayer_qt (s : State) (n : Nat) (x : Layer) : (s.setLayer n x).qt = s.qt := rfl
@[simp] theorem State.setLayer_therm (s : State) (n : Nat) (x : Layer) : (s.setLayer n x).therm = s.therm := rfl
@[simp] theorem State.setLayer_power (s : State) (n : Nat) (x : Layer) : (s.setLayer n x).power = s.power := rfl
@[simp] theorem State.setLayer_clk (s : State) (n : Nat) (x : Layer) : (s.setLayer n x).clk = s.clk := rfl
@[simp] theorem State.setLayer_faults (s : State) (n : Nat) (x : Layer) : (s.setLayer n x).faults = s.faults := rfl
@[simp] theorem State.setLayer_gran (s : State) (n : Nat) (x : Layer) : (s.setLayer n x).gran = s.gran := rfl
@[simp] theorem State.setLayer_lc (s : State) (n : Nat) (x : Layer) : (s.setLayer n x).lc = s.lc := rfl
@[simp] theorem State.setLayer_bus (s : State) (n : Nat) (x : Layer) : (s.setLayer n x).bus = s.bus := rfl
@[simp] theorem State.setLayer_tap (s : State) (n : Nat) (x : Layer) : (s.setLayer n x).tap = s.tap := rfl

/-! ### setQueue -/

@[simp] theorem State.setQueue_pending (s : State) (n : Nat) (x : Queue) : (s.setQueue n x).pending = s.pending := rfl
@[simp] theorem State.setQueue_now (s : State) (n : Nat) (x : Queue) : (s.setQueue n x).now = s.now := rfl
@[simp] theorem State.setQueue_free (s : State) (n : Nat) (x : Queue) : (s.setQueue n x).free = s.free := rfl
@[simp] theorem State.setQueue_boot (s : State) (n : Nat) (x : Queue) : (s.setQueue n x).boot = s.boot := rfl
@[simp] theorem State.setQueue_variant (s : State) (n : Nat) (x : Queue) : (s.setQueue n x).variant = s.variant := rfl
@[simp] theorem State.setQueue_gradeFs (s : State) (n : Nat) (x : Queue) : (s.setQueue n x).gradeFs = s.gradeFs := rfl
@[simp] theorem State.setQueue_profile (s : State) (n : Nat) (x : Queue) : (s.setQueue n x).profile = s.profile := rfl
@[simp] theorem State.setQueue_regs (s : State) (n : Nat) (x : Queue) : (s.setQueue n x).regs = s.regs := rfl
@[simp] theorem State.setQueue_map (s : State) (n : Nat) (x : Queue) : (s.setQueue n x).map = s.map := rfl
@[simp] theorem State.setQueue_mapBuilt (s : State) (n : Nat) (x : Queue) : (s.setQueue n x).mapBuilt = s.mapBuilt := rfl
@[simp] theorem State.setQueue_links (s : State) (n : Nat) (x : Queue) : (s.setQueue n x).links = s.links := rfl
@[simp] theorem State.setQueue_ports (s : State) (n : Nat) (x : Queue) : (s.setQueue n x).ports = s.ports := rfl
@[simp] theorem State.setQueue_chans (s : State) (n : Nat) (x : Queue) : (s.setQueue n x).chans = s.chans := rfl
@[simp] theorem State.setQueue_layers (s : State) (n : Nat) (x : Queue) : (s.setQueue n x).layers = s.layers := rfl
@[simp] theorem State.setQueue_reg (s : State) (n : Nat) (x : Queue) : (s.setQueue n x).reg = s.reg := rfl
@[simp] theorem State.setQueue_dict (s : State) (n : Nat) (x : Queue) : (s.setQueue n x).dict = s.dict := rfl
@[simp] theorem State.setQueue_repair (s : State) (n : Nat) (x : Queue) : (s.setQueue n x).repair = s.repair := rfl
@[simp] theorem State.setQueue_qt (s : State) (n : Nat) (x : Queue) : (s.setQueue n x).qt = s.qt := rfl
@[simp] theorem State.setQueue_therm (s : State) (n : Nat) (x : Queue) : (s.setQueue n x).therm = s.therm := rfl
@[simp] theorem State.setQueue_power (s : State) (n : Nat) (x : Queue) : (s.setQueue n x).power = s.power := rfl
@[simp] theorem State.setQueue_clk (s : State) (n : Nat) (x : Queue) : (s.setQueue n x).clk = s.clk := rfl
@[simp] theorem State.setQueue_faults (s : State) (n : Nat) (x : Queue) : (s.setQueue n x).faults = s.faults := rfl
@[simp] theorem State.setQueue_gran (s : State) (n : Nat) (x : Queue) : (s.setQueue n x).gran = s.gran := rfl
@[simp] theorem State.setQueue_lc (s : State) (n : Nat) (x : Queue) : (s.setQueue n x).lc = s.lc := rfl
@[simp] theorem State.setQueue_bus (s : State) (n : Nat) (x : Queue) : (s.setQueue n x).bus = s.bus := rfl
@[simp] theorem State.setQueue_tap (s : State) (n : Nat) (x : Queue) : (s.setQueue n x).tap = s.tap := rfl

/-! ### setSlice -/

@[simp] theorem State.setSlice_pending (s : State) (n : Nat) (x : QSlice) : (s.setSlice n x).pending = s.pending := rfl
@[simp] theorem State.setSlice_now (s : State) (n : Nat) (x : QSlice) : (s.setSlice n x).now = s.now := rfl
@[simp] theorem State.setSlice_free (s : State) (n : Nat) (x : QSlice) : (s.setSlice n x).free = s.free := rfl
@[simp] theorem State.setSlice_boot (s : State) (n : Nat) (x : QSlice) : (s.setSlice n x).boot = s.boot := rfl
@[simp] theorem State.setSlice_variant (s : State) (n : Nat) (x : QSlice) : (s.setSlice n x).variant = s.variant := rfl
@[simp] theorem State.setSlice_gradeFs (s : State) (n : Nat) (x : QSlice) : (s.setSlice n x).gradeFs = s.gradeFs := rfl
@[simp] theorem State.setSlice_profile (s : State) (n : Nat) (x : QSlice) : (s.setSlice n x).profile = s.profile := rfl
@[simp] theorem State.setSlice_regs (s : State) (n : Nat) (x : QSlice) : (s.setSlice n x).regs = s.regs := rfl
@[simp] theorem State.setSlice_map (s : State) (n : Nat) (x : QSlice) : (s.setSlice n x).map = s.map := rfl
@[simp] theorem State.setSlice_mapBuilt (s : State) (n : Nat) (x : QSlice) : (s.setSlice n x).mapBuilt = s.mapBuilt := rfl
@[simp] theorem State.setSlice_links (s : State) (n : Nat) (x : QSlice) : (s.setSlice n x).links = s.links := rfl
@[simp] theorem State.setSlice_ports (s : State) (n : Nat) (x : QSlice) : (s.setSlice n x).ports = s.ports := rfl
@[simp] theorem State.setSlice_chans (s : State) (n : Nat) (x : QSlice) : (s.setSlice n x).chans = s.chans := rfl
@[simp] theorem State.setSlice_layers (s : State) (n : Nat) (x : QSlice) : (s.setSlice n x).layers = s.layers := rfl
@[simp] theorem State.setSlice_reg (s : State) (n : Nat) (x : QSlice) : (s.setSlice n x).reg = s.reg := rfl
@[simp] theorem State.setSlice_dict (s : State) (n : Nat) (x : QSlice) : (s.setSlice n x).dict = s.dict := rfl
@[simp] theorem State.setSlice_repair (s : State) (n : Nat) (x : QSlice) : (s.setSlice n x).repair = s.repair := rfl
@[simp] theorem State.setSlice_qt (s : State) (n : Nat) (x : QSlice) : (s.setSlice n x).qt = s.qt := rfl
@[simp] theorem State.setSlice_therm (s : State) (n : Nat) (x : QSlice) : (s.setSlice n x).therm = s.therm := rfl
@[simp] theorem State.setSlice_power (s : State) (n : Nat) (x : QSlice) : (s.setSlice n x).power = s.power := rfl
@[simp] theorem State.setSlice_clk (s : State) (n : Nat) (x : QSlice) : (s.setSlice n x).clk = s.clk := rfl
@[simp] theorem State.setSlice_faults (s : State) (n : Nat) (x : QSlice) : (s.setSlice n x).faults = s.faults := rfl
@[simp] theorem State.setSlice_gran (s : State) (n : Nat) (x : QSlice) : (s.setSlice n x).gran = s.gran := rfl
@[simp] theorem State.setSlice_lc (s : State) (n : Nat) (x : QSlice) : (s.setSlice n x).lc = s.lc := rfl
@[simp] theorem State.setSlice_bus (s : State) (n : Nat) (x : QSlice) : (s.setSlice n x).bus = s.bus := rfl
@[simp] theorem State.setSlice_tap (s : State) (n : Nat) (x : QSlice) : (s.setSlice n x).tap = s.tap := rfl

/-! ### modLink -/

@[simp] theorem State.modLink_pending (s : State) (n : Nat) (f : Link → Link) : (s.modLink n f).pending = s.pending := rfl
@[simp] theorem State.modLink_now (s : State) (n : Nat) (f : Link → Link) : (s.modLink n f).now = s.now := rfl
@[simp] theorem State.modLink_free (s : State) (n : Nat) (f : Link → Link) : (s.modLink n f).free = s.free := rfl
@[simp] theorem State.modLink_boot (s : State) (n : Nat) (f : Link → Link) : (s.modLink n f).boot = s.boot := rfl
@[simp] theorem State.modLink_variant (s : State) (n : Nat) (f : Link → Link) : (s.modLink n f).variant = s.variant := rfl
@[simp] theorem State.modLink_gradeFs (s : State) (n : Nat) (f : Link → Link) : (s.modLink n f).gradeFs = s.gradeFs := rfl
@[simp] theorem State.modLink_profile (s : State) (n : Nat) (f : Link → Link) : (s.modLink n f).profile = s.profile := rfl
@[simp] theorem State.modLink_regs (s : State) (n : Nat) (f : Link → Link) : (s.modLink n f).regs = s.regs := rfl
@[simp] theorem State.modLink_map (s : State) (n : Nat) (f : Link → Link) : (s.modLink n f).map = s.map := rfl
@[simp] theorem State.modLink_mapBuilt (s : State) (n : Nat) (f : Link → Link) : (s.modLink n f).mapBuilt = s.mapBuilt := rfl
@[simp] theorem State.modLink_ports (s : State) (n : Nat) (f : Link → Link) : (s.modLink n f).ports = s.ports := rfl
@[simp] theorem State.modLink_chans (s : State) (n : Nat) (f : Link → Link) : (s.modLink n f).chans = s.chans := rfl
@[simp] theorem State.modLink_layers (s : State) (n : Nat) (f : Link → Link) : (s.modLink n f).layers = s.layers := rfl
@[simp] theorem State.modLink_reg (s : State) (n : Nat) (f : Link → Link) : (s.modLink n f).reg = s.reg := rfl
@[simp] theorem State.modLink_qe (s : State) (n : Nat) (f : Link → Link) : (s.modLink n f).qe = s.qe := rfl
@[simp] theorem State.modLink_dict (s : State) (n : Nat) (f : Link → Link) : (s.modLink n f).dict = s.dict := rfl
@[simp] theorem State.modLink_repair (s : State) (n : Nat) (f : Link → Link) : (s.modLink n f).repair = s.repair := rfl
@[simp] theorem State.modLink_qt (s : State) (n : Nat) (f : Link → Link) : (s.modLink n f).qt = s.qt := rfl
@[simp] theorem State.modLink_therm (s : State) (n : Nat) (f : Link → Link) : (s.modLink n f).therm = s.therm := rfl
@[simp] theorem State.modLink_power (s : State) (n : Nat) (f : Link → Link) : (s.modLink n f).power = s.power := rfl
@[simp] theorem State.modLink_clk (s : State) (n : Nat) (f : Link → Link) : (s.modLink n f).clk = s.clk := rfl
@[simp] theorem State.modLink_faults (s : State) (n : Nat) (f : Link → Link) : (s.modLink n f).faults = s.faults := rfl
@[simp] theorem State.modLink_gran (s : State) (n : Nat) (f : Link → Link) : (s.modLink n f).gran = s.gran := rfl
@[simp] theorem State.modLink_lc (s : State) (n : Nat) (f : Link → Link) : (s.modLink n f).lc = s.lc := rfl
@[simp] theorem State.modLink_bus (s : State) (n : Nat) (f : Link → Link) : (s.modLink n f).bus = s.bus := rfl
@[simp] theorem State.modLink_tap (s : State) (n : Nat) (f : Link → Link) : (s.modLink n f).tap = s.tap := rfl

/-! ### modPort -/

@[simp] theorem State.modPort_pending (s : State) (n : Nat) (f : Port → Port) : (s.modPort n f).pending = s.pending := rfl
@[simp] theorem State.modPort_now (s : State) (n : Nat) (f : Port → Port) : (s.modPort n f).now = s.now := rfl
@[simp] theorem State.modPort_free (s : State) (n : Nat) (f : Port → Port) : (s.modPort n f).free = s.free := rfl
@[simp] theorem State.modPort_boot (s : State) (n : Nat) (f : Port → Port) : (s.modPort n f).boot = s.boot := rfl
@[simp] theorem State.modPort_variant (s : State) (n : Nat) (f : Port → Port) : (s.modPort n f).variant = s.variant := rfl
@[simp] theorem State.modPort_gradeFs (s : State) (n : Nat) (f : Port → Port) : (s.modPort n f).gradeFs = s.gradeFs := rfl
@[simp] theorem State.modPort_profile (s : State) (n : Nat) (f : Port → Port) : (s.modPort n f).profile = s.profile := rfl
@[simp] theorem State.modPort_regs (s : State) (n : Nat) (f : Port → Port) : (s.modPort n f).regs = s.regs := rfl
@[simp] theorem State.modPort_map (s : State) (n : Nat) (f : Port → Port) : (s.modPort n f).map = s.map := rfl
@[simp] theorem State.modPort_mapBuilt (s : State) (n : Nat) (f : Port → Port) : (s.modPort n f).mapBuilt = s.mapBuilt := rfl
@[simp] theorem State.modPort_links (s : State) (n : Nat) (f : Port → Port) : (s.modPort n f).links = s.links := rfl
@[simp] theorem State.modPort_chans (s : State) (n : Nat) (f : Port → Port) : (s.modPort n f).chans = s.chans := rfl
@[simp] theorem State.modPort_layers (s : State) (n : Nat) (f : Port → Port) : (s.modPort n f).layers = s.layers := rfl
@[simp] theorem State.modPort_reg (s : State) (n : Nat) (f : Port → Port) : (s.modPort n f).reg = s.reg := rfl
@[simp] theorem State.modPort_qe (s : State) (n : Nat) (f : Port → Port) : (s.modPort n f).qe = s.qe := rfl
@[simp] theorem State.modPort_dict (s : State) (n : Nat) (f : Port → Port) : (s.modPort n f).dict = s.dict := rfl
@[simp] theorem State.modPort_repair (s : State) (n : Nat) (f : Port → Port) : (s.modPort n f).repair = s.repair := rfl
@[simp] theorem State.modPort_qt (s : State) (n : Nat) (f : Port → Port) : (s.modPort n f).qt = s.qt := rfl
@[simp] theorem State.modPort_therm (s : State) (n : Nat) (f : Port → Port) : (s.modPort n f).therm = s.therm := rfl
@[simp] theorem State.modPort_power (s : State) (n : Nat) (f : Port → Port) : (s.modPort n f).power = s.power := rfl
@[simp] theorem State.modPort_clk (s : State) (n : Nat) (f : Port → Port) : (s.modPort n f).clk = s.clk := rfl
@[simp] theorem State.modPort_faults (s : State) (n : Nat) (f : Port → Port) : (s.modPort n f).faults = s.faults := rfl
@[simp] theorem State.modPort_gran (s : State) (n : Nat) (f : Port → Port) : (s.modPort n f).gran = s.gran := rfl
@[simp] theorem State.modPort_lc (s : State) (n : Nat) (f : Port → Port) : (s.modPort n f).lc = s.lc := rfl
@[simp] theorem State.modPort_bus (s : State) (n : Nat) (f : Port → Port) : (s.modPort n f).bus = s.bus := rfl
@[simp] theorem State.modPort_tap (s : State) (n : Nat) (f : Port → Port) : (s.modPort n f).tap = s.tap := rfl

/-! ### modChan -/

@[simp] theorem State.modChan_pending (s : State) (n : Nat) (f : Chan → Chan) : (s.modChan n f).pending = s.pending := rfl
@[simp] theorem State.modChan_now (s : State) (n : Nat) (f : Chan → Chan) : (s.modChan n f).now = s.now := rfl
@[simp] theorem State.modChan_free (s : State) (n : Nat) (f : Chan → Chan) : (s.modChan n f).free = s.free := rfl
@[simp] theorem State.modChan_boot (s : State) (n : Nat) (f : Chan → Chan) : (s.modChan n f).boot = s.boot := rfl
@[simp] theorem State.modChan_variant (s : State) (n : Nat) (f : Chan → Chan) : (s.modChan n f).variant = s.variant := rfl
@[simp] theorem State.modChan_gradeFs (s : State) (n : Nat) (f : Chan → Chan) : (s.modChan n f).gradeFs = s.gradeFs := rfl
@[simp] theorem State.modChan_profile (s : State) (n : Nat) (f : Chan → Chan) : (s.modChan n f).profile = s.profile := rfl
@[simp] theorem State.modChan_regs (s : State) (n : Nat) (f : Chan → Chan) : (s.modChan n f).regs = s.regs := rfl
@[simp] theorem State.modChan_map (s : State) (n : Nat) (f : Chan → Chan) : (s.modChan n f).map = s.map := rfl
@[simp] theorem State.modChan_mapBuilt (s : State) (n : Nat) (f : Chan → Chan) : (s.modChan n f).mapBuilt = s.mapBuilt := rfl
@[simp] theorem State.modChan_links (s : State) (n : Nat) (f : Chan → Chan) : (s.modChan n f).links = s.links := rfl
@[simp] theorem State.modChan_ports (s : State) (n : Nat) (f : Chan → Chan) : (s.modChan n f).ports = s.ports := rfl
@[simp] theorem State.modChan_layers (s : State) (n : Nat) (f : Chan → Chan) : (s.modChan n f).layers = s.layers := rfl
@[simp] theorem State.modChan_reg (s : State) (n : Nat) (f : Chan → Chan) : (s.modChan n f).reg = s.reg := rfl
@[simp] theorem State.modChan_qe (s : State) (n : Nat) (f : Chan → Chan) : (s.modChan n f).qe = s.qe := rfl
@[simp] theorem State.modChan_dict (s : State) (n : Nat) (f : Chan → Chan) : (s.modChan n f).dict = s.dict := rfl
@[simp] theorem State.modChan_repair (s : State) (n : Nat) (f : Chan → Chan) : (s.modChan n f).repair = s.repair := rfl
@[simp] theorem State.modChan_qt (s : State) (n : Nat) (f : Chan → Chan) : (s.modChan n f).qt = s.qt := rfl
@[simp] theorem State.modChan_therm (s : State) (n : Nat) (f : Chan → Chan) : (s.modChan n f).therm = s.therm := rfl
@[simp] theorem State.modChan_power (s : State) (n : Nat) (f : Chan → Chan) : (s.modChan n f).power = s.power := rfl
@[simp] theorem State.modChan_clk (s : State) (n : Nat) (f : Chan → Chan) : (s.modChan n f).clk = s.clk := rfl
@[simp] theorem State.modChan_faults (s : State) (n : Nat) (f : Chan → Chan) : (s.modChan n f).faults = s.faults := rfl
@[simp] theorem State.modChan_gran (s : State) (n : Nat) (f : Chan → Chan) : (s.modChan n f).gran = s.gran := rfl
@[simp] theorem State.modChan_lc (s : State) (n : Nat) (f : Chan → Chan) : (s.modChan n f).lc = s.lc := rfl
@[simp] theorem State.modChan_bus (s : State) (n : Nat) (f : Chan → Chan) : (s.modChan n f).bus = s.bus := rfl
@[simp] theorem State.modChan_tap (s : State) (n : Nat) (f : Chan → Chan) : (s.modChan n f).tap = s.tap := rfl

/-! ### modLayer -/

@[simp] theorem State.modLayer_pending (s : State) (n : Nat) (f : Layer → Layer) : (s.modLayer n f).pending = s.pending := rfl
@[simp] theorem State.modLayer_now (s : State) (n : Nat) (f : Layer → Layer) : (s.modLayer n f).now = s.now := rfl
@[simp] theorem State.modLayer_free (s : State) (n : Nat) (f : Layer → Layer) : (s.modLayer n f).free = s.free := rfl
@[simp] theorem State.modLayer_boot (s : State) (n : Nat) (f : Layer → Layer) : (s.modLayer n f).boot = s.boot := rfl
@[simp] theorem State.modLayer_variant (s : State) (n : Nat) (f : Layer → Layer) : (s.modLayer n f).variant = s.variant := rfl
@[simp] theorem State.modLayer_gradeFs (s : State) (n : Nat) (f : Layer → Layer) : (s.modLayer n f).gradeFs = s.gradeFs := rfl
@[simp] theorem State.modLayer_profile (s : State) (n : Nat) (f : Layer → Layer) : (s.modLayer n f).profile = s.profile := rfl
@[simp] theorem State.modLayer_regs (s : State) (n : Nat) (f : Layer → Layer) : (s.modLayer n f).regs = s.regs := rfl
@[simp] theorem State.modLayer_map (s : State) (n : Nat) (f : Layer → Layer) : (s.modLayer n f).map = s.map := rfl
@[simp] theorem State.modLayer_mapBuilt (s : State) (n : Nat) (f : Layer → Layer) : (s.modLayer n f).mapBuilt = s.mapBuilt := rfl
@[simp] theorem State.modLayer_links (s : State) (n : Nat) (f : Layer → Layer) : (s.modLayer n f).links = s.links := rfl
@[simp] theorem State.modLayer_ports (s : State) (n : Nat) (f : Layer → Layer) : (s.modLayer n f).ports = s.ports := rfl
@[simp] theorem State.modLayer_chans (s : State) (n : Nat) (f : Layer → Layer) : (s.modLayer n f).chans = s.chans := rfl
@[simp] theorem State.modLayer_reg (s : State) (n : Nat) (f : Layer → Layer) : (s.modLayer n f).reg = s.reg := rfl
@[simp] theorem State.modLayer_qe (s : State) (n : Nat) (f : Layer → Layer) : (s.modLayer n f).qe = s.qe := rfl
@[simp] theorem State.modLayer_dict (s : State) (n : Nat) (f : Layer → Layer) : (s.modLayer n f).dict = s.dict := rfl
@[simp] theorem State.modLayer_repair (s : State) (n : Nat) (f : Layer → Layer) : (s.modLayer n f).repair = s.repair := rfl
@[simp] theorem State.modLayer_qt (s : State) (n : Nat) (f : Layer → Layer) : (s.modLayer n f).qt = s.qt := rfl
@[simp] theorem State.modLayer_therm (s : State) (n : Nat) (f : Layer → Layer) : (s.modLayer n f).therm = s.therm := rfl
@[simp] theorem State.modLayer_power (s : State) (n : Nat) (f : Layer → Layer) : (s.modLayer n f).power = s.power := rfl
@[simp] theorem State.modLayer_clk (s : State) (n : Nat) (f : Layer → Layer) : (s.modLayer n f).clk = s.clk := rfl
@[simp] theorem State.modLayer_faults (s : State) (n : Nat) (f : Layer → Layer) : (s.modLayer n f).faults = s.faults := rfl
@[simp] theorem State.modLayer_gran (s : State) (n : Nat) (f : Layer → Layer) : (s.modLayer n f).gran = s.gran := rfl
@[simp] theorem State.modLayer_lc (s : State) (n : Nat) (f : Layer → Layer) : (s.modLayer n f).lc = s.lc := rfl
@[simp] theorem State.modLayer_bus (s : State) (n : Nat) (f : Layer → Layer) : (s.modLayer n f).bus = s.bus := rfl
@[simp] theorem State.modLayer_tap (s : State) (n : Nat) (f : Layer → Layer) : (s.modLayer n f).tap = s.tap := rfl

/-! ### rset -/

@[simp] theorem State.rset_pending (s : State) (n v : Nat) : (s.rset n v).pending = s.pending := rfl
@[simp] theorem State.rset_now (s : State) (n v : Nat) : (s.rset n v).now = s.now := rfl
@[simp] theorem State.rset_free (s : State) (n v : Nat) : (s.rset n v).free = s.free := rfl
@[simp] theorem State.rset_boot (s : State) (n v : Nat) : (s.rset n v).boot = s.boot := rfl
@[simp] theorem State.rset_variant (s : State) (n v : Nat) : (s.rset n v).variant = s.variant := rfl
@[simp] theorem State.rset_gradeFs (s : State) (n v : Nat) : (s.rset n v).gradeFs = s.gradeFs := rfl
@[simp] theorem State.rset_profile (s : State) (n v : Nat) : (s.rset n v).profile = s.profile := rfl
@[simp] theorem State.rset_map (s : State) (n v : Nat) : (s.rset n v).map = s.map := rfl
@[simp] theorem State.rset_mapBuilt (s : State) (n v : Nat) : (s.rset n v).mapBuilt = s.mapBuilt := rfl
@[simp] theorem State.rset_links (s : State) (n v : Nat) : (s.rset n v).links = s.links := rfl
@[simp] theorem State.rset_ports (s : State) (n v : Nat) : (s.rset n v).ports = s.ports := rfl
@[simp] theorem State.rset_chans (s : State) (n v : Nat) : (s.rset n v).chans = s.chans := rfl
@[simp] theorem State.rset_layers (s : State) (n v : Nat) : (s.rset n v).layers = s.layers := rfl
@[simp] theorem State.rset_reg (s : State) (n v : Nat) : (s.rset n v).reg = s.reg := rfl
@[simp] theorem State.rset_qe (s : State) (n v : Nat) : (s.rset n v).qe = s.qe := rfl
@[simp] theorem State.rset_dict (s : State) (n v : Nat) : (s.rset n v).dict = s.dict := rfl
@[simp] theorem State.rset_repair (s : State) (n v : Nat) : (s.rset n v).repair = s.repair := rfl
@[simp] theorem State.rset_qt (s : State) (n v : Nat) : (s.rset n v).qt = s.qt := rfl
@[simp] theorem State.rset_therm (s : State) (n v : Nat) : (s.rset n v).therm = s.therm := rfl
@[simp] theorem State.rset_power (s : State) (n v : Nat) : (s.rset n v).power = s.power := rfl
@[simp] theorem State.rset_clk (s : State) (n v : Nat) : (s.rset n v).clk = s.clk := rfl
@[simp] theorem State.rset_faults (s : State) (n v : Nat) : (s.rset n v).faults = s.faults := rfl
@[simp] theorem State.rset_gran (s : State) (n v : Nat) : (s.rset n v).gran = s.gran := rfl
@[simp] theorem State.rset_lc (s : State) (n v : Nat) : (s.rset n v).lc = s.lc := rfl
@[simp] theorem State.rset_bus (s : State) (n v : Nat) : (s.rset n v).bus = s.bus := rfl
@[simp] theorem State.rset_tap (s : State) (n v : Nat) : (s.rset n v).tap = s.tap := rfl

/-! ### peak -/

@[simp] theorem State.peak_pending (s : State) (n v t : Nat) : (s.peak n v t).pending = s.pending := rfl
@[simp] theorem State.peak_now (s : State) (n v t : Nat) : (s.peak n v t).now = s.now := rfl
@[simp] theorem State.peak_free (s : State) (n v t : Nat) : (s.peak n v t).free = s.free := rfl
@[simp] theorem State.peak_boot (s : State) (n v t : Nat) : (s.peak n v t).boot = s.boot := rfl
@[simp] theorem State.peak_variant (s : State) (n v t : Nat) : (s.peak n v t).variant = s.variant := rfl
@[simp] theorem State.peak_gradeFs (s : State) (n v t : Nat) : (s.peak n v t).gradeFs = s.gradeFs := rfl
@[simp] theorem State.peak_profile (s : State) (n v t : Nat) : (s.peak n v t).profile = s.profile := rfl
@[simp] theorem State.peak_map (s : State) (n v t : Nat) : (s.peak n v t).map = s.map := rfl
@[simp] theorem State.peak_mapBuilt (s : State) (n v t : Nat) : (s.peak n v t).mapBuilt = s.mapBuilt := rfl
@[simp] theorem State.peak_links (s : State) (n v t : Nat) : (s.peak n v t).links = s.links := rfl
@[simp] theorem State.peak_ports (s : State) (n v t : Nat) : (s.peak n v t).ports = s.ports := rfl
@[simp] theorem State.peak_chans (s : State) (n v t : Nat) : (s.peak n v t).chans = s.chans := rfl
@[simp] theorem State.peak_layers (s : State) (n v t : Nat) : (s.peak n v t).layers = s.layers := rfl
@[simp] theorem State.peak_reg (s : State) (n v t : Nat) : (s.peak n v t).reg = s.reg := rfl
@[simp] theorem State.peak_qe (s : State) (n v t : Nat) : (s.peak n v t).qe = s.qe := rfl
@[simp] theorem State.peak_dict (s : State) (n v t : Nat) : (s.peak n v t).dict = s.dict := rfl
@[simp] theorem State.peak_repair (s : State) (n v t : Nat) : (s.peak n v t).repair = s.repair := rfl
@[simp] theorem State.peak_qt (s : State) (n v t : Nat) : (s.peak n v t).qt = s.qt := rfl
@[simp] theorem State.peak_therm (s : State) (n v t : Nat) : (s.peak n v t).therm = s.therm := rfl
@[simp] theorem State.peak_power (s : State) (n v t : Nat) : (s.peak n v t).power = s.power := rfl
@[simp] theorem State.peak_clk (s : State) (n v t : Nat) : (s.peak n v t).clk = s.clk := rfl
@[simp] theorem State.peak_faults (s : State) (n v t : Nat) : (s.peak n v t).faults = s.faults := rfl
@[simp] theorem State.peak_gran (s : State) (n v t : Nat) : (s.peak n v t).gran = s.gran := rfl
@[simp] theorem State.peak_lc (s : State) (n v t : Nat) : (s.peak n v t).lc = s.lc := rfl
@[simp] theorem State.peak_bus (s : State) (n v t : Nat) : (s.peak n v t).bus = s.bus := rfl
@[simp] theorem State.peak_tap (s : State) (n v t : Nat) : (s.peak n v t).tap = s.tap := rfl

/-! ### tick -/

@[simp] theorem State.tick_pending (s : State) : (s.tick).pending = s.pending := rfl
@[simp] theorem State.tick_now (s : State) : (s.tick).now = s.now := rfl
@[simp] theorem State.tick_boot (s : State) : (s.tick).boot = s.boot := rfl
@[simp] theorem State.tick_variant (s : State) : (s.tick).variant = s.variant := rfl
@[simp] theorem State.tick_gradeFs (s : State) : (s.tick).gradeFs = s.gradeFs := rfl
@[simp] theorem State.tick_profile (s : State) : (s.tick).profile = s.profile := rfl
@[simp] theorem State.tick_regs (s : State) : (s.tick).regs = s.regs := rfl
@[simp] theorem State.tick_map (s : State) : (s.tick).map = s.map := rfl
@[simp] theorem State.tick_mapBuilt (s : State) : (s.tick).mapBuilt = s.mapBuilt := rfl
@[simp] theorem State.tick_links (s : State) : (s.tick).links = s.links := rfl
@[simp] theorem State.tick_ports (s : State) : (s.tick).ports = s.ports := rfl
@[simp] theorem State.tick_chans (s : State) : (s.tick).chans = s.chans := rfl
@[simp] theorem State.tick_layers (s : State) : (s.tick).layers = s.layers := rfl
@[simp] theorem State.tick_reg (s : State) : (s.tick).reg = s.reg := rfl
@[simp] theorem State.tick_qe (s : State) : (s.tick).qe = s.qe := rfl
@[simp] theorem State.tick_dict (s : State) : (s.tick).dict = s.dict := rfl
@[simp] theorem State.tick_repair (s : State) : (s.tick).repair = s.repair := rfl
@[simp] theorem State.tick_qt (s : State) : (s.tick).qt = s.qt := rfl
@[simp] theorem State.tick_therm (s : State) : (s.tick).therm = s.therm := rfl
@[simp] theorem State.tick_power (s : State) : (s.tick).power = s.power := rfl
@[simp] theorem State.tick_clk (s : State) : (s.tick).clk = s.clk := rfl
@[simp] theorem State.tick_faults (s : State) : (s.tick).faults = s.faults := rfl
@[simp] theorem State.tick_gran (s : State) : (s.tick).gran = s.gran := rfl
@[simp] theorem State.tick_lc (s : State) : (s.tick).lc = s.lc := rfl
@[simp] theorem State.tick_bus (s : State) : (s.tick).bus = s.bus := rfl
@[simp] theorem State.tick_tap (s : State) : (s.tick).tap = s.tap := rfl

/-! ### reason -/

@[simp] theorem State.reason_pending (s : State) (i : Nat) : (s.reason i).pending = s.pending := rfl
@[simp] theorem State.reason_now (s : State) (i : Nat) : (s.reason i).now = s.now := rfl
@[simp] theorem State.reason_free (s : State) (i : Nat) : (s.reason i).free = s.free := rfl
@[simp] theorem State.reason_boot (s : State) (i : Nat) : (s.reason i).boot = s.boot := rfl
@[simp] theorem State.reason_variant (s : State) (i : Nat) : (s.reason i).variant = s.variant := rfl
@[simp] theorem State.reason_gradeFs (s : State) (i : Nat) : (s.reason i).gradeFs = s.gradeFs := rfl
@[simp] theorem State.reason_profile (s : State) (i : Nat) : (s.reason i).profile = s.profile := rfl
@[simp] theorem State.reason_regs (s : State) (i : Nat) : (s.reason i).regs = s.regs := rfl
@[simp] theorem State.reason_map (s : State) (i : Nat) : (s.reason i).map = s.map := rfl
@[simp] theorem State.reason_mapBuilt (s : State) (i : Nat) : (s.reason i).mapBuilt = s.mapBuilt := rfl
@[simp] theorem State.reason_links (s : State) (i : Nat) : (s.reason i).links = s.links := rfl
@[simp] theorem State.reason_ports (s : State) (i : Nat) : (s.reason i).ports = s.ports := rfl
@[simp] theorem State.reason_chans (s : State) (i : Nat) : (s.reason i).chans = s.chans := rfl
@[simp] theorem State.reason_layers (s : State) (i : Nat) : (s.reason i).layers = s.layers := rfl
@[simp] theorem State.reason_reg (s : State) (i : Nat) : (s.reason i).reg = s.reg := rfl
@[simp] theorem State.reason_qe (s : State) (i : Nat) : (s.reason i).qe = s.qe := rfl
@[simp] theorem State.reason_dict (s : State) (i : Nat) : (s.reason i).dict = s.dict := rfl
@[simp] theorem State.reason_repair (s : State) (i : Nat) : (s.reason i).repair = s.repair := rfl
@[simp] theorem State.reason_qt (s : State) (i : Nat) : (s.reason i).qt = s.qt := rfl
@[simp] theorem State.reason_therm (s : State) (i : Nat) : (s.reason i).therm = s.therm := rfl
@[simp] theorem State.reason_power (s : State) (i : Nat) : (s.reason i).power = s.power := rfl
@[simp] theorem State.reason_clk (s : State) (i : Nat) : (s.reason i).clk = s.clk := rfl
@[simp] theorem State.reason_faults (s : State) (i : Nat) : (s.reason i).faults = s.faults := rfl
@[simp] theorem State.reason_gran (s : State) (i : Nat) : (s.reason i).gran = s.gran := rfl
@[simp] theorem State.reason_lc (s : State) (i : Nat) : (s.reason i).lc = s.lc := rfl
@[simp] theorem State.reason_tap (s : State) (i : Nat) : (s.reason i).tap = s.tap := rfl

/-! ### setCmd -/

@[simp] theorem State.setCmd_pending (s : State) (n : Nat) (x : CmdState) : (s.setCmd n x).pending = s.pending := rfl
@[simp] theorem State.setCmd_now (s : State) (n : Nat) (x : CmdState) : (s.setCmd n x).now = s.now := rfl
@[simp] theorem State.setCmd_free (s : State) (n : Nat) (x : CmdState) : (s.setCmd n x).free = s.free := rfl
@[simp] theorem State.setCmd_boot (s : State) (n : Nat) (x : CmdState) : (s.setCmd n x).boot = s.boot := rfl
@[simp] theorem State.setCmd_variant (s : State) (n : Nat) (x : CmdState) : (s.setCmd n x).variant = s.variant := rfl
@[simp] theorem State.setCmd_gradeFs (s : State) (n : Nat) (x : CmdState) : (s.setCmd n x).gradeFs = s.gradeFs := rfl
@[simp] theorem State.setCmd_profile (s : State) (n : Nat) (x : CmdState) : (s.setCmd n x).profile = s.profile := rfl
@[simp] theorem State.setCmd_regs (s : State) (n : Nat) (x : CmdState) : (s.setCmd n x).regs = s.regs := rfl
@[simp] theorem State.setCmd_map (s : State) (n : Nat) (x : CmdState) : (s.setCmd n x).map = s.map := rfl
@[simp] theorem State.setCmd_mapBuilt (s : State) (n : Nat) (x : CmdState) : (s.setCmd n x).mapBuilt = s.mapBuilt := rfl
@[simp] theorem State.setCmd_links (s : State) (n : Nat) (x : CmdState) : (s.setCmd n x).links = s.links := rfl
@[simp] theorem State.setCmd_ports (s : State) (n : Nat) (x : CmdState) : (s.setCmd n x).ports = s.ports := rfl
@[simp] theorem State.setCmd_chans (s : State) (n : Nat) (x : CmdState) : (s.setCmd n x).chans = s.chans := rfl
@[simp] theorem State.setCmd_layers (s : State) (n : Nat) (x : CmdState) : (s.setCmd n x).layers = s.layers := rfl
@[simp] theorem State.setCmd_reg (s : State) (n : Nat) (x : CmdState) : (s.setCmd n x).reg = s.reg := rfl
@[simp] theorem State.setCmd_qe (s : State) (n : Nat) (x : CmdState) : (s.setCmd n x).qe = s.qe := rfl
@[simp] theorem State.setCmd_repair (s : State) (n : Nat) (x : CmdState) : (s.setCmd n x).repair = s.repair := rfl
@[simp] theorem State.setCmd_qt (s : State) (n : Nat) (x : CmdState) : (s.setCmd n x).qt = s.qt := rfl
@[simp] theorem State.setCmd_therm (s : State) (n : Nat) (x : CmdState) : (s.setCmd n x).therm = s.therm := rfl
@[simp] theorem State.setCmd_power (s : State) (n : Nat) (x : CmdState) : (s.setCmd n x).power = s.power := rfl
@[simp] theorem State.setCmd_clk (s : State) (n : Nat) (x : CmdState) : (s.setCmd n x).clk = s.clk := rfl
@[simp] theorem State.setCmd_faults (s : State) (n : Nat) (x : CmdState) : (s.setCmd n x).faults = s.faults := rfl
@[simp] theorem State.setCmd_gran (s : State) (n : Nat) (x : CmdState) : (s.setCmd n x).gran = s.gran := rfl
@[simp] theorem State.setCmd_lc (s : State) (n : Nat) (x : CmdState) : (s.setCmd n x).lc = s.lc := rfl
@[simp] theorem State.setCmd_bus (s : State) (n : Nat) (x : CmdState) : (s.setCmd n x).bus = s.bus := rfl
@[simp] theorem State.setCmd_tap (s : State) (n : Nat) (x : CmdState) : (s.setCmd n x).tap = s.tap := rfl

/-! ### cmdEnd -/

@[simp] theorem State.cmdEnd_pending (s : State) (n st : Nat) : (s.cmdEnd n st).pending = s.pending := rfl
@[simp] theorem State.cmdEnd_now (s : State) (n st : Nat) : (s.cmdEnd n st).now = s.now := rfl
@[simp] theorem State.cmdEnd_free (s : State) (n st : Nat) : (s.cmdEnd n st).free = s.free := rfl
@[simp] theorem State.cmdEnd_boot (s : State) (n st : Nat) : (s.cmdEnd n st).boot = s.boot := rfl
@[simp] theorem State.cmdEnd_variant (s : State) (n st : Nat) : (s.cmdEnd n st).variant = s.variant := rfl
@[simp] theorem State.cmdEnd_gradeFs (s : State) (n st : Nat) : (s.cmdEnd n st).gradeFs = s.gradeFs := rfl
@[simp] theorem State.cmdEnd_profile (s : State) (n st : Nat) : (s.cmdEnd n st).profile = s.profile := rfl
@[simp] theorem State.cmdEnd_regs (s : State) (n st : Nat) : (s.cmdEnd n st).regs = s.regs := rfl
@[simp] theorem State.cmdEnd_map (s : State) (n st : Nat) : (s.cmdEnd n st).map = s.map := rfl
@[simp] theorem State.cmdEnd_mapBuilt (s : State) (n st : Nat) : (s.cmdEnd n st).mapBuilt = s.mapBuilt := rfl
@[simp] theorem State.cmdEnd_links (s : State) (n st : Nat) : (s.cmdEnd n st).links = s.links := rfl
@[simp] theorem State.cmdEnd_ports (s : State) (n st : Nat) : (s.cmdEnd n st).ports = s.ports := rfl
@[simp] theorem State.cmdEnd_chans (s : State) (n st : Nat) : (s.cmdEnd n st).chans = s.chans := rfl
@[simp] theorem State.cmdEnd_layers (s : State) (n st : Nat) : (s.cmdEnd n st).layers = s.layers := rfl
@[simp] theorem State.cmdEnd_reg (s : State) (n st : Nat) : (s.cmdEnd n st).reg = s.reg := rfl
@[simp] theorem State.cmdEnd_qe (s : State) (n st : Nat) : (s.cmdEnd n st).qe = s.qe := rfl
@[simp] theorem State.cmdEnd_repair (s : State) (n st : Nat) : (s.cmdEnd n st).repair = s.repair := rfl
@[simp] theorem State.cmdEnd_qt (s : State) (n st : Nat) : (s.cmdEnd n st).qt = s.qt := rfl
@[simp] theorem State.cmdEnd_therm (s : State) (n st : Nat) : (s.cmdEnd n st).therm = s.therm := rfl
@[simp] theorem State.cmdEnd_power (s : State) (n st : Nat) : (s.cmdEnd n st).power = s.power := rfl
@[simp] theorem State.cmdEnd_clk (s : State) (n st : Nat) : (s.cmdEnd n st).clk = s.clk := rfl
@[simp] theorem State.cmdEnd_faults (s : State) (n st : Nat) : (s.cmdEnd n st).faults = s.faults := rfl
@[simp] theorem State.cmdEnd_gran (s : State) (n st : Nat) : (s.cmdEnd n st).gran = s.gran := rfl
@[simp] theorem State.cmdEnd_lc (s : State) (n st : Nat) : (s.cmdEnd n st).lc = s.lc := rfl
@[simp] theorem State.cmdEnd_bus (s : State) (n st : Nat) : (s.cmdEnd n st).bus = s.bus := rfl
@[simp] theorem State.cmdEnd_tap (s : State) (n st : Nat) : (s.cmdEnd n st).tap = s.tap := rfl

/-! ### cmdStart -/

@[simp] theorem State.cmdStart_pending (s : State) (n : Nat) : (s.cmdStart n).pending = s.pending := rfl
@[simp] theorem State.cmdStart_now (s : State) (n : Nat) : (s.cmdStart n).now = s.now := rfl
@[simp] theorem State.cmdStart_free (s : State) (n : Nat) : (s.cmdStart n).free = s.free := rfl
@[simp] theorem State.cmdStart_boot (s : State) (n : Nat) : (s.cmdStart n).boot = s.boot := rfl
@[simp] theorem State.cmdStart_variant (s : State) (n : Nat) : (s.cmdStart n).variant = s.variant := rfl
@[simp] theorem State.cmdStart_gradeFs (s : State) (n : Nat) : (s.cmdStart n).gradeFs = s.gradeFs := rfl
@[simp] theorem State.cmdStart_profile (s : State) (n : Nat) : (s.cmdStart n).profile = s.profile := rfl
@[simp] theorem State.cmdStart_regs (s : State) (n : Nat) : (s.cmdStart n).regs = s.regs := rfl
@[simp] theorem State.cmdStart_map (s : State) (n : Nat) : (s.cmdStart n).map = s.map := rfl
@[simp] theorem State.cmdStart_mapBuilt (s : State) (n : Nat) : (s.cmdStart n).mapBuilt = s.mapBuilt := rfl
@[simp] theorem State.cmdStart_links (s : State) (n : Nat) : (s.cmdStart n).links = s.links := rfl
@[simp] theorem State.cmdStart_ports (s : State) (n : Nat) : (s.cmdStart n).ports = s.ports := rfl
@[simp] theorem State.cmdStart_chans (s : State) (n : Nat) : (s.cmdStart n).chans = s.chans := rfl
@[simp] theorem State.cmdStart_layers (s : State) (n : Nat) : (s.cmdStart n).layers = s.layers := rfl
@[simp] theorem State.cmdStart_reg (s : State) (n : Nat) : (s.cmdStart n).reg = s.reg := rfl
@[simp] theorem State.cmdStart_qe (s : State) (n : Nat) : (s.cmdStart n).qe = s.qe := rfl
@[simp] theorem State.cmdStart_repair (s : State) (n : Nat) : (s.cmdStart n).repair = s.repair := rfl
@[simp] theorem State.cmdStart_qt (s : State) (n : Nat) : (s.cmdStart n).qt = s.qt := rfl
@[simp] theorem State.cmdStart_therm (s : State) (n : Nat) : (s.cmdStart n).therm = s.therm := rfl
@[simp] theorem State.cmdStart_power (s : State) (n : Nat) : (s.cmdStart n).power = s.power := rfl
@[simp] theorem State.cmdStart_clk (s : State) (n : Nat) : (s.cmdStart n).clk = s.clk := rfl
@[simp] theorem State.cmdStart_faults (s : State) (n : Nat) : (s.cmdStart n).faults = s.faults := rfl
@[simp] theorem State.cmdStart_gran (s : State) (n : Nat) : (s.cmdStart n).gran = s.gran := rfl
@[simp] theorem State.cmdStart_lc (s : State) (n : Nat) : (s.cmdStart n).lc = s.lc := rfl
@[simp] theorem State.cmdStart_bus (s : State) (n : Nat) : (s.cmdStart n).bus = s.bus := rfl
@[simp] theorem State.cmdStart_tap (s : State) (n : Nat) : (s.cmdStart n).tap = s.tap := rfl

end Sys2Proof.Machine
end

