-- ==== Sys2Proof/Laws/Settle.lean ====
section
/-!
SUPPORT. Laws/Settle: what follows from a command in a quiet stack is nothing.
-/

set_option Elab.async false

namespace Sys2Proof.Machine

theorem State.resetsAct_none (s : State) (k : Nat) (hc : s.faults.chipReq = []) (hb : s.faults.blockReq = []) :
    s.resetsAct k = s := by
  cases k with
  | zero => rfl
  | succ k => simp only [State.resetsAct, hc, hb]

theorem State.hardenAuto_off (s : State) (h : s.rget kHardenAuto = 0) : s.hardenAuto = s := by
  rw [State.hardenAuto, if_neg]
  simp [State.flag, show s.rget (ekey 0x1C00 0x02) = 0 from h]

theorem State.powerSettle_still (s : State) (h : s.power.changing = false) (hr : (s.cmd kPower).running = false) :
    s.powerSettle = s := by
  simp [State.powerSettle, h, hr]

theorem State.stopPins_still (s : State) (h : s.therm.stop ≠ 1) : s.stopPins = s := by
  rw [State.stopPins, if_neg]
  simp [h]

theorem State.rawTurns_none (s : State) (h : s.dict.raw = []) : s.rawTurns = s := by
  simp only [State.rawTurns, h, List.foldl_nil]

theorem State.feedAll_idle (s : State) (h : s.qe.due = false) : s.feedAll = s := by
  simp only [State.feedAll, h, Bool.false_eq_true, if_false]

theorem State.applyQuiet_none (s : State) (h : s.dict.commit = none) : s.applyQuiet = s := by
  simp only [State.applyQuiet, h]

theorem State.serveAll_none (s : State) (h : s.dict.held = []) : s.serveAll = s := by
  simp only [State.serveAll, h, List.length_nil, State.serveTurns]

/-- A quiet stack stays as a command leaves it. -/
theorem State.settle_calm (s : State) (h : s.calm = true) : s.settle = s := by
  simp only [State.calm, Bool.and_eq_true, decide_eq_true_eq, Bool.not_eq_true'] at h
  obtain ⟨⟨⟨⟨⟨⟨hc, hb⟩, hp⟩, hr⟩, hh⟩, hs⟩, hi⟩ := h
  simp only [State.idleWork, Bool.and_eq_true, decide_eq_true_eq, Bool.not_eq_true'] at hi
  obtain ⟨⟨⟨h1, h2⟩, h3⟩, h4⟩ := hi
  rw [State.settle, s.resetsAct_none 512 hc hb, s.hardenAuto_off hh, s.stopPins_still hs, s.powerSettle_still hp hr, s.rawTurns_none h2,
    s.feedAll_idle h4, s.applyQuiet_none h1, s.serveAll_none h3, s.resetsAct_none 512 hc hb, s.applyQuiet_none h1]

/-- The outcome of a row whose operands name something and whose effect leaves the stack quiet. -/
theorem finish_calm (wf : Bool) (s : State) (hw : wf = true) (h : s.calm = true) : finish wf s = .next s := by
  rw [finish, if_pos hw, s.settle_calm h]

/-- Quiet is a matter of a few pieces of the state. -/
theorem State.calm_congr (s t : State) (hc : t.faults.chipReq = s.faults.chipReq) (hb : t.faults.blockReq = s.faults.blockReq)
    (hp : t.power.changing = s.power.changing) (hr : (t.cmd kPower).running = (s.cmd kPower).running)
    (hh : t.rget kHardenAuto = s.rget kHardenAuto) (hs : t.therm.stop = s.therm.stop) (hi : t.idleWork = s.idleWork) :
    t.calm = s.calm := by
  simp only [State.calm, hc, hb, hp, hr, hh, hs, hi]

end Sys2Proof.Machine
end

