-- ==== Sys2Proof/Laws/Ops.lean ====
section
/-!
SUPPORT. Laws/Ops: what the shared operations of Ops can do: counting, folding over numbers, and the report of a fault, each said
once with what it leaves alone.
-/

set_option Elab.async false

namespace Sys2Proof.Machine

/-! ### Folding -/

/-- What one step of a fold keeps, the fold keeps. -/
theorem State.each_keeps (P : State → Prop) (s : State) (ns : List Nat) (f : State → Nat → State) (h0 : P s)
    (hf : ∀ t n, P t → P (f t n)) : P (s.each ns f) := by
  induction ns generalizing s with
  | nil => exact h0
  | cons n r ih => exact ih (f s n) (hf s n h0)

/-! ### Counting -/

/-- A counter below the end of its type counts. -/
theorem State.count_eq (s : State) (k n : Nat) (r : EntryRow) (hr : entryRow k = some r)
    (h : s.rget k + n < 2 ^ r.ty.bits) : s.count k n = s.rset k (s.rget k + n) := by
  simp only [State.count, hr, if_pos h, ite_self]

/-- A counter of a type of 32 bits. -/
theorem State.count_u32 (s : State) (k n : Nat) (hr : (entryRow k).map EntryRow.ty = some .u32)
    (h : s.rget k + n < 2 ^ 32) : s.count k n = s.rset k (s.rget k + n) := by
  cases he : entryRow k with
  | none => simp [he] at hr
  | some r =>
    simp only [he, Option.map_some, Option.some.injEq] at hr
    exact s.count_eq k n r he (by simpa [hr, ETy.bits] using h)

theorem State.count_rget_other (s : State) (k n j : Nat) (h : j ≠ k) : (s.count k n).rget j = s.rget j := by
  have tick : ∀ t : State, t.tick.rget j = t.rget j := fun _ => rfl
  simp only [State.count]
  (repeat' split) <;> simp only [tick, State.rget_rset, if_neg h]

@[simp] theorem State.count_pending (s : State) (k n : Nat) : (s.count k n).pending = s.pending := by
  simp only [State.count]; (repeat' split) <;> rfl
@[simp] theorem State.count_now (s : State) (k n : Nat) : (s.count k n).now = s.now := by
  simp only [State.count]; (repeat' split) <;> rfl
@[simp] theorem State.count_boot (s : State) (k n : Nat) : (s.count k n).boot = s.boot := by
  simp only [State.count]; (repeat' split) <;> rfl
@[simp] theorem State.count_variant (s : State) (k n : Nat) : (s.count k n).variant = s.variant := by
  simp only [State.count]; (repeat' split) <;> rfl
@[simp] theorem State.count_gradeFs (s : State) (k n : Nat) : (s.count k n).gradeFs = s.gradeFs := by
  simp only [State.count]; (repeat' split) <;> rfl
@[simp] theorem State.count_profile (s : State) (k n : Nat) : (s.count k n).profile = s.profile := by
  simp only [State.count]; (repeat' split) <;> rfl
@[simp] theorem State.count_map (s : State) (k n : Nat) : (s.count k n).map = s.map := by
  simp only [State.count]; (repeat' split) <;> rfl
@[simp] theorem State.count_mapBuilt (s : State) (k n : Nat) : (s.count k n).mapBuilt = s.mapBuilt := by
  simp only [State.count]; (repeat' split) <;> rfl
@[simp] theorem State.count_links (s : State) (k n : Nat) : (s.count k n).links = s.links := by
  simp only [State.count]; (repeat' split) <;> rfl
@[simp] theorem State.count_ports (s : State) (k n : Nat) : (s.count k n).ports = s.ports := by
  simp only [State.count]; (repeat' split) <;> rfl
@[simp] theorem State.count_chans (s : State) (k n : Nat) : (s.count k n).chans = s.chans := by
  simp only [State.count]; (repeat' split) <;> rfl
@[simp] theorem State.count_layers (s : State) (k n : Nat) : (s.count k n).layers = s.layers := by
  simp only [State.count]; (repeat' split) <;> rfl
@[simp] theorem State.count_reg (s : State) (k n : Nat) : (s.count k n).reg = s.reg := by
  simp only [State.count]; (repeat' split) <;> rfl
@[simp] theorem State.count_qe (s : State) (k n : Nat) : (s.count k n).qe = s.qe := by
  simp only [State.count]; (repeat' split) <;> rfl
@[simp] theorem State.count_dict (s : State) (k n : Nat) : (s.count k n).dict = s.dict := by
  simp only [State.count]; (repeat' split) <;> rfl
@[simp] theorem State.count_repair (s : State) (k n : Nat) : (s.count k n).repair = s.repair := by
  simp only [State.count]; (repeat' split) <;> rfl
@[simp] theorem State.count_qt (s : State) (k n : Nat) : (s.count k n).qt = s.qt := by
  simp only [State.count]; (repeat' split) <;> rfl
@[simp] theorem State.count_therm (s : State) (k n : Nat) : (s.count k n).therm = s.therm := by
  simp only [State.count]; (repeat' split) <;> rfl
@[simp] theorem State.count_power (s : State) (k n : Nat) : (s.count k n).power = s.power := by
  simp only [State.count]; (repeat' split) <;> rfl
@[simp] theorem State.count_clk (s : State) (k n : Nat) : (s.count k n).clk = s.clk := by
  simp only [State.count]; (repeat' split) <;> rfl
@[simp] theorem State.count_faults (s : State) (k n : Nat) : (s.count k n).faults = s.faults := by
  simp only [State.count]; (repeat' split) <;> rfl
@[simp] theorem State.count_gran (s : State) (k n : Nat) : (s.count k n).gran = s.gran := by
  simp only [State.count]; (repeat' split) <;> rfl
@[simp] theorem State.count_lc (s : State) (k n : Nat) : (s.count k n).lc = s.lc := by
  simp only [State.count]; (repeat' split) <;> rfl
@[simp] theorem State.count_bus (s : State) (k n : Nat) : (s.count k n).bus = s.bus := by
  simp only [State.count]; (repeat' split) <;> rfl
@[simp] theorem State.count_tap (s : State) (k n : Nat) : (s.count k n).tap = s.tap := by
  simp only [State.count]; (repeat' split) <;> rfl

/-! ### Events and traps -/

@[simp] theorem State.queueEvent_pending (s : State) (c : Nat) : (s.queueEvent c).pending = s.pending := by
  simp only [State.queueEvent, State.reason_pending]
  refine s.each_keeps (fun t => t.pending = s.pending) _ _ rfl (fun t n h => ?_)
  split <;> simp [h]
@[simp] theorem State.queueEvent_now (s : State) (c : Nat) : (s.queueEvent c).now = s.now := by
  simp only [State.queueEvent, State.reason_now]
  refine s.each_keeps (fun t => t.now = s.now) _ _ rfl (fun t n h => ?_)
  split <;> simp [h]
@[simp] theorem State.queueEvent_free (s : State) (c : Nat) : (s.queueEvent c).free = s.free := by
  simp only [State.queueEvent, State.reason_free]
  refine s.each_keeps (fun t => t.free = s.free) _ _ rfl (fun t n h => ?_)
  split <;> simp [h]
@[simp] theorem State.queueEvent_boot (s : State) (c : Nat) : (s.queueEvent c).boot = s.boot := by
  simp only [State.queueEvent, State.reason_boot]
  refine s.each_keeps (fun t => t.boot = s.boot) _ _ rfl (fun t n h => ?_)
  split <;> simp [h]
@[simp] theorem State.queueEvent_variant (s : State) (c : Nat) : (s.queueEvent c).variant = s.variant := by
  simp only [State.queueEvent, State.reason_variant]
  refine s.each_keeps (fun t => t.variant = s.variant) _ _ rfl (fun t n h => ?_)
  split <;> simp [h]
@[simp] theorem State.queueEvent_gradeFs (s : State) (c : Nat) : (s.queueEvent c).gradeFs = s.gradeFs := by
  simp only [State.queueEvent, State.reason_gradeFs]
  refine s.each_keeps (fun t => t.gradeFs = s.gradeFs) _ _ rfl (fun t n h => ?_)
  split <;> simp [h]
@[simp] theorem State.queueEvent_profile (s : State) (c : Nat) : (s.queueEvent c).profile = s.profile := by
  simp only [State.queueEvent, State.reason_profile]
  refine s.each_keeps (fun t => t.profile = s.profile) _ _ rfl (fun t n h => ?_)
  split <;> simp [h]
@[simp] theorem State.queueEvent_regs (s : State) (c : Nat) : (s.queueEvent c).regs = s.regs := by
  simp only [State.queueEvent, State.reason_regs]
  refine s.each_keeps (fun t => t.regs = s.regs) _ _ rfl (fun t n h => ?_)
  split <;> simp [h]
@[simp] theorem State.queueEvent_map (s : State) (c : Nat) : (s.queueEvent c).map = s.map := by
  simp only [State.queueEvent, State.reason_map]
  refine s.each_keeps (fun t => t.map = s.map) _ _ rfl (fun t n h => ?_)
  split <;> simp [h]
@[simp] theorem State.queueEvent_mapBuilt (s : State) (c : Nat) : (s.queueEvent c).mapBuilt = s.mapBuilt := by
  simp only [State.queueEvent, State.reason_mapBuilt]
  refine s.each_keeps (fun t => t.mapBuilt = s.mapBuilt) _ _ rfl (fun t n h => ?_)
  split <;> simp [h]
@[simp] theorem State.queueEvent_ports (s : State) (c : Nat) : (s.queueEvent c).ports = s.ports := by
  simp only [State.queueEvent, State.reason_ports]
  refine s.each_keeps (fun t => t.ports = s.ports) _ _ rfl (fun t n h => ?_)
  split <;> simp [h]
@[simp] theorem State.queueEvent_chans (s : State) (c : Nat) : (s.queueEvent c).chans = s.chans := by
  simp only [State.queueEvent, State.reason_chans]
  refine s.each_keeps (fun t => t.chans = s.chans) _ _ rfl (fun t n h => ?_)
  split <;> simp [h]
@[simp] theorem State.queueEvent_layers (s : State) (c : Nat) : (s.queueEvent c).layers = s.layers := by
  simp only [State.queueEvent, State.reason_layers]
  refine s.each_keeps (fun t => t.layers = s.layers) _ _ rfl (fun t n h => ?_)
  split <;> simp [h]
@[simp] theorem State.queueEvent_reg (s : State) (c : Nat) : (s.queueEvent c).reg = s.reg := by
  simp only [State.queueEvent, State.reason_reg]
  refine s.each_keeps (fun t => t.reg = s.reg) _ _ rfl (fun t n h => ?_)
  split <;> simp [h]
@[simp] theorem State.queueEvent_qe (s : State) (c : Nat) : (s.queueEvent c).qe = s.qe := by
  simp only [State.queueEvent, State.reason_qe]
  refine s.each_keeps (fun t => t.qe = s.qe) _ _ rfl (fun t n h => ?_)
  split <;> simp [h]
@[simp] theorem State.queueEvent_dict (s : State) (c : Nat) : (s.queueEvent c).dict = s.dict := by
  simp only [State.queueEvent, State.reason_dict]
  refine s.each_keeps (fun t => t.dict = s.dict) _ _ rfl (fun t n h => ?_)
  split <;> simp [h]
@[simp] theorem State.queueEvent_repair (s : State) (c : Nat) : (s.queueEvent c).repair = s.repair := by
  simp only [State.queueEvent, State.reason_repair]
  refine s.each_keeps (fun t => t.repair = s.repair) _ _ rfl (fun t n h => ?_)
  split <;> simp [h]
@[simp] theorem State.queueEvent_qt (s : State) (c : Nat) : (s.queueEvent c).qt = s.qt := by
  simp only [State.queueEvent, State.reason_qt]
  refine s.each_keeps (fun t => t.qt = s.qt) _ _ rfl (fun t n h => ?_)
  split <;> simp [h]
@[simp] theorem State.queueEvent_therm (s : State) (c : Nat) : (s.queueEvent c).therm = s.therm := by
  simp only [State.queueEvent, State.reason_therm]
  refine s.each_keeps (fun t => t.therm = s.therm) _ _ rfl (fun t n h => ?_)
  split <;> simp [h]
@[simp] theorem State.queueEvent_power (s : State) (c : Nat) : (s.queueEvent c).power = s.power := by
  simp only [State.queueEvent, State.reason_power]
  refine s.each_keeps (fun t => t.power = s.power) _ _ rfl (fun t n h => ?_)
  split <;> simp [h]
@[simp] theorem State.queueEvent_clk (s : State) (c : Nat) : (s.queueEvent c).clk = s.clk := by
  simp only [State.queueEvent, State.reason_clk]
  refine s.each_keeps (fun t => t.clk = s.clk) _ _ rfl (fun t n h => ?_)
  split <;> simp [h]
@[simp] theorem State.queueEvent_faults (s : State) (c : Nat) : (s.queueEvent c).faults = s.faults := by
  simp only [State.queueEvent, State.reason_faults]
  refine s.each_keeps (fun t => t.faults = s.faults) _ _ rfl (fun t n h => ?_)
  split <;> simp [h]
@[simp] theorem State.queueEvent_gran (s : State) (c : Nat) : (s.queueEvent c).gran = s.gran := by
  simp only [State.queueEvent, State.reason_gran]
  refine s.each_keeps (fun t => t.gran = s.gran) _ _ rfl (fun t n h => ?_)
  split <;> simp [h]
@[simp] theorem State.queueEvent_lc (s : State) (c : Nat) : (s.queueEvent c).lc = s.lc := by
  simp only [State.queueEvent, State.reason_lc]
  refine s.each_keeps (fun t => t.lc = s.lc) _ _ rfl (fun t n h => ?_)
  split <;> simp [h]
@[simp] theorem State.queueEvent_tap (s : State) (c : Nat) : (s.queueEvent c).tap = s.tap := by
  simp only [State.queueEvent, State.reason_tap]
  refine s.each_keeps (fun t => t.tap = s.tap) _ _ rfl (fun t n h => ?_)
  split <;> simp [h]
@[simp] theorem State.trap_pending (s : State) (c : Nat) (w : Bool) : (s.trap c w).pending = s.pending := by
  simp only [State.trap]; split <;> rfl
@[simp] theorem State.trap_now (s : State) (c : Nat) (w : Bool) : (s.trap c w).now = s.now := by
  simp only [State.trap]; split <;> rfl
@[simp] theorem State.trap_free (s : State) (c : Nat) (w : Bool) : (s.trap c w).free = s.free := by
  simp only [State.trap]; split <;> rfl
@[simp] theorem State.trap_boot (s : State) (c : Nat) (w : Bool) : (s.trap c w).boot = s.boot := by
  simp only [State.trap]; split <;> rfl
@[simp] theorem State.trap_variant (s : State) (c : Nat) (w : Bool) : (s.trap c w).variant = s.variant := by
  simp only [State.trap]; split <;> rfl
@[simp] theorem State.trap_gradeFs (s : State) (c : Nat) (w : Bool) : (s.trap c w).gradeFs = s.gradeFs := by
  simp only [State.trap]; split <;> rfl
@[simp] theorem State.trap_profile (s : State) (c : Nat) (w : Bool) : (s.trap c w).profile = s.profile := by
  simp only [State.trap]; split <;> rfl
@[simp] theorem State.trap_regs (s : State) (c : Nat) (w : Bool) : (s.trap c w).regs = s.regs := by
  simp only [State.trap]; split <;> rfl
@[simp] theorem State.trap_map (s : State) (c : Nat) (w : Bool) : (s.trap c w).map = s.map := by
  simp only [State.trap]; split <;> rfl
@[simp] theorem State.trap_mapBuilt (s : State) (c : Nat) (w : Bool) : (s.trap c w).mapBuilt = s.mapBuilt := by
  simp only [State.trap]; split <;> rfl
@[simp] theorem State.trap_links (s : State) (c : Nat) (w : Bool) : (s.trap c w).links = s.links := by
  simp only [State.trap]; split <;> rfl
@[simp] theorem State.trap_ports (s : State) (c : Nat) (w : Bool) : (s.trap c w).ports = s.ports := by
  simp only [State.trap]; split <;> rfl
@[simp] theorem State.trap_chans (s : State) (c : Nat) (w : Bool) : (s.trap c w).chans = s.chans := by
  simp only [State.trap]; split <;> rfl
@[simp] theorem State.trap_layers (s : State) (c : Nat) (w : Bool) : (s.trap c w).layers = s.layers := by
  simp only [State.trap]; split <;> rfl
@[simp] theorem State.trap_reg (s : State) (c : Nat) (w : Bool) : (s.trap c w).reg = s.reg := by
  simp only [State.trap]; split <;> rfl
@[simp] theorem State.trap_qe (s : State) (c : Nat) (w : Bool) : (s.trap c w).qe = s.qe := by
  simp only [State.trap]; split <;> rfl
@[simp] theorem State.trap_dict (s : State) (c : Nat) (w : Bool) : (s.trap c w).dict = s.dict := by
  simp only [State.trap]; split <;> rfl
@[simp] theorem State.trap_repair (s : State) (c : Nat) (w : Bool) : (s.trap c w).repair = s.repair := by
  simp only [State.trap]; split <;> rfl
@[simp] theorem State.trap_qt (s : State) (c : Nat) (w : Bool) : (s.trap c w).qt = s.qt := by
  simp only [State.trap]; split <;> rfl
@[simp] theorem State.trap_therm (s : State) (c : Nat) (w : Bool) : (s.trap c w).therm = s.therm := by
  simp only [State.trap]; split <;> rfl
@[simp] theorem State.trap_power (s : State) (c : Nat) (w : Bool) : (s.trap c w).power = s.power := by
  simp only [State.trap]; split <;> rfl
@[simp] theorem State.trap_clk (s : State) (c : Nat) (w : Bool) : (s.trap c w).clk = s.clk := by
  simp only [State.trap]; split <;> rfl
@[simp] theorem State.trap_gran (s : State) (c : Nat) (w : Bool) : (s.trap c w).gran = s.gran := by
  simp only [State.trap]; split <;> rfl
@[simp] theorem State.trap_lc (s : State) (c : Nat) (w : Bool) : (s.trap c w).lc = s.lc := by
  simp only [State.trap]; split <;> rfl
@[simp] theorem State.trap_bus (s : State) (c : Nat) (w : Bool) : (s.trap c w).bus = s.bus := by
  simp only [State.trap]; split <;> rfl
@[simp] theorem State.trap_tap (s : State) (c : Nat) (w : Bool) : (s.trap c w).tap = s.tap := by
  simp only [State.trap]; split <;> rfl
@[simp] theorem State.onset_pending (s : State) (c m : Nat) (w : Bool) : (s.onset c m w).pending = s.pending := by
  simp only [State.onset]; (repeat' split) <;> simp
@[simp] theorem State.onset_now (s : State) (c m : Nat) (w : Bool) : (s.onset c m w).now = s.now := by
  simp only [State.onset]; (repeat' split) <;> simp
@[simp] theorem State.onset_free (s : State) (c m : Nat) (w : Bool) : (s.onset c m w).free = s.free := by
  simp only [State.onset]; (repeat' split) <;> simp
@[simp] theorem State.onset_boot (s : State) (c m : Nat) (w : Bool) : (s.onset c m w).boot = s.boot := by
  simp only [State.onset]; (repeat' split) <;> simp
@[simp] theorem State.onset_variant (s : State) (c m : Nat) (w : Bool) : (s.onset c m w).variant = s.variant := by
  simp only [State.onset]; (repeat' split) <;> simp
@[simp] theorem State.onset_gradeFs (s : State) (c m : Nat) (w : Bool) : (s.onset c m w).gradeFs = s.gradeFs := by
  simp only [State.onset]; (repeat' split) <;> simp
@[simp] theorem State.onset_profile (s : State) (c m : Nat) (w : Bool) : (s.onset c m w).profile = s.profile := by
  simp only [State.onset]; (repeat' split) <;> simp
@[simp] theorem State.onset_regs (s : State) (c m : Nat) (w : Bool) : (s.onset c m w).regs = s.regs := by
  simp only [State.onset]; (repeat' split) <;> simp
@[simp] theorem State.onset_map (s : State) (c m : Nat) (w : Bool) : (s.onset c m w).map = s.map := by
  simp only [State.onset]; (repeat' split) <;> simp
@[simp] theorem State.onset_mapBuilt (s : State) (c m : Nat) (w : Bool) : (s.onset c m w).mapBuilt = s.mapBuilt := by
  simp only [State.onset]; (repeat' split) <;> simp
@[simp] theorem State.onset_ports (s : State) (c m : Nat) (w : Bool) : (s.onset c m w).ports = s.ports := by
  simp only [State.onset]; (repeat' split) <;> simp
@[simp] theorem State.onset_chans (s : State) (c m : Nat) (w : Bool) : (s.onset c m w).chans = s.chans := by
  simp only [State.onset]; (repeat' split) <;> simp
@[simp] theorem State.onset_layers (s : State) (c m : Nat) (w : Bool) : (s.onset c m w).layers = s.layers := by
  simp only [State.onset]; (repeat' split) <;> simp
@[simp] theorem State.onset_reg (s : State) (c m : Nat) (w : Bool) : (s.onset c m w).reg = s.reg := by
  simp only [State.onset]; (repeat' split) <;> simp
@[simp] theorem State.onset_qe (s : State) (c m : Nat) (w : Bool) : (s.onset c m w).qe = s.qe := by
  simp only [State.onset]; (repeat' split) <;> simp
@[simp] theorem State.onset_dict (s : State) (c m : Nat) (w : Bool) : (s.onset c m w).dict = s.dict := by
  simp only [State.onset]; (repeat' split) <;> simp
@[simp] theorem State.onset_repair (s : State) (c m : Nat) (w : Bool) : (s.onset c m w).repair = s.repair := by
  simp only [State.onset]; (repeat' split) <;> simp
@[simp] theorem State.onset_qt (s : State) (c m : Nat) (w : Bool) : (s.onset c m w).qt = s.qt := by
  simp only [State.onset]; (repeat' split) <;> simp
@[simp] theorem State.onset_therm (s : State) (c m : Nat) (w : Bool) : (s.onset c m w).therm = s.therm := by
  simp only [State.onset]; (repeat' split) <;> simp
@[simp] theorem State.onset_power (s : State) (c m : Nat) (w : Bool) : (s.onset c m w).power = s.power := by
  simp only [State.onset]; (repeat' split) <;> simp
@[simp] theorem State.onset_clk (s : State) (c m : Nat) (w : Bool) : (s.onset c m w).clk = s.clk := by
  simp only [State.onset]; (repeat' split) <;> simp
@[simp] theorem State.onset_gran (s : State) (c m : Nat) (w : Bool) : (s.onset c m w).gran = s.gran := by
  simp only [State.onset]; (repeat' split) <;> simp
@[simp] theorem State.onset_lc (s : State) (c m : Nat) (w : Bool) : (s.onset c m w).lc = s.lc := by
  simp only [State.onset]; (repeat' split) <;> simp
@[simp] theorem State.onset_tap (s : State) (c m : Nat) (w : Bool) : (s.onset c m w).tap = s.tap := by
  simp only [State.onset]; (repeat' split) <;> simp
@[simp] theorem State.reportAt_pending (s : State) (n c i : Nat) : (s.reportAt n c i).pending = s.pending := by
  simp only [State.reportAt]; (repeat' split) <;> simp
@[simp] theorem State.reportAt_now (s : State) (n c i : Nat) : (s.reportAt n c i).now = s.now := by
  simp only [State.reportAt]; (repeat' split) <;> simp
@[simp] theorem State.reportAt_free (s : State) (n c i : Nat) : (s.reportAt n c i).free = s.free := by
  simp only [State.reportAt]; (repeat' split) <;> simp
@[simp] theorem State.reportAt_boot (s : State) (n c i : Nat) : (s.reportAt n c i).boot = s.boot := by
  simp only [State.reportAt]; (repeat' split) <;> simp
@[simp] theorem State.reportAt_variant (s : State) (n c i : Nat) : (s.reportAt n c i).variant = s.variant := by
  simp only [State.reportAt]; (repeat' split) <;> simp
@[simp] theorem State.reportAt_gradeFs (s : State) (n c i : Nat) : (s.reportAt n c i).gradeFs = s.gradeFs := by
  simp only [State.reportAt]; (repeat' split) <;> simp
@[simp] theorem State.reportAt_profile (s : State) (n c i : Nat) : (s.reportAt n c i).profile = s.profile := by
  simp only [State.reportAt]; (repeat' split) <;> simp
@[simp] theorem State.reportAt_regs (s : State) (n c i : Nat) : (s.reportAt n c i).regs = s.regs := by
  simp only [State.reportAt]; (repeat' split) <;> simp
@[simp] theorem State.reportAt_map (s : State) (n c i : Nat) : (s.reportAt n c i).map = s.map := by
  simp only [State.reportAt]; (repeat' split) <;> simp
@[simp] theorem State.reportAt_mapBuilt (s : State) (n c i : Nat) : (s.reportAt n c i).mapBuilt = s.mapBuilt := by
  simp only [State.reportAt]; (repeat' split) <;> simp
@[simp] theorem State.reportAt_ports (s : State) (n c i : Nat) : (s.reportAt n c i).ports = s.ports := by
  simp only [State.reportAt]; (repeat' split) <;> simp
@[simp] theorem State.reportAt_chans (s : State) (n c i : Nat) : (s.reportAt n c i).chans = s.chans := by
  simp only [State.reportAt]; (repeat' split) <;> simp
@[simp] theorem State.reportAt_layers (s : State) (n c i : Nat) : (s.reportAt n c i).layers = s.layers := by
  simp only [State.reportAt]; (repeat' split) <;> simp
@[simp] theorem State.reportAt_reg (s : State) (n c i : Nat) : (s.reportAt n c i).reg = s.reg := by
  simp only [State.reportAt]; (repeat' split) <;> simp
@[simp] theorem State.reportAt_qe (s : State) (n c i : Nat) : (s.reportAt n c i).qe = s.qe := by
  simp only [State.reportAt]; (repeat' split) <;> simp
@[simp] theorem State.reportAt_dict (s : State) (n c i : Nat) : (s.reportAt n c i).dict = s.dict := by
  simp only [State.reportAt]; (repeat' split) <;> simp
@[simp] theorem State.reportAt_repair (s : State) (n c i : Nat) : (s.reportAt n c i).repair = s.repair := by
  simp only [State.reportAt]; (repeat' split) <;> simp
@[simp] theorem State.reportAt_qt (s : State) (n c i : Nat) : (s.reportAt n c i).qt = s.qt := by
  simp only [State.reportAt]; (repeat' split) <;> simp
@[simp] theorem State.reportAt_therm (s : State) (n c i : Nat) : (s.reportAt n c i).therm = s.therm := by
  simp only [State.reportAt]; (repeat' split) <;> simp
@[simp] theorem State.reportAt_power (s : State) (n c i : Nat) : (s.reportAt n c i).power = s.power := by
  simp only [State.reportAt]; (repeat' split) <;> simp
@[simp] theorem State.reportAt_clk (s : State) (n c i : Nat) : (s.reportAt n c i).clk = s.clk := by
  simp only [State.reportAt]; (repeat' split) <;> simp
@[simp] theorem State.reportAt_gran (s : State) (n c i : Nat) : (s.reportAt n c i).gran = s.gran := by
  simp only [State.reportAt]; (repeat' split) <;> simp
@[simp] theorem State.reportAt_lc (s : State) (n c i : Nat) : (s.reportAt n c i).lc = s.lc := by
  simp only [State.reportAt]; (repeat' split) <;> simp
@[simp] theorem State.reportAt_tap (s : State) (n c i : Nat) : (s.reportAt n c i).tap = s.tap := by
  simp only [State.reportAt]; (repeat' split) <;> simp
@[simp] theorem State.report_pending (s : State) (n i : Nat) : (s.report n i).pending = s.pending := s.reportAt_pending n _ i
@[simp] theorem State.report_now (s : State) (n i : Nat) : (s.report n i).now = s.now := s.reportAt_now n _ i
@[simp] theorem State.report_free (s : State) (n i : Nat) : (s.report n i).free = s.free := s.reportAt_free n _ i
@[simp] theorem State.report_boot (s : State) (n i : Nat) : (s.report n i).boot = s.boot := s.reportAt_boot n _ i
@[simp] theorem State.report_variant (s : State) (n i : Nat) : (s.report n i).variant = s.variant := s.reportAt_variant n _ i
@[simp] theorem State.report_gradeFs (s : State) (n i : Nat) : (s.report n i).gradeFs = s.gradeFs := s.reportAt_gradeFs n _ i
@[simp] theorem State.report_profile (s : State) (n i : Nat) : (s.report n i).profile = s.profile := s.reportAt_profile n _ i
@[simp] theorem State.report_regs (s : State) (n i : Nat) : (s.report n i).regs = s.regs := s.reportAt_regs n _ i
@[simp] theorem State.report_map (s : State) (n i : Nat) : (s.report n i).map = s.map := s.reportAt_map n _ i
@[simp] theorem State.report_mapBuilt (s : State) (n i : Nat) : (s.report n i).mapBuilt = s.mapBuilt := s.reportAt_mapBuilt n _ i
@[simp] theorem State.report_ports (s : State) (n i : Nat) : (s.report n i).ports = s.ports := s.reportAt_ports n _ i
@[simp] theorem State.report_chans (s : State) (n i : Nat) : (s.report n i).chans = s.chans := s.reportAt_chans n _ i
@[simp] theorem State.report_layers (s : State) (n i : Nat) : (s.report n i).layers = s.layers := s.reportAt_layers n _ i
@[simp] theorem State.report_reg (s : State) (n i : Nat) : (s.report n i).reg = s.reg := s.reportAt_reg n _ i
@[simp] theorem State.report_qe (s : State) (n i : Nat) : (s.report n i).qe = s.qe := s.reportAt_qe n _ i
@[simp] theorem State.report_dict (s : State) (n i : Nat) : (s.report n i).dict = s.dict := s.reportAt_dict n _ i
@[simp] theorem State.report_repair (s : State) (n i : Nat) : (s.report n i).repair = s.repair := s.reportAt_repair n _ i
@[simp] theorem State.report_qt (s : State) (n i : Nat) : (s.report n i).qt = s.qt := s.reportAt_qt n _ i
@[simp] theorem State.report_therm (s : State) (n i : Nat) : (s.report n i).therm = s.therm := s.reportAt_therm n _ i
@[simp] theorem State.report_power (s : State) (n i : Nat) : (s.report n i).power = s.power := s.reportAt_power n _ i
@[simp] theorem State.report_clk (s : State) (n i : Nat) : (s.report n i).clk = s.clk := s.reportAt_clk n _ i
@[simp] theorem State.report_gran (s : State) (n i : Nat) : (s.report n i).gran = s.gran := s.reportAt_gran n _ i
@[simp] theorem State.report_lc (s : State) (n i : Nat) : (s.report n i).lc = s.lc := s.reportAt_lc n _ i
@[simp] theorem State.report_tap (s : State) (n i : Nat) : (s.report n i).tap = s.tap := s.reportAt_tap n _ i

/-- The events that wait are the only part of a link that a queued event touches. -/
theorem State.queueEvent_link (s : State) (c k : Nat) :
    (s.queueEvent c).link k = { s.link k with events := ((s.queueEvent c).link k).events } := by
  have key : ∀ ns : List Nat, ∀ t : State,
      (t.each ns (fun t n => if t.mgmtActive n then t.modLink n (fun l => { l with events := insertOnce l.events c }) else t)).link k
        = { t.link k with events := ((t.each ns (fun t n =>
            if t.mgmtActive n then t.modLink n (fun l => { l with events := insertOnce l.events c }) else t)).link k).events } := by
    intro ns
    induction ns with
    | nil => intro t; rfl
    | cons n r ih =>
      intro t
      simp only [State.each, List.foldl_cons] at ih ⊢
      rw [ih]
      split
      · simp only [State.link_modLink]
        split
        · subst_vars; rfl
        · rfl
      · rfl
  exact key _ s

@[simp] theorem State.trap_link (s : State) (c k : Nat) (w : Bool) : (s.trap c w).link k = s.link k := by
  simp only [State.trap]; split <;> rfl

theorem State.onset_link (s : State) (c m k : Nat) (w : Bool) :
    (s.onset c m w).link k = { s.link k with events := ((s.onset c m w).link k).events } := by
  by_cases h0 : nbit m 0 = true
  · by_cases h1 : nbit m 1 = true
    · simp only [State.onset, h0, h1, if_true, State.trap_link]; exact s.queueEvent_link c k
    · simp only [State.onset, h0, h1, if_true]; exact s.queueEvent_link c k
  · by_cases h1 : nbit m 1 = true
    · simp only [State.onset, h0, h1, if_true, State.trap_link]; rfl
    · simp only [State.onset, h0, h1]; rfl

/-- A report touches no more of a link than the events that wait. -/
theorem State.reportAt_link (s : State) (n c i k : Nat) :
    (s.reportAt n c i).link k = { s.link k with events := ((s.reportAt n c i).link k).events } := by
  simp only [State.reportAt]
  (repeat' split) <;> first | rfl | exact State.onset_link _ _ _ k _

theorem State.report_link (s : State) (n i k : Nat) :
    (s.report n i).link k = { s.link k with events := ((s.report n i).link k).events } := s.reportAt_link n _ i k

/-! ### A source whose mask asks for no reset -/

@[simp] theorem State.trap_chipReq (s : State) (c : Nat) (w : Bool) : (s.trap c w).faults.chipReq = s.faults.chipReq := by
  simp only [State.trap]; split <;> rfl
@[simp] theorem State.trap_blockReq (s : State) (c : Nat) (w : Bool) : (s.trap c w).faults.blockReq = s.faults.blockReq := by
  simp only [State.trap]; split <;> rfl
@[simp] theorem State.trap_sticky (s : State) (c : Nat) (w : Bool) : (s.trap c w).faults.sticky = s.faults.sticky := by
  simp only [State.trap]; split <;> rfl
@[simp] theorem State.onset_chipReq (s : State) (c m : Nat) (w : Bool) : (s.onset c m w).faults.chipReq = s.faults.chipReq := by
  simp only [State.onset]; (repeat' split) <;> simp
@[simp] theorem State.onset_blockReq (s : State) (c m : Nat) (w : Bool) : (s.onset c m w).faults.blockReq = s.faults.blockReq := by
  simp only [State.onset]; (repeat' split) <;> simp
@[simp] theorem State.onset_sticky (s : State) (c m : Nat) (w : Bool) : (s.onset c m w).faults.sticky = s.faults.sticky := by
  simp only [State.onset]; (repeat' split) <;> simp

theorem State.report_chipReq (s : State) (n i : Nat) (h : s.mild n = true) :
    (s.report n i).faults.chipReq = s.faults.chipReq := by
  simp only [State.mild, Bool.and_eq_true, Bool.not_eq_true'] at h
  simp only [State.report, State.reportAt, h.1, h.2, Bool.false_and]
  (repeat' split) <;> simp_all

theorem State.report_blockReq (s : State) (n i : Nat) (h : s.mild n = true) :
    (s.report n i).faults.blockReq = s.faults.blockReq := by
  simp only [State.mild, Bool.and_eq_true, Bool.not_eq_true'] at h
  simp only [State.report, State.reportAt, h.1, h.2, Bool.false_and]
  (repeat' split) <;> simp_all

/-- A report of such a source leaves a quiet stack quiet. -/
theorem State.report_calm (s : State) (n i : Nat) (h : s.mild n = true) : (s.report n i).calm = s.calm :=
  State.calm_congr _ _ (s.report_chipReq n i h) (s.report_blockReq n i h) (by simp) (by simp [State.cmd]) (by simp [State.rget]) (by simp)
    (by simp [State.idleWork])

theorem vset_getLsbD {w : Nat} (v : BitVec w) (i : Nat) (b : Bool) (h : i < w) : (vset v i b).getLsbD i = b := by
  have e : (BitVec.ofNat w (2 ^ i)).getLsbD i = true := by rw [BitVec.getLsbD_ofNat]; simp [h]
  cases b
  · rw [vset, if_neg (by simp), BitVec.getLsbD_and, BitVec.getLsbD_not, e]; simp
  · rw [vset, if_pos rfl, BitVec.getLsbD_or, e, Bool.or_true]

/-- A report that reaches the collector leaves its sticky bit set (R378). -/
theorem State.report_sticky (s : State) (n i : Nat) (hb : s.boot ≠ .held)
    (he : s.faults.equal.getLsbD n = false) : (s.report n i).faults.sticky = vset s.faults.sticky n true := by
  simp only [State.report, State.reportAt, hb, he]
  (repeat' split) <;> simp_all

/-! ### What keeps a stack quiet -/

@[simp] theorem State.calm_setLink (s : State) (n : Nat) (x : Link) : (s.setLink n x).calm = s.calm := rfl
@[simp] theorem State.mild_setLink (s : State) (n : Nat) (x : Link) (j : Nat) : (s.setLink n x).mild j = s.mild j := rfl
@[simp] theorem State.rget_setLink (s : State) (n : Nat) (x : Link) (j : Nat) : (s.setLink n x).rget j = s.rget j := rfl
@[simp] theorem State.calm_setPort (s : State) (n : Nat) (x : Port) : (s.setPort n x).calm = s.calm := rfl
@[simp] theorem State.mild_setPort (s : State) (n : Nat) (x : Port) (j : Nat) : (s.setPort n x).mild j = s.mild j := rfl
@[simp] theorem State.rget_setPort (s : State) (n : Nat) (x : Port) (j : Nat) : (s.setPort n x).rget j = s.rget j := rfl
@[simp] theorem State.calm_setChan (s : State) (n : Nat) (x : Chan) : (s.setChan n x).calm = s.calm := rfl
@[simp] theorem State.mild_setChan (s : State) (n : Nat) (x : Chan) (j : Nat) : (s.setChan n x).mild j = s.mild j := rfl
@[simp] theorem State.rget_setChan (s : State) (n : Nat) (x : Chan) (j : Nat) : (s.setChan n x).rget j = s.rget j := rfl
@[simp] theorem State.calm_setLayer (s : State) (n : Nat) (x : Layer) : (s.setLayer n x).calm = s.calm := rfl
@[simp] theorem State.mild_setLayer (s : State) (n : Nat) (x : Layer) (j : Nat) : (s.setLayer n x).mild j = s.mild j := rfl
@[simp] theorem State.rget_setLayer (s : State) (n : Nat) (x : Layer) (j : Nat) : (s.setLayer n x).rget j = s.rget j := rfl
@[simp] theorem State.calm_setQueue (s : State) (n : Nat) (x : Queue) : (s.setQueue n x).calm = s.calm := rfl
@[simp] theorem State.mild_setQueue (s : State) (n : Nat) (x : Queue) (j : Nat) : (s.setQueue n x).mild j = s.mild j := rfl
@[simp] theorem State.rget_setQueue (s : State) (n : Nat) (x : Queue) (j : Nat) : (s.setQueue n x).rget j = s.rget j := rfl
@[simp] theorem State.calm_setSlice (s : State) (n : Nat) (x : QSlice) : (s.setSlice n x).calm = s.calm := rfl
@[simp] theorem State.mild_setSlice (s : State) (n : Nat) (x : QSlice) (j : Nat) : (s.setSlice n x).mild j = s.mild j := rfl
@[simp] theorem State.rget_setSlice (s : State) (n : Nat) (x : QSlice) (j : Nat) : (s.setSlice n x).rget j = s.rget j := rfl
@[simp] theorem State.calm_modLink (s : State) (n : Nat) (f : Link → Link) : (s.modLink n f).calm = s.calm := rfl
@[simp] theorem State.mild_modLink (s : State) (n : Nat) (f : Link → Link) (j : Nat) : (s.modLink n f).mild j = s.mild j := rfl
@[simp] theorem State.rget_modLink (s : State) (n : Nat) (f : Link → Link) (j : Nat) : (s.modLink n f).rget j = s.rget j := rfl
@[simp] theorem State.calm_modPort (s : State) (n : Nat) (f : Port → Port) : (s.modPort n f).calm = s.calm := rfl
@[simp] theorem State.mild_modPort (s : State) (n : Nat) (f : Port → Port) (j : Nat) : (s.modPort n f).mild j = s.mild j := rfl
@[simp] theorem State.rget_modPort (s : State) (n : Nat) (f : Port → Port) (j : Nat) : (s.modPort n f).rget j = s.rget j := rfl
@[simp] theorem State.calm_modChan (s : State) (n : Nat) (f : Chan → Chan) : (s.modChan n f).calm = s.calm := rfl
@[simp] theorem State.mild_modChan (s : State) (n : Nat) (f : Chan → Chan) (j : Nat) : (s.modChan n f).mild j = s.mild j := rfl
@[simp] theorem State.rget_modChan (s : State) (n : Nat) (f : Chan → Chan) (j : Nat) : (s.modChan n f).rget j = s.rget j := rfl
@[simp] theorem State.calm_modLayer (s : State) (n : Nat) (f : Layer → Layer) : (s.modLayer n f).calm = s.calm := rfl
@[simp] theorem State.mild_modLayer (s : State) (n : Nat) (f : Layer → Layer) (j : Nat) : (s.modLayer n f).mild j = s.mild j := rfl
@[simp] theorem State.rget_modLayer (s : State) (n : Nat) (f : Layer → Layer) (j : Nat) : (s.modLayer n f).rget j = s.rget j := rfl
@[simp] theorem State.calm_tick (s : State) : (s.tick).calm = s.calm := rfl
@[simp] theorem State.mild_tick (s : State) (j : Nat) : (s.tick).mild j = s.mild j := rfl
@[simp] theorem State.rget_tick (s : State) (j : Nat) : (s.tick).rget j = s.rget j := rfl
@[simp] theorem State.calm_reason (s : State) (i : Nat) : (s.reason i).calm = s.calm := rfl
@[simp] theorem State.mild_reason (s : State) (i : Nat) (j : Nat) : (s.reason i).mild j = s.mild j := rfl
@[simp] theorem State.rget_reason (s : State) (i : Nat) (j : Nat) : (s.reason i).rget j = s.rget j := rfl

theorem State.calm_rset (s : State) (k v : Nat) (h : k ≠ kHardenAuto) : (s.rset k v).calm = s.calm :=
  State.calm_congr _ _ rfl rfl rfl rfl (by rw [State.rget_rset, if_neg (Ne.symm h)]) rfl rfl

theorem State.mild_rset (s : State) (k v n : Nat) (h : k ≠ sourceKey n 3) : (s.rset k v).mild n = s.mild n := by
  simp only [State.mild, State.reaction, State.rget_rset, if_neg (Ne.symm h)]

theorem State.calm_count (s : State) (k v : Nat) (h : k ≠ kHardenAuto) : (s.count k v).calm = s.calm :=
  State.calm_congr _ _ (by simp) (by simp) (by simp) (by simp [State.cmd]) (s.count_rget_other k v _ (Ne.symm h)) (by simp)
    (by simp [State.idleWork])

theorem State.mild_count (s : State) (k v n : Nat) (h : k ≠ sourceKey n 3) : (s.count k v).mild n = s.mild n := by
  simp only [State.mild, State.reaction, s.count_rget_other k v _ (Ne.symm h)]

theorem State.calm_setCmd (s : State) (k : Nat) (c : CmdState) (h : k ≠ kPower) : (s.setCmd k c).calm = s.calm :=
  State.calm_congr _ _ rfl rfl rfl (by rw [State.cmd_setCmd, if_neg (Ne.symm h)]) rfl rfl rfl

end Sys2Proof.Machine
end

