-- ==== Sys2Proof/Laws/Access.lean ====
section
/-!
SUPPORT. Laws/Access: a write by a master is taken, performed and answered; what the taking and the answering leave alone.
-/

set_option Elab.async false

namespace Sys2Proof.Machine

@[simp] theorem State.asks_pending (s : State) (m : Master) (k : Nat) (v : List Byte) : (s.asks m k v).pending = s.pending := by
  cases m
  · simp only [State.asks, State.returnMgmt]; split <;> rfl
  · rfl
@[simp] theorem State.tells_pending (s : State) (d : Bool) (m : Master) (k st : Nat) : (s.tells d m k st).pending = s.pending := by
  cases m <;> simp only [State.tells, State.replyLink, State.sendMgmt, State.busDone] <;> (repeat' split) <;> rfl
@[simp] theorem State.asks_now (s : State) (m : Master) (k : Nat) (v : List Byte) : (s.asks m k v).now = s.now := by
  cases m
  · simp only [State.asks, State.returnMgmt]; split <;> rfl
  · rfl
@[simp] theorem State.tells_now (s : State) (d : Bool) (m : Master) (k st : Nat) : (s.tells d m k st).now = s.now := by
  cases m <;> simp only [State.tells, State.replyLink, State.sendMgmt, State.busDone] <;> (repeat' split) <;> rfl
@[simp] theorem State.asks_free (s : State) (m : Master) (k : Nat) (v : List Byte) : (s.asks m k v).free = s.free := by
  cases m
  · simp only [State.asks, State.returnMgmt]; split <;> rfl
  · rfl
@[simp] theorem State.tells_free (s : State) (d : Bool) (m : Master) (k st : Nat) : (s.tells d m k st).free = s.free := by
  cases m <;> simp only [State.tells, State.replyLink, State.sendMgmt, State.busDone] <;> (repeat' split) <;> rfl
@[simp] theorem State.asks_boot (s : State) (m : Master) (k : Nat) (v : List Byte) : (s.asks m k v).boot = s.boot := by
  cases m
  · simp only [State.asks, State.returnMgmt]; split <;> rfl
  · rfl
@[simp] theorem State.tells_boot (s : State) (d : Bool) (m : Master) (k st : Nat) : (s.tells d m k st).boot = s.boot := by
  cases m <;> simp only [State.tells, State.replyLink, State.sendMgmt, State.busDone] <;> (repeat' split) <;> rfl
@[simp] theorem State.asks_variant (s : State) (m : Master) (k : Nat) (v : List Byte) : (s.asks m k v).variant = s.variant := by
  cases m
  · simp only [State.asks, State.returnMgmt]; split <;> rfl
  · rfl
@[simp] theorem State.tells_variant (s : State) (d : Bool) (m : Master) (k st : Nat) : (s.tells d m k st).variant = s.variant := by
  cases m <;> simp only [State.tells, State.replyLink, State.sendMgmt, State.busDone] <;> (repeat' split) <;> rfl
@[simp] theorem State.asks_gradeFs (s : State) (m : Master) (k : Nat) (v : List Byte) : (s.asks m k v).gradeFs = s.gradeFs := by
  cases m
  · simp only [State.asks, State.returnMgmt]; split <;> rfl
  · rfl
@[simp] theorem State.tells_gradeFs (s : State) (d : Bool) (m : Master) (k st : Nat) : (s.tells d m k st).gradeFs = s.gradeFs := by
  cases m <;> simp only [State.tells, State.replyLink, State.sendMgmt, State.busDone] <;> (repeat' split) <;> rfl
@[simp] theorem State.asks_profile (s : State) (m : Master) (k : Nat) (v : List Byte) : (s.asks m k v).profile = s.profile := by
  cases m
  · simp only [State.asks, State.returnMgmt]; split <;> rfl
  · rfl
@[simp] theorem State.tells_profile (s : State) (d : Bool) (m : Master) (k st : Nat) : (s.tells d m k st).profile = s.profile := by
  cases m <;> simp only [State.tells, State.replyLink, State.sendMgmt, State.busDone] <;> (repeat' split) <;> rfl
@[simp] theorem State.asks_regs (s : State) (m : Master) (k : Nat) (v : List Byte) : (s.asks m k v).regs = s.regs := by
  cases m
  · simp only [State.asks, State.returnMgmt]; split <;> rfl
  · rfl
@[simp] theorem State.tells_regs (s : State) (d : Bool) (m : Master) (k st : Nat) : (s.tells d m k st).regs = s.regs := by
  cases m <;> simp only [State.tells, State.replyLink, State.sendMgmt, State.busDone] <;> (repeat' split) <;> rfl
@[simp] theorem State.asks_map (s : State) (m : Master) (k : Nat) (v : List Byte) : (s.asks m k v).map = s.map := by
  cases m
  · simp only [State.asks, State.returnMgmt]; split <;> rfl
  · rfl
@[simp] theorem State.tells_map (s : State) (d : Bool) (m : Master) (k st : Nat) : (s.tells d m k st).map = s.map := by
  cases m <;> simp only [State.tells, State.replyLink, State.sendMgmt, State.busDone] <;> (repeat' split) <;> rfl
@[simp] theorem State.asks_mapBuilt (s : State) (m : Master) (k : Nat) (v : List Byte) : (s.asks m k v).mapBuilt = s.mapBuilt := by
  cases m
  · simp only [State.asks, State.returnMgmt]; split <;> rfl
  · rfl
@[simp] theorem State.tells_mapBuilt (s : State) (d : Bool) (m : Master) (k st : Nat) : (s.tells d m k st).mapBuilt = s.mapBuilt := by
  cases m <;> simp only [State.tells, State.replyLink, State.sendMgmt, State.busDone] <;> (repeat' split) <;> rfl
@[simp] theorem State.asks_ports (s : State) (m : Master) (k : Nat) (v : List Byte) : (s.asks m k v).ports = s.ports := by
  cases m
  · simp only [State.asks, State.returnMgmt]; split <;> rfl
  · rfl
@[simp] theorem State.tells_ports (s : State) (d : Bool) (m : Master) (k st : Nat) : (s.tells d m k st).ports = s.ports := by
  cases m <;> simp only [State.tells, State.replyLink, State.sendMgmt, State.busDone] <;> (repeat' split) <;> rfl
@[simp] theorem State.asks_chans (s : State) (m : Master) (k : Nat) (v : List Byte) : (s.asks m k v).chans = s.chans := by
  cases m
  · simp only [State.asks, State.returnMgmt]; split <;> rfl
  · rfl
@[simp] theorem State.tells_chans (s : State) (d : Bool) (m : Master) (k st : Nat) : (s.tells d m k st).chans = s.chans := by
  cases m <;> simp only [State.tells, State.replyLink, State.sendMgmt, State.busDone] <;> (repeat' split) <;> rfl
@[simp] theorem State.asks_layers (s : State) (m : Master) (k : Nat) (v : List Byte) : (s.asks m k v).layers = s.layers := by
  cases m
  · simp only [State.asks, State.returnMgmt]; split <;> rfl
  · rfl
@[simp] theorem State.tells_layers (s : State) (d : Bool) (m : Master) (k st : Nat) : (s.tells d m k st).layers = s.layers := by
  cases m <;> simp only [State.tells, State.replyLink, State.sendMgmt, State.busDone] <;> (repeat' split) <;> rfl
@[simp] theorem State.asks_reg (s : State) (m : Master) (k : Nat) (v : List Byte) : (s.asks m k v).reg = s.reg := by
  cases m
  · simp only [State.asks, State.returnMgmt]; split <;> rfl
  · rfl
@[simp] theorem State.tells_reg (s : State) (d : Bool) (m : Master) (k st : Nat) : (s.tells d m k st).reg = s.reg := by
  cases m <;> simp only [State.tells, State.replyLink, State.sendMgmt, State.busDone] <;> (repeat' split) <;> rfl
@[simp] theorem State.asks_qe (s : State) (m : Master) (k : Nat) (v : List Byte) : (s.asks m k v).qe = s.qe := by
  cases m
  · simp only [State.asks, State.returnMgmt]; split <;> rfl
  · rfl
@[simp] theorem State.tells_qe (s : State) (d : Bool) (m : Master) (k st : Nat) : (s.tells d m k st).qe = s.qe := by
  cases m <;> simp only [State.tells, State.replyLink, State.sendMgmt, State.busDone] <;> (repeat' split) <;> rfl
@[simp] theorem State.asks_dict (s : State) (m : Master) (k : Nat) (v : List Byte) : (s.asks m k v).dict =
    { s.dict with accPtr := (State.placeOf m + 1) % 129 } := by
  cases m
  · simp only [State.asks, State.returnMgmt]; split <;> rfl
  · rfl
@[simp] theorem State.tells_dict (s : State) (d : Bool) (m : Master) (k st : Nat) : (s.tells d m k st).dict = s.dict := by
  cases m <;> simp only [State.tells, State.replyLink, State.sendMgmt, State.busDone] <;> (repeat' split) <;> rfl
@[simp] theorem State.asks_repair (s : State) (m : Master) (k : Nat) (v : List Byte) : (s.asks m k v).repair = s.repair := by
  cases m
  · simp only [State.asks, State.returnMgmt]; split <;> rfl
  · rfl
@[simp] theorem State.tells_repair (s : State) (d : Bool) (m : Master) (k st : Nat) : (s.tells d m k st).repair = s.repair := by
  cases m <;> simp only [State.tells, State.replyLink, State.sendMgmt, State.busDone] <;> (repeat' split) <;> rfl
@[simp] theorem State.asks_qt (s : State) (m : Master) (k : Nat) (v : List Byte) : (s.asks m k v).qt = s.qt := by
  cases m
  · simp only [State.asks, State.returnMgmt]; split <;> rfl
  · rfl
@[simp] theorem State.tells_qt (s : State) (d : Bool) (m : Master) (k st : Nat) : (s.tells d m k st).qt = s.qt := by
  cases m <;> simp only [State.tells, State.replyLink, State.sendMgmt, State.busDone] <;> (repeat' split) <;> rfl
@[simp] theorem State.asks_therm (s : State) (m : Master) (k : Nat) (v : List Byte) : (s.asks m k v).therm = s.therm := by
  cases m
  · simp only [State.asks, State.returnMgmt]; split <;> rfl
  · rfl
@[simp] theorem State.tells_therm (s : State) (d : Bool) (m : Master) (k st : Nat) : (s.tells d m k st).therm = s.therm := by
  cases m <;> simp only [State.tells, State.replyLink, State.sendMgmt, State.busDone] <;> (repeat' split) <;> rfl
@[simp] theorem State.asks_power (s : State) (m : Master) (k : Nat) (v : List Byte) : (s.asks m k v).power = s.power := by
  cases m
  · simp only [State.asks, State.returnMgmt]; split <;> rfl
  · rfl
@[simp] theorem State.tells_power (s : State) (d : Bool) (m : Master) (k st : Nat) : (s.tells d m k st).power = s.power := by
  cases m <;> simp only [State.tells, State.replyLink, State.sendMgmt, State.busDone] <;> (repeat' split) <;> rfl
@[simp] theorem State.asks_clk (s : State) (m : Master) (k : Nat) (v : List Byte) : (s.asks m k v).clk = s.clk := by
  cases m
  · simp only [State.asks, State.returnMgmt]; split <;> rfl
  · rfl
@[simp] theorem State.tells_clk (s : State) (d : Bool) (m : Master) (k st : Nat) : (s.tells d m k st).clk = s.clk := by
  cases m <;> simp only [State.tells, State.replyLink, State.sendMgmt, State.busDone] <;> (repeat' split) <;> rfl
@[simp] theorem State.asks_faults (s : State) (m : Master) (k : Nat) (v : List Byte) : (s.asks m k v).faults = s.faults := by
  cases m
  · simp only [State.asks, State.returnMgmt]; split <;> rfl
  · rfl
@[simp] theorem State.tells_faults (s : State) (d : Bool) (m : Master) (k st : Nat) : (s.tells d m k st).faults = s.faults := by
  cases m <;> simp only [State.tells, State.replyLink, State.sendMgmt, State.busDone] <;> (repeat' split) <;> rfl
@[simp] theorem State.asks_gran (s : State) (m : Master) (k : Nat) (v : List Byte) : (s.asks m k v).gran = s.gran := by
  cases m
  · simp only [State.asks, State.returnMgmt]; split <;> rfl
  · rfl
@[simp] theorem State.tells_gran (s : State) (d : Bool) (m : Master) (k st : Nat) : (s.tells d m k st).gran = s.gran := by
  cases m <;> simp only [State.tells, State.replyLink, State.sendMgmt, State.busDone] <;> (repeat' split) <;> rfl
@[simp] theorem State.asks_lc (s : State) (m : Master) (k : Nat) (v : List Byte) : (s.asks m k v).lc = s.lc := by
  cases m
  · simp only [State.asks, State.returnMgmt]; split <;> rfl
  · rfl
@[simp] theorem State.tells_lc (s : State) (d : Bool) (m : Master) (k st : Nat) : (s.tells d m k st).lc = s.lc := by
  cases m <;> simp only [State.tells, State.replyLink, State.sendMgmt, State.busDone] <;> (repeat' split) <;> rfl
@[simp] theorem State.asks_tap (s : State) (m : Master) (k : Nat) (v : List Byte) : (s.asks m k v).tap = s.tap := by
  cases m
  · simp only [State.asks, State.returnMgmt]; split <;> rfl
  · rfl
@[simp] theorem State.tells_tap (s : State) (d : Bool) (m : Master) (k st : Nat) : (s.tells d m k st).tap = s.tap := by
  cases m <;> simp only [State.tells, State.replyLink, State.sendMgmt, State.busDone] <;> (repeat' split) <;> rfl

@[simp] theorem State.rget_asks (s : State) (m : Master) (k j : Nat) (v : List Byte) : (s.asks m k v).rget j = s.rget j := by
  simp only [State.rget, State.asks_regs]
@[simp] theorem State.rget_tells (s : State) (d : Bool) (m : Master) (k st j : Nat) : (s.tells d m k st).rget j = s.rget j := by
  simp only [State.rget, State.tells_regs]
@[simp] theorem State.cmd_asks (s : State) (m : Master) (k j : Nat) (v : List Byte) : (s.asks m k v).cmd j = s.cmd j := by
  simp only [State.cmd, State.asks_dict]
@[simp] theorem State.cmd_tells (s : State) (d : Bool) (m : Master) (k st j : Nat) : (s.tells d m k st).cmd j = s.cmd j := by
  simp only [State.cmd, State.tells_dict]
@[simp] theorem State.calm_asks (s : State) (m : Master) (k : Nat) (v : List Byte) : (s.asks m k v).calm = s.calm :=
  State.calm_congr _ _ (by simp) (by simp) (by simp) (by simp) (by simp) (by simp) (by simp [State.idleWork])
@[simp] theorem State.calm_tells (s : State) (d : Bool) (m : Master) (k st : Nat) : (s.tells d m k st).calm = s.calm :=
  State.calm_congr _ _ (by simp) (by simp) (by simp) (by simp) (by simp) (by simp) (by simp [State.idleWork])
@[simp] theorem State.mild_asks (s : State) (m : Master) (k j : Nat) (v : List Byte) : (s.asks m k v).mild j = s.mild j := by
  simp only [State.mild, State.reaction, State.rget_asks]
@[simp] theorem State.chan_asks (s : State) (m : Master) (k j : Nat) (v : List Byte) : (s.asks m k v).chan j = s.chan j := by
  simp only [State.chan, State.asks_chans]

/-- What the checks of an access look at is not changed by taking it. -/
@[simp] theorem State.judge_asks (s : State) (m : Master) (k j : Nat) (v : List Byte) : (s.asks m k v).judge j = s.judge j := by
  simp only [State.judge, State.mpRuns, State.unavailable, State.notReady, State.asks_boot, State.asks_power, State.asks_dict,
    State.asks_lc, State.asks_variant, State.asks_mapBuilt, State.asks_clk]
  rfl

@[simp] theorem State.judgeWrite_asks (s : State) (m : Master) (k j : Nat) (v : List Byte) :
    (s.asks m k v).judgeWrite j = s.judgeWrite j := by
  simp only [State.judgeWrite, State.judge_asks]

/-- An entry that is there is there for a write. -/
theorem State.judgeWrite_zero {s : State} {k : Nat} (h : s.judge k = 0) : s.judgeWrite k = 0 := by
  simp [State.judgeWrite, h]

/-- A write that is answered at once. -/
theorem State.writeBy_told (s t : State) (m : Master) (k st : Nat) (v : List Byte) (env : AccEnv) (hh : s.hears m = true)
    (hv : v.length ≤ 240) (hw : (s.asks m k v).writeEntry m k v env = (some st, t)) :
    s.writeBy m k v env = t.tells s.dict.mpDown m k st := by
  cases m with
  | link n tag =>
    obtain ⟨h, hm⟩ : s.takesRequests n = true ∧ s.mgmtWaits n = false := by simpa [State.hears] using hh
    have hd : ((s.returnMgmt n (mgmtFlits v.length)).accessBy n).dict.mpDown = s.dict.mpDown := by
      rw [show ((s.returnMgmt n (mgmtFlits v.length)).accessBy n).dict = _ from State.asks_dict s (.link n tag) k v]
    change ((s.returnMgmt n (mgmtFlits v.length)).accessBy n).writeEntry (.link n tag) k v env = (some st, t) at hw
    simp only [State.writeBy, State.mgmtWrite, State.serveWrite, h, hm, Bool.not_true, Bool.false_eq_true, if_false, ne_eq,
      not_true_eq_false, or_false]
    rw [if_neg (by omega), hw]
    simp only [hd]
    rfl
  | bus =>
    have h : (s.busAnswers && s.bus.acc.isNone) = true := hh
    change ((s.busAccept { read := false, key := k, val := v }).accessBy 128).writeEntry .bus k v env = (some st, t) at hw
    simp only [State.writeBy, h, if_true, State.busRun, State.busAccept, State.accessBy, Bool.false_eq_true, if_false]
    simp only [State.busAccept, State.accessBy] at hw
    rw [hw]
    rfl

/-- A CMD entry that its checks let through. -/
theorem State.writeEntry_cmd (s : State) (m : Master) (k : Nat) (r : EntryRow) (v : List Byte) (env : AccEnv)
    (hj : s.judgeWrite k = 0) (hr : entryRow k = some r) (ht : r.ty = .cmd) (hl : v.length = r.len)
    (hc : s.dict.commit = none ∨ (k ≠ kCommit ∧ k ≠ kDiscard)) (hrun : (s.cmd k).running = false) :
    s.writeEntry m k v env = State.closeCmd k (s.runCmd m k v env) := by
  have hcd : ¬((k = kCommit ∨ k = kDiscard) ∧ s.dict.commit.isSome = true) := by
    rcases hc with h | ⟨h1, h2⟩
    · simp [h]
    · simp [h1, h2]
  simp only [State.writeEntry, hj, hr, ht, if_true, State.writeCmd, hl, ne_eq, not_true_eq_false, if_false, hrun, Bool.false_eq_true]
  rw [if_neg hcd]

/-- A value entry that its checks let through. -/
theorem State.writeEntry_value (s : State) (m : Master) (k : Nat) (r : EntryRow) (v : List Byte) (env : AccEnv)
    (hj : s.judgeWrite k = 0) (hr : entryRow k = some r) (ht : r.ty ≠ .cmd) :
    s.writeEntry m k v env = (some (s.writeValue k r v env).1, (s.writeValue k r v env).2) := by
  simp only [State.writeEntry, hj, hr, ht, if_false]

/-! ### Commands -/

/-- The tables of the chapters. -/
def chapterRows : List (List EntryRow) :=
  [metaRows, identityRows, lifeRows, powerRows, thermRows, clockRows, linkRows, chanRows, refreshRows, integRows, repairRows,
    classRows, labelRows, portRows, urgRows, engineRows, queueRows, sourceRows ++ collectorRows, sourceRows, testRows, granRows,
    busRows, teleRows, stageRows, []]

theorem rowsOf_mem {i : Nat} {rows : List EntryRow} (h : rowsOf i = some rows) : rows ∈ chapterRows := by
  unfold rowsOf at h
  (repeat' split at h) <;> first
    | (obtain rfl := Option.some.inj h; simp only [chapterRows, List.mem_cons, true_or, or_true])
    | cases h

theorem findRow_mem {sub : Nat} {rows : List EntryRow} {r : EntryRow} (h : findRow sub rows = some r) : r ∈ rows := by
  induction rows with
  | nil => cases h
  | cons a b ih =>
    simp only [findRow] at h
    split at h
    · obtain rfl := Option.some.inj h; exact List.mem_cons_self ..
    · exact List.mem_cons_of_mem _ (ih h)

/-- What holds for every row of every table holds for the row of an entry. -/
theorem entryRow_all {P : EntryRow → Bool} (hp : chapterRows.all (fun rows => rows.all P) = true) {k : Nat} {r : EntryRow}
    (h : entryRow k = some r) : P r = true := by
  unfold entryRow at h
  split at h
  · cases h
  · next rows e => exact List.all_eq_true.mp (List.all_eq_true.mp hp rows (rowsOf_mem e)) r (findRow_mem h)

theorem entryRow_cmd_len {k : Nat} {r : EntryRow} (h : entryRow k = some r) (ht : r.ty = .cmd) : r.len ≤ 8 := by
  have := entryRow_all (P := fun r => !decide (r.ty = .cmd) || decide (r.len ≤ 8)) (by decide +kernel) h
  simpa [ht] using this

theorem State.obeys_parts {s : State} {m : Master} {k : Nat} {v : List Byte} (h : s.obeys m k v = true) :
    m.wf = true ∧ s.hears m = true ∧ v.length ≤ 8 ∧
      ∀ env, (s.asks m k v).writeEntry m k v env = State.closeCmd k ((s.asks m k v).runCmd m k v env) := by
  simp only [State.obeys, State.reaches, Bool.and_eq_true, decide_eq_true_eq, Bool.not_eq_true', Bool.or_eq_true] at h
  obtain ⟨⟨⟨⟨⟨hm, hh⟩, hj⟩, hr⟩, hrun⟩, hk⟩ := h
  obtain ⟨r, e⟩ : ∃ r, entryRow k = some r := by
    cases e : entryRow k with
    | none => simp [e] at hr
    | some r => exact ⟨r, rfl⟩
  have h2 : r.ty = .cmd ∧ v.length = r.len := by simpa [e] using hr
  have hr := e
  have hl := entryRow_cmd_len hr h2.1
  refine ⟨hm, hh, by omega, fun env => ?_⟩
  refine State.writeEntry_cmd _ m k r v env (by simpa using State.judgeWrite_zero hj) hr h2.1 h2.2 ?_ (by simpa using hrun)
  simpa using hk

/-- A command that is answered at once. -/
theorem State.obeys_told {s t : State} {m : Master} {k st : Nat} {v : List Byte} {env : AccEnv} (h : s.obeys m k v = true)
    (hr : State.closeCmd k ((s.asks m k v).runCmd m k v env) = (some st, t)) :
    s.writeBy m k v env = t.tells s.dict.mpDown m k st :=
  have p := State.obeys_parts h
  State.writeBy_told s t m k st v env p.2.1 (by have := p.2.2.1; omega) (by rw [p.2.2.2, hr])

/-- A command whose answer waits. -/
theorem State.obeys_waits {s t : State} {m : Master} {k : Nat} {v : List Byte} {env : AccEnv} (h : s.obeys m k v = true)
    (hr : State.closeCmd k ((s.asks m k v).runCmd m k v env) = (none, t)) : s.writeBy m k v env = t.awaits m := by
  obtain ⟨_, hh, hl, hw⟩ := State.obeys_parts h
  have hw := hw env
  rw [hr] at hw
  cases m with
  | link n tag =>
    obtain ⟨h, hm⟩ : s.takesRequests n = true ∧ s.mgmtWaits n = false := by simpa [State.hears] using hh
    change ((s.returnMgmt n (mgmtFlits v.length)).accessBy n).writeEntry (.link n tag) k v env = _ at hw
    simp only [State.writeBy, State.mgmtWrite, State.serveWrite, h, hm, Bool.not_true, Bool.false_eq_true, if_false, ne_eq,
      not_true_eq_false, or_false]
    rw [if_neg (by omega), hw]
    rfl
  | bus =>
    have h : (s.busAnswers && s.bus.acc.isNone) = true := hh
    change ((s.busAccept { read := false, key := k, val := v }).accessBy 128).writeEntry .bus k v env = _ at hw
    simp only [State.writeBy, h, if_true, State.busRun, State.busAccept, State.accessBy, Bool.false_eq_true, if_false]
    simp only [State.busAccept, State.accessBy] at hw
    rw [hw]
    rfl

/-- The last state of a command stands however often it is written. -/
theorem State.cmdEnd_twice (s : State) (k : Nat) : (s.cmdEnd k 0).cmdEnd k 0 = s.cmdEnd k 0 := by
  simp only [State.cmdEnd, State.setCmd, mset, if_true, mdel_mdel]

end Sys2Proof.Machine
end

