-- ==== Sys2Proof/Laws/Exec.lean ====
section
/-!
SUPPORT. Laws/Exec: what every command has in common. A well-formed one runs and the stack settles; any other names nothing on
the stack, and faults.
-/

set_option Elab.async false

namespace Sys2Proof.Machine

/-- Every command is some effect on the state, finished in the one way. -/
theorem exec_finish (i : Instr) (s : State) : ∃ t : State, exec i s = finish i.wf t := by
    cases i <;> simp only [exec, execEntryWrite, execMgmtRead, execMgmtWrite, execCommit, execDiscard,
    execCommitApplyBlock, execProfileDrainComplete, execFrameReceive, execFrameTransmit, execReplayTimerExpiry,
    execDetectLock, execEqualizeDone, execAlignDone, execConfigComplete, execTrainingLimitExpiry, execFailedTimeout,
    execRecoverComplete, execRecoverTimeout, execHostIdleReset, execLaneSignalLoss, execLaneSerWindowClose,
    execTxLaneSwitch, execLinkReset, execRd64, execRd128, execWr64, execWrm, execFadd32, execSwap32, execDeq, execPeek,
    execQlen, execEnq, execRequestAdmit, execChannelEntryExecute, execQueueCmdPass, execEnqLink, execCacheRefill,
    execCacheSpill, execLinkBlockEvict, execQflush, execQflushWalkStep, execPoolReset, execLsFill, execUrgPinEdge,
    execUrgFilterChange, execUrgStuckDetect, execDeliverableRecompute, execShortfallCut, execShareRecompute,
    execAcctWindowClose, execIdleTimerExpiry, execExitCheckEnd, execSteepWindowStart, execSteepWindowEnd,
    execRefreshDueEvent, execScheduledRefresh, execRefreshRateChange, execNeighbourRefresh, execRegionFill,
    execRakeStep, execRakePassClose, execRawWrite, execRawRead, execInjCtrlWrite, execJointWordFail,
    execLayerFreqWindowClose, execLayerLossOfLock, execRelockAttemptEnd, execCoilSerWindowClose, execSubstitutionWindow,
    execHopTraining, execEndToEndCheck, execExtensionSlice, execRowRepair, execMigrationStep, execRepairRequest,
    execHarden, execEvacuate, execEvacTargetReady, execEvacCopyStep, execEvacChannelSwitch, execQuickTestPhaseEnd,
    execQuickTestEnd, execQuickTestTimeLimit, execTapUpdateIr, execTapBypass, execTapIdcode, execTapSamplePreload,
    execTapExtest, execTapClamp, execTapHighz, execTapWrapper, execTapLayer, execTapVendor, execTapReset, execTestHold,
    execSpargeSliceDue, execSpargeEntry, execConverterMinorCycle, execSensorSample, execZoneHoldExpiry,
    execZ2StepPeriodExpiry, execStopComplete, execStopTimeout, execResume, execSensingFailure, execGroupClear,
    execFanLoopTick, execFanSpeedUpdate, execFanFailDetect, execFanDutyTimeout, execBoardSensorSample, execPowerOnReset,
    execRailLoss, execRailRestart, execLayerSupplyFault, execVddRepPhaseLoss, execPmbusPoll, execPmbusAlert,
    execAvsAdjust, execPmbusRecovery, execPowerStateReq, execWakeNAssert, execPwrwarnAssert, execPwrwarnClear,
    execResetNAssert, execResetNRelease, execChipReset, execBlockReset, execCdcResync, execClockMonitorWindow,
    execRefclkReturn, execHoldoverTimeout, execPllLossOfLock, execWireFault, execStickyWrite, execStickyClear,
    execReactionWrite, execEventSend, execMgmtWdtWarn, execMgmtWdt, execGranarySensingEnd, execGranResense,
    execGranProgram, execGranLock, execLcMarkComplete, execLcToField, execLcReturn, execLcVoid, execDictRead,
    execDictWrite, execDictResult, execBusAccessComplete, execBusFlagsRead, execBusFlagsWrite, execWindowWrite,
    execWindowRead, execAttentionRead, execAttentionRequest, execAttentionRetry, execMbUndefinedCommand,
    execMbProtocolError, execMbTimeout, execBlockResetEnd, execLaneWithoutLock] <;> exact ⟨_, rfl⟩

/-- A well-formed command always answers a next state. -/
theorem exec_next (i : Instr) (s : State) (h : i.wf = true) : ∃ t : State, exec i s = .next t.settle := by
  obtain ⟨t, e⟩ := exec_finish i s
  exact ⟨t, by rw [e]; simp only [finish, h, if_true]⟩

/-- A command that is not well formed faults, and does nothing else. -/
theorem exec_badOperand (i : Instr) (s : State) (h : i.wf = false) : exec i s = .fault .badOperand := by
  obtain ⟨t, e⟩ := exec_finish i s
  rw [e]
  simp only [finish, h, Bool.false_eq_true, if_false]

end Sys2Proof.Machine
end

