-- ==== Sys2Proof/Laws/Links.lean ====
section
/-!
SUPPORT. Laws/Links: what the shared operations of a link can do, each said once.
-/

set_option Elab.async false

namespace Sys2Proof.Machine

/-- The 32-bit counters of a link. -/
theorem linkCounter_type (n : Nat) (hn : n < 128) (sub : Nat) (h : sub ∈ [0x10, 0x11, 0x12, 0x13, 0x19, 0x1A, 0x1C]) :
    (entryRow (linkKey n sub)).map EntryRow.ty = some .u32 := by
  have all : ∀ sub ∈ [0x10, 0x11, 0x12, 0x13, 0x19, 0x1A, 0x1C], ∀ n < 128,
      (entryRow (linkKey n sub)).map EntryRow.ty = some .u32 := by
    decide +kernel
  exact all sub h n hn

/-- A 32-bit counter of a link below its end counts. -/
theorem State.count_link (s : State) (n sub k : Nat) (hn : n < 128) (h : sub ∈ [0x10, 0x11, 0x12, 0x13, 0x19, 0x1A, 0x1C])
    (hk : s.rget (linkKey n sub) + k < 2 ^ 32) : s.count (linkKey n sub) k = s.rset (linkKey n sub) (s.rget (linkKey n sub) + k) :=
  s.count_u32 _ k (linkCounter_type n hn sub h) hk

/-- The counters of a link are no register that a quiet stack or a mask depends on. -/
theorem linkKey_ne_auto (n sub : Nat) (hn : n < 128) (hs : sub < 256) : linkKey n sub ≠ kHardenAuto := by
  simp only [linkKey, ekey, kHardenAuto]; omega

theorem linkKey_ne_mask (n sub i : Nat) (hn : n < 128) (hs : sub < 256) : linkKey n sub ≠ sourceKey i 3 := by
  simp only [linkKey, ekey, sourceKey]; omega

theorem linkKey_inj (n a b : Nat) (h : a ≠ b) : linkKey n a ≠ linkKey n b := by
  simp only [linkKey, ekey]; omega

theorem Link.ne_default_of_st (l : Link) (h : l.st ≠ .detect) : l ≠ {} := fun e => h (e ▸ rfl)

theorem State.modLink_modLink (s : State) (n : Nat) (f g : Link → Link) (h : f (s.link n) ≠ {}) :
    (s.modLink n f).modLink n g = s.modLink n (fun l => g (f l)) := by
  rw [State.modLink, State.link_modLink, if_pos rfl, State.modLink, State.setLink_setLink _ _ _ _ h, State.modLink]

@[simp] theorem State.linkLive_setLink (s : State) (n k : Nat) (x : Link) : (s.setLink n x).linkLive k = s.linkLive k := rfl
@[simp] theorem State.linkLive_modLink (s : State) (n k : Nat) (f : Link → Link) : (s.modLink n f).linkLive k = s.linkLive k := rfl
@[simp] theorem State.linkLive_rset (s : State) (n v k : Nat) : (s.rset n v).linkLive k = s.linkLive k := rfl

/-- A register and a link are written in either order. -/
theorem State.rset_modLink (s : State) (n k v : Nat) (f : Link → Link) :
    (s.modLink n f).rset k v = (s.rset k v).modLink n f := rfl

/-- NAK is set: counted where it was 0, and an LCF is due (R79). -/
theorem State.setNak_true (s : State) (n : Nat) (hn : n < 128)
    (hk : s.rget (linkKey n 0x19) + 1 < 2 ^ 32) : s.setNak n true =
      if (s.link n).rx.nak then s
      else (s.rset (linkKey n 0x19) (s.rget (linkKey n 0x19) + 1)).modLink n
        (fun l => { l with rx := { l.rx with nak := true }, tx := { l.tx with lcfDue := true } }) := by
  simp only [State.setNak]
  split
  · rfl
  · simp only [if_true]
    rw [State.count_link _ _ _ _ hn (by decide) (by simpa using hk)]
    rfl

/-- A lane of the receiver goes out of use (R90). -/
theorem State.dropRxLane_eq (s : State) (n lane : Nat) (hn : n < 128) (hk : s.rget (linkKey n 0x19) + 1 < 2 ^ 32) :
    s.dropRxLane n lane =
      (if (s.link n).rx.nak then s else s.rset (linkKey n 0x19) (s.rget (linkKey n 0x19) + 1)).modLink n (fun l => { l with
        rxLanes := nset l.rxLanes lane false, st := .laneSwitch,
        rx := { l.rx with locked := false, goodStreak := 0, failStreak := 0, discarding := true, nak := true },
        tx := { l.tx with lcfDue := true } }) := by
  rw [State.dropRxLane, State.setNak_true _ n hn (by simpa using hk)]
  rw [State.link_modLink, if_pos rfl]
  by_cases h : (s.link n).rx.nak = true
  · rw [if_pos h, if_pos h]
    simp only [State.modLink, h]
  · rw [if_neg h, if_neg h]
    rw [State.rset_modLink, State.modLink_modLink _ _ _ _ (Link.ne_default_of_st _ (by simp)), State.rget_modLink]

/-- A lane is declared failed (R89, R90, R91). -/
theorem State.declareLane_eq (s : State) (n lane : Nat) (hn : n < 128) (hd : (s.link n).st ≠ .detect)
    (hk : s.rget (linkKey n 0x13) + 1 < 2 ^ 32) (hk2 : s.rget (linkKey n 0x19) + 1 < 2 ^ 32) : s.declareLane n lane =
      ((((if (s.link n).rx.nak then s else s.rset (linkKey n 0x19) (s.rget (linkKey n 0x19) + 1)).modLink n (fun l => { l with
        rxFailed := nset l.rxFailed lane true, rxLanes := nset l.rxLanes lane false, st := .laneSwitch,
        rx := { l.rx with locked := false, goodStreak := 0, failStreak := 0, discarding := true, nak := true },
        tx := { l.tx with lcfDue := true } })).rset (linkKey n 0x13) (s.rget (linkKey n 0x13) + 1)).report 1 n) := by
  rw [State.declareLane, State.dropRxLane_eq _ n lane hn (by simpa using hk2)]
  have e : ∀ b : Bool, (if b = true then s.modLink n (fun l => { l with rxFailed := nset l.rxFailed lane true })
      else (s.modLink n (fun l => { l with rxFailed := nset l.rxFailed lane true })).rset (linkKey n 0x19)
        ((s.modLink n (fun l => { l with rxFailed := nset l.rxFailed lane true })).rget (linkKey n 0x19) + 1)) =
      (if b = true then s else s.rset (linkKey n 0x19) (s.rget (linkKey n 0x19) + 1)).modLink n
        (fun l => { l with rxFailed := nset l.rxFailed lane true }) := by
    intro b; cases b <;> rfl
  have hl : ∀ b : Bool, (if b = true then s else s.rset (linkKey n 0x19) (s.rget (linkKey n 0x19) + 1)).link n = s.link n := by
    intro b; cases b <;> rfl
  have hr : ∀ b : Bool, (if b = true then s else s.rset (linkKey n 0x19) (s.rget (linkKey n 0x19) + 1)).rget (linkKey n 0x13) =
      s.rget (linkKey n 0x13) := by
    intro b
    cases b
    · simp only [if_false, Bool.false_eq_true, State.rget_rset, if_neg (linkKey_inj n 0x13 0x19 (by decide))]
    · rfl
  rw [e, State.modLink_modLink _ _ _ _ (by rw [hl]; exact Link.ne_default_of_st _ hd)]
  rw [State.link_modLink, if_pos rfl]
  rw [State.count_link _ n 0x13 1 hn (by decide) (by rw [State.rget_modLink, hr]; exact hk), State.rget_modLink, hr]

/-! ### Link reset (R92, R93) -/

@[simp] theorem State.link_modPort (s : State) (n k : Nat) (f : Port → Port) : (s.modPort n f).link k = s.link k := rfl

@[simp] theorem State.port_modLink (s : State) (n k : Nat) (f : Link → Link) : (s.modLink n f).port k = s.port k := rfl

/-- Discarding an ENQ touches its link's list of ENQs, the engine and the engine's ports, and nothing else. -/
theorem State.discardEnq_frame (s : State) (n : Nat) (j : EnqJob) :
    let t := s.discardEnq n j
    t.link n = { s.link n with enqs := (s.link n).enqs.filter (fun x => decide (x.id ≠ j.id)) } ∧
      (∀ k, k ≠ n → t.link k = s.link k) ∧ (∀ k, k < 128 → t.port k = s.port k) ∧
      t = { s with links := t.links, ports := t.ports, qe := t.qe } := by
  intro t
  obtain ⟨u, hu⟩ : ∃ u : State, u = { s with qe := t.qe } := ⟨_, rfl⟩
  have e : t = ((u.modPort (128 + j.queue % slices s.variant) (fun p => { p with
      held := p.held.filter (fun h => !(decide (h.engine = some n) && decide (h.grp = j.id))) })).modLink n
        (fun l => { l with enqs := l.enqs.filter (fun x => decide (x.id ≠ j.id)) })) := by
    rw [hu]; simp only [t, State.discardEnq, State.modLink, State.setLink, State.modPort, State.setPort, State.setSlice, State.setQueue,
      State.port, State.link]
  have ul : ∀ k, u.link k = s.link k := fun k => by rw [hu]; rfl
  have up : ∀ k, u.port k = s.port k := fun k => by rw [hu]; rfl
  refine ⟨?_, fun k h => ?_, fun k h => ?_, ?_⟩
  · rw [e, State.link_modLink, if_pos rfl]
    simp only [State.link_modPort, ul]
  · rw [e, State.link_modLink, if_neg h]
    rw [State.link_modPort, ul]
  · rw [e]
    rw [State.port_modLink, State.port_modPort, if_neg (by omega)]
    exact up k
  · rw [e, hu]; rfl

/-- The same for every ENQ of a list. -/
theorem State.discards_frame (n : Nat) (js : List EnqJob) : ∀ s : State,
    let t := js.foldl (fun s j => s.discardEnq n j) s
    t.link n = { s.link n with enqs := (s.link n).enqs.filter (fun x => js.all (fun j => decide (x.id ≠ j.id))) } ∧
      (∀ k, k ≠ n → t.link k = s.link k) ∧ (∀ k, k < 128 → t.port k = s.port k) ∧
      t = { s with links := t.links, ports := t.ports, qe := t.qe } := by
  induction js with
  | nil => intro s; simp
  | cons j js ih =>
    intro s
    obtain ⟨a, b, c, d⟩ := State.discardEnq_frame s n j
    obtain ⟨a', b', c', d'⟩ := ih (s.discardEnq n j)
    simp only [List.foldl_cons]
    refine ⟨?_, fun k h => (b' k h).trans (b k h), fun k h => (c' k h).trans (c k h), ?_⟩
    · rw [a', a]
      simp only [List.filter_filter, List.all_cons, Bool.and_comm]
    · rw [d', d]

theorem State.forgets_frame (n : Nat) (is : List Nat) : ∀ s : State,
    let t := s.each is (fun t i => t.modPort (128 + i) (Port.forget n))
    (∀ k, k < 128 → t.port k = s.port k) ∧ t = { s with ports := t.ports } := by
  induction is with
  | nil => intro s; simp [State.each]
  | cons i is ih =>
    intro s
    obtain ⟨a, b⟩ := ih (s.modPort (128 + i) (Port.forget n))
    refine ⟨fun k h => (a k h).trans ?_, ?_⟩
    · rw [State.port_modPort, if_neg (by omega)]
    · exact b

/-- Everything that a link reset does. -/
theorem State.linkReset_frame (s : State) (n cause : Nat) (hn : n < 128) :
    let part := (s.link n).enqs.filter (fun j => decide (j.toCome ≠ 0))
    let t := s.linkReset n cause
    t.link n =
      { st := s.freshState n, cause := cause, rxFailed := (s.link n).rxFailed, txFailed := (s.link n).txFailed,
        polInv := (s.link n).polInv, swap := (s.link n).swap, halfRate := (s.link n).halfRate, idled := (s.link n).idled,
        qtHeld := (s.link n).qtHeld,
        enqs := ((s.link n).enqs.filter (fun x => part.all (fun j => decide (x.id ≠ j.id)))).map (fun j => { j with silent := true }),
        deqs := (s.link n).deqs.map (fun d => { d with silent := true }) } ∧
      (∀ k, k ≠ n → t.link k = s.link k) ∧ t.port n = {} ∧ (∀ k, k < 128 → k ≠ n → t.port k = s.port k) ∧
      (part = [] → t.qe = s.qe) ∧
      t = { s with
        links := t.links, ports := t.ports, qe := t.qe
        clk := { s.clk with nrLink := vset s.clk.nrLink n true }
        dict := { s.dict with held := s.dict.held.filter (fun x => decide (x.1 ≠ n)) } } := by
  intro part t
  obtain ⟨a, b, c, d⟩ := State.discards_frame n part s
  obtain ⟨u, hu⟩ : ∃ u, u = part.foldl (fun s j => s.discardEnq n j) s := ⟨_, rfl⟩
  simp only [← hu] at a b c d
  obtain ⟨v, hv⟩ : ∃ v, v = (u.modLink n (fun l => l.afterReset (u.freshState n) cause)).modPort n Port.afterReset := ⟨_, rfl⟩
  obtain ⟨p, q⟩ := State.forgets_frame n (List.range 8) v
  obtain ⟨w, hw⟩ : ∃ w, w = v.each (List.range 8) (fun t i => t.modPort (128 + i) (Port.forget n)) := ⟨_, rfl⟩
  simp only [← hw] at p q
  have ht : t = { w with
      clk := { w.clk with nrLink := vset w.clk.nrLink n true }
      dict := { w.dict with held := w.dict.held.filter (fun x => decide (x.1 ≠ n)) } } := by
    rw [hw, hv, hu]; rfl
  have fr : u.freshState n = s.freshState n := by
    simp only [State.freshState, State.linkAct, State.inReset, a]
    rw [d]; rfl
  have wl : ∀ k, w.link k = v.link k := fun k => by rw [q]; rfl
  have vl : ∀ k, v.link k = if k = n then (u.link n).afterReset (u.freshState n) cause else u.link k := by
    intro k; rw [hv, State.link_modPort, State.link_modLink]
  have vp : ∀ k, v.port k = if k = n then {} else u.port k := by
    intro k; rw [hv, State.port_modPort]; rfl
  refine ⟨?_, fun k h => ?_, ?_, fun k h1 h2 => ?_, fun h => ?_, ?_⟩
  · rw [ht]
    change w.link n = _
    rw [wl, vl, if_pos rfl, fr, a]; rfl
  · rw [ht]
    change w.link k = _
    rw [wl, vl, if_neg h, b k h]
  · rw [ht]
    change w.port n = _
    rw [p n hn, vp, if_pos rfl]
  · rw [ht]
    change w.port k = _
    rw [p k h1, vp, if_neg h2, c k h1]
  · rw [ht]
    change w.qe = _
    rw [q]
    change v.qe = _
    rw [hv]
    change u.qe = _
    rw [hu, h]; rfl
  · rw [ht, q, hv, d]; rfl

end Sys2Proof.Machine
end

