-- ==== Sys2Proof/Laws/Frames.lean ====
section
/-!
SUPPORT. Laws/Frames: the flits that the transmitter of a link takes from a message, and the types of the counters of frames.
-/

set_option Elab.async false

namespace Sys2Proof.Machine

/-- The 64-bit counters of a link count below their end. -/
theorem State.count_frames (s : State) (n sub k : Nat) (hn : n < 128) (h : sub ∈ [0x14, 0x15, 0x16, 0x17, 0x18, 0x1B, 0x1D, 0x1E])
    (hk : s.rget (linkKey n sub) + k < 2 ^ 64) : s.count (linkKey n sub) k = s.rset (linkKey n sub) (s.rget (linkKey n sub) + k) := by
  have all : ∀ sub ∈ [0x14, 0x15, 0x16, 0x17, 0x18, 0x1B, 0x1D, 0x1E], ∀ n < 128,
      (entryRow (linkKey n sub)).map EntryRow.ty = some .u64 := by
    decide +kernel
  have ht := all sub h n hn
  cases he : entryRow (linkKey n sub) with
  | none => simp [he] at ht
  | some r =>
    simp only [he, Option.map_some, Option.some.injEq] at ht
    exact s.count_eq _ k r he (by simpa [ht, ETy.bits] using hk)

/-- The next flit while a message is being sent is the next of the message. -/
theorem State.nextFlit_msg (s : State) (n : Nat) (f : Flit) (r : List Flit) (h : (s.link n).tx.msg = f :: r) :
    s.nextFlit n = (f, true, s.modLink n (fun l => { l with tx := { l.tx with
      msg := r, msgTags := if r = [] then [] else l.tx.msgTags } })) := by
  simp only [State.nextFlit, h, reduceCtorEq, if_false, State.modLink]

/-- Without injection armed, a check sees what is stored. -/
theorem State.inject_off (s : State) (k inst addr : Nat) (h : nfield (s.rget (ekey 0x1800 (0x60 + k))) 63 62 = 0) :
    s.inject k inst addr = (0, s) := by
  simp only [State.inject, h, true_or, if_true]

end Sys2Proof.Machine
end

