-- ==== Sys2Proof/Laws/Operands.lean ====
section
/-!
SUPPORT. Laws/Operands: numbers as bytes and back, the fields of a number made of fields, and the messages made of them.
-/

set_option Elab.async false

namespace Sys2Proof.Machine

@[simp] theorem natBytes_length (n v : Nat) : (natBytes n v).length = n := by
  induction n generalizing v with
  | zero => rfl
  | succ n ih => simp [natBytes, ih]

/-- The bytes of a number give it back, as far as they reach. -/
@[simp] theorem bytesNat_natBytes (n v : Nat) : bytesNat (natBytes n v) = v % 256 ^ n := by
  induction n generalizing v with
  | zero => simp [natBytes, bytesNat, Nat.mod_one]
  | succ n ih =>
    simp only [natBytes, bytesNat, ih, BitVec.toNat_ofNat]
    rw [show (2 : Nat) ^ 8 = 256 from rfl, Nat.pow_succ']
    exact Nat.mod_mul.symm

/-- A number of `a` low bits below a number: its parts. -/
theorem nfield_low (x y a hi : Nat) (hx : x < 2 ^ a) (ha : a = hi + 1) : nfield (y * 2 ^ a + x) hi 0 = x := by
  subst ha
  simp only [nfield, Nat.pow_zero, Nat.div_one, Nat.sub_zero]
  rw [Nat.add_comm, Nat.add_mul_mod_self_right, Nat.mod_eq_of_lt hx]

/-- The one flit of an EVENT (R385). -/
theorem eventFlit (c : Nat) (hc : c < 65536) :
    mgmtMessage 0x03 0 0 c [] = [{ s0 := 0x03#8 ++ 0#40 ++ BitVec.ofNat 16 c, s1 := 0, s2 := 0, s3 := 0 }] := by
  have h8 : (natBytes 8 (3 * 2 ^ 56 + c)).length = 8 := natBytes_length _ _
  have hv : bytesNat (natBytes 8 (3 * 2 ^ 56 + c)) = 3 * 2 ^ 56 + c := by
    rw [bytesNat_natBytes, Nat.mod_eq_of_lt]; omega
  have hs : (0x03#8 ++ 0#40 ++ BitVec.ofNat 16 c : BitVec 64) = BitVec.ofNat 64 (3 * 2 ^ 56 + c) := by
    apply BitVec.eq_of_toNat_eq
    have hi : (0x03#8 ++ 0#40 : BitVec 48).toNat = 3 * 2 ^ 40 := by decide
    rw [BitVec.toNat_ofNat, Nat.mod_eq_of_lt (show 3 * 2 ^ 56 + c < 2 ^ 64 by omega), BitVec.toNat_append, hi, BitVec.toNat_ofNat,
      Nat.mod_eq_of_lt (show c < 2 ^ 16 by omega), ← Nat.shiftLeft_add_eq_or_of_lt (show c < 2 ^ 16 by omega), Nat.shiftLeft_eq]
    omega
  have head : 3 * 2 ^ 56 + 0 * 2 ^ 48 + 0 % 256 * 2 ^ 40 + 0 / 256 * 2 ^ 24 + 0 * 2 ^ 16 + c = 3 * 2 ^ 56 + c := by omega
  change bytesFlits 1 (natBytes 8 (3 * 2 ^ 56 + 0 * 2 ^ 48 + 0 % 256 * 2 ^ 40 + 0 / 256 * 2 ^ 24 + 0 * 2 ^ 16 + c) ++ []) = _
  rw [head, List.append_nil]
  simp only [bytesFlits, flitOfSlots, List.range, List.range.loop, List.map]
  rw [Nat.mul_zero, List.drop_zero, List.take_of_length_le (by omega), List.drop_of_length_le (by omega),
    List.drop_of_length_le (by omega), List.drop_of_length_le (by omega), hv, hs]
  rfl

end Sys2Proof.Machine
end

