-- ==== Sys2Proof/Laws/Requests.lean ====
section
/-!
SUPPORT. Laws/Requests: the fields of a request header read back as they were put in, and bank, row and column of the
channel-local address made of them.
-/

set_option Elab.async false

namespace Sys2Proof.Machine

/-! ### Request headers (Tables 2, 4 and 5 of the transactions chapter) -/

theorem requestHead_toNat {o t l : Nat} (ho : o < 256) (ht : t < 512) (hl : l < 2 ^ 47) :
    (requestHead o t l).toNat = o * 2 ^ 56 + t * 2 ^ 47 + l := by
  simp only [requestHead, BitVec.toNat_ofNat]; omega

theorem requestHead_opc {o t l : Nat} (ho : o < 256) (ht : t < 512) (hl : l < 2 ^ 47) : opcOf (requestHead o t l) = o := by
  simp only [opcOf, slotField, nfield, requestHead_toNat ho ht hl]; omega

theorem requestHead_tag {o t l : Nat} (ho : o < 256) (ht : t < 512) (hl : l < 2 ^ 47) : tagOf (requestHead o t l) = t := by
  simp only [tagOf, slotField, nfield, requestHead_toNat ho ht hl]; omega

/-- A field below the TAG is the field of what was put there. -/
theorem requestHead_field {o t l : Nat} (ho : o < 256) (ht : t < 512) (hl : l < 2 ^ 47) (hi lo : Nat) (h : hi < 47)
    (h2 : lo ≤ hi) : slotField (requestHead o t l) hi lo = nfield l hi lo := by
  simp only [slotField, nfield, requestHead_toNat ho ht hl]
  obtain ⟨d, e⟩ : ∃ d, 47 = lo + (hi + 1 - lo) + d := ⟨46 - hi, by omega⟩
  rw [show o * 2 ^ 56 + t * 2 ^ 47 + l = l + 2 ^ lo * (2 ^ (hi + 1 - lo) * (2 ^ d * (o * 2 ^ 9 + t))) by
    have h7 : (2 : Nat) ^ 47 = 2 ^ lo * 2 ^ (hi + 1 - lo) * 2 ^ d := by rw [← pow_add, ← pow_add, ← e]
    have : (2 : Nat) ^ 56 = 2 ^ 47 * 2 ^ 9 := by norm_num
    rw [this, h7]; ring]
  rw [Nat.add_mul_div_left _ _ (Nat.two_pow_pos _), Nat.add_mul_mod_self_left]

theorem requestHead_bit {o t l : Nat} (ho : o < 256) (ht : t < 512) (hl : l < 2 ^ 47) (i : Nat) (h : i < 47) :
    nbit (requestHead o t l).toNat i = nbit l i := by
  have := requestHead_field ho ht hl i i h le_rfl
  simp only [slotField, nfield, show i + 1 - i = 1 by omega] at this
  simp only [nbit, Nat.testBit_eq_decide_div_mod_eq]
  simp only [pow_one] at this
  rw [this]

theorem requestHead_ne {o t l : Nat} (ho : o < 256) (hp : 0 < o) (ht : t < 512) (hl : l < 2 ^ 47) : requestHead o t l ≠ 0 := by
  intro h
  have := requestHead_toNat ho ht hl
  rw [h] at this
  simp at this
  omega

/-- LABEL, PSN, WORD and BLOCK of a memory request. -/
theorem memoryFields_read {lb w b : Nat} {p : Bool} (h1 : lb < 256) (h2 : w < 16) (h3 : b < 1073741824) :
    memoryFields lb p w b < 2 ^ 47 ∧ nfield (memoryFields lb p w b) 46 39 = lb ∧ nbit (memoryFields lb p w b) 38 = p ∧
      nfield (memoryFields lb p w b) 37 34 = w ∧ nfield (memoryFields lb p w b) 29 0 = b := by
  cases p <;> simp only [memoryFields, b2n, nfield, nbit, Nat.testBit_eq_decide_div_mod_eq, if_true, if_false, Bool.false_eq_true,
    decide_eq_true_eq, decide_eq_false_iff_not] <;> refine ⟨?_, ?_, ?_, ?_, ?_⟩ <;> omega

/-! ### The place of a block in its channel (R126, R129) -/

theorem localOf_read {k w c : Nat} (hk : k < 16) (hw : w < 32768) (hc : c < 16) :
    localOf k w c < 2 ^ 23 ∧ bankOf (localOf k w c) = k ∧ rowOf (localOf k w c) = w ∧ colOf (localOf k w c) = c := by
  have h1 : (k % 4 ^^^ nfield w 3 2) < 4 := Nat.xor_lt_two_pow (n := 2) (by omega) (by simp [nfield]; omega)
  have h2 : (k / 4 ^^^ nfield w 1 0) < 4 := Nat.xor_lt_two_pow (n := 2) (by omega) (by simp [nfield]; omega)
  have e : localOf k w c = w * 256 + (k % 4 ^^^ nfield w 3 2) * 64 + (k / 4 ^^^ nfield w 1 0) * 16 + c := rfl
  have x1 : (k % 4 ^^^ nfield w 3 2) ^^^ nfield w 3 2 = k % 4 := by rw [Nat.xor_assoc, Nat.xor_self, Nat.xor_zero]
  have x2 : (k / 4 ^^^ nfield w 1 0) ^^^ nfield w 1 0 = k / 4 := by rw [Nat.xor_assoc, Nat.xor_self, Nat.xor_zero]
  rw [e]
  generalize (k % 4 ^^^ nfield w 3 2) = p at *
  generalize (k / 4 ^^^ nfield w 1 0) = q at *
  have f1 : nfield (w * 256 + p * 64 + q * 16 + c) 5 4 = q := by simp only [nfield]; omega
  have f2 : nfield (w * 256 + p * 64 + q * 16 + c) 7 6 = p := by simp only [nfield]; omega
  have f3 : nfield (w * 256 + p * 64 + q * 16 + c) 9 8 = nfield w 1 0 := by simp only [nfield]; omega
  have f4 : nfield (w * 256 + p * 64 + q * 16 + c) 11 10 = nfield w 3 2 := by simp only [nfield]; omega
  refine ⟨by omega, ?_, by simp only [rowOf, nfield]; omega, by simp only [colOf, nfield]; omega⟩
  simp only [bankOf, f1, f2, f3, f4, x1, x2]; omega

end Sys2Proof.Machine
end

