-- ==== Sys2Proof/Laws/All.lean ====
section
/-!
SUPPORT. Laws/All: every file of lemmas in one import.
-/
end

