-- ==== Sys2Proof/Tests/Witnesses.lean ====
section
/-!
SUPPORT. Tests/Witnesses: for every statement with hypotheses, a concrete state and operands that meet them all together, each
clause of several at its own.
-/

set_option Elab.async false

namespace Sys2Proof.Machine

/-- A stack in service: booted, its map built, everything else as it is after reset. -/
def up : State := { State.reset with boot := .up, mapBuilt := true, map := List.range 128 }

theorem witness_address_map_is_one_to_one :
    [5, 0, 7].Nodup ∧ [5, 0, 7] ≠ [] ∧ 2 < 3 ∧ 2 ^ 23 - 1 < 2 ^ 23 ∧ 3 * 2 ^ 23 - 1 < 3 * 2 ^ 23 ∧ 3 * 2 ^ 23 ≤ 3 * 2 ^ 23 ∧
      (3 * 2 ^ 23 - 3 + 1 < 3 * 2 ^ 23 ∧ (3 * 2 ^ 23 - 3) / 3 = (3 * 2 ^ 23 - 3 + 1) / 3) ∧ (2 ^ 23 - 1 + 1) * 3 ≤ 3 * 2 ^ 23 ∧
      7 ∈ [5, 0, 7] ∧ 15 < 16 ∧ 32767 < 32768 ∧ 6 ∉ [5, 0, 7] := by
  decide

theorem witness_link_training_advances :
    (let s := up.setLink 5 { st := .detect }; 5 < 128 ∧ s.calm = true ∧ s.linkLive 5 = true ∧ 2 < 4 ∧ s.mapBuilt = true ∧ (s.link 5).st = .detect ∧
      (s.link 5).idled = false ∧ 2 &&& s.linkAct 5 3 ≠ 0) ∧
    (let s := up.setLink 127 { st := .equalize }; s.calm = true ∧ s.linkLive 127 = true ∧ (s.link 127).st = .equalize) ∧
    (let s := up.setLink 0 { st := .align, rxLanes := 3 }; s.calm = true ∧ s.linkLive 0 = true ∧ (s.link 0).st = .align ∧ s.profileLanes (2 &&& (s.link 0).rxLanes) ≠ 0) ∧
    (let s := up.setLink 5 { st := .failed }; s.calm = true ∧ s.linkLive 5 = true ∧ (s.link 5).st = .failed) ∧
    (let s := up.setLink 5 { st := .recover, phase := 0 }; s.calm = true ∧ s.linkLive 5 = true ∧ (s.link 5).st = .recover ∧ (s.link 5).phase = 0) ∧
    (let s := up.setLink 5 { st := .recover, phase := 1, rxSet := 3 }; s.calm = true ∧ s.linkLive 5 = true ∧ (s.link 5).phase = 1 ∧ s.rxOk 5 ≠ 0 ∧
      3 &&& s.rxOk 5 = s.rxOk 5) := by
  decide

theorem witness_link_training_fails :
    (let s := up.setLink 5 { st := .config }; s.calm = true ∧ s.linkLive 5 = true ∧ s.mild 0 = true ∧ s.rget (linkKey 5 0x11) + 1 < 2 ^ 32 ∧
      (s.link 5).idled = false ∧ ((s.link 5).st = .config ∧ s.admitted 5 = false)) ∧
    (let s := up.setLink 5 { st := .align, rxLanes := 2 }; s.calm = true ∧ s.linkLive 5 = true ∧ s.mild 0 = true ∧ s.rget (linkKey 5 0x11) + 1 < 2 ^ 32 ∧
      (s.link 5).st = .align ∧ s.profileLanes (1 &&& (s.link 5).rxLanes) = 0) ∧
    (let s := up.setLink 5 { st := .equalize, rxLanes := 3 }; s.calm = true ∧ s.linkLive 5 = true ∧ s.mild 0 = true ∧ s.rget (linkKey 5 0x11) + 1 < 2 ^ 32 ∧
      ((s.link 5).st = .equalize ∨ (s.link 5).st = .align) ∧ (s.link 5).rxLanes.testBit 1 = true) := by
  decide

theorem witness_link_enters_active :
    (let s := up.setLink 5 { st := .config, tx := { step2 := 16 }, rx := { partner :=
        { initRsp := 16, initMgmt := 8, initQdat := 520, protoVer := 1, step := 2, rxLanesOk := 3 } } };
      s.calm = true ∧ s.linkLive 5 = true ∧ (s.link 5).st = .config ∧ (s.link 5).rx.partner.step = 2 ∧
      (s.link 5).rx.partner.keep = false ∧ s.trainCause (s.link 5).rx.partner = 0 ∧ 16 ≤ (s.link 5).tx.step2 ∧ s.admitted 5 = false ∧
      s.clk.nrLink.getLsbD 5 = false ∧ s.mapBuilt = true ∧ s.profileLanes ((s.link 5).rx.partner.rxLanesOk &&& s.linkAct 5 3) ≠ 0 ∧
      s.rget (linkKey 5 0x10) + 1 < 2 ^ 32) ∧
    (let s := up.setLink 5 { st := .recover, phase := 2, rxSet := 3, txSet := 3, txLanes := 3, tx := { step2 := 16 }, rx := { partner :=
        { protoVer := 1, step := 2, keep := true, rxLanesOk := 3 } } };
      s.calm = true ∧ s.linkLive 5 = true ∧ (s.link 5).st = .recover ∧ (s.link 5).rx.partner.step = 2 ∧
      (s.link 5).rx.partner.keep = true ∧ (s.link 5).rx.partner.protoVer = 1 ∧ (s.link 5).rx.partner.role = 0 ∧
      16 ≤ (s.link 5).tx.step2 ∧ (s.link 5).phase = 2 ∧ s.rget (linkKey 5 0x12) + 1 < 2 ^ 32 ∧
      (s.link 5).txLanes &&& (3 - (s.link 5).rx.partner.rxLanesOk % 4) = 0 ∧
      s.profileLanes ((s.link 5).rxSet &&& s.linkAct 5 3 &&& (3 - (s.link 5).rxFailed % 4)) ≠ 0 ∧
      s.profileLanes ((s.link 5).rx.partner.rxLanesOk &&& s.linkAct 5 3 &&& (s.link 5).txSet &&& (3 - (s.link 5).txFailed % 4)) ≠ 0) := by
  decide

theorem witness_link_reset_restarts_link :
    (let s := up.setLink 5 { st := .active }; s.linkLive 5 = true ∧ (s.link 5).st = .active) ∧
    (let s := up.setLink 127 { st := .recover }; s.linkLive 127 = true ∧ (s.link 127).st = .recover) ∧
    up.obeys .bus (linkKey 5 0x06) [] = true ∧ (up.setLink 5 { st := .active }).obeys (.link 5 77) (linkKey 5 0x06) [] = true := by
  decide

theorem witness_replay_timer_replays_or_recovers :
    (let s := up.setLink 5 { st := .active, tx := { stored := [{ seq := 7, flits := [] }], replayCount := 8 } };
      s.calm = true ∧ s.linkLive 5 = true ∧ ((s.link 5).st = .active ∨ (s.link 5).st = .laneSwitch) ∧
      (s.link 5).tx.stored = [{ seq := 7, flits := [] }]) := by
  decide

theorem witness_lane_loss_drops_to_single_lane :
    ((let s := up.setLink 5 { st := .active, rxLanes := 3, winA := 70000, winB := 2 };
      s.calm = true ∧ s.linkLive 5 = true ∧ s.mild 1 = true ∧ ((s.link 5).st = .active ∨ (s.link 5).st = .laneSwitch) ∧ (s.link 5).rxLanes = 3 ∧
      s.rget (linkKey 5 0x13) + 1 < 2 ^ 32 ∧ s.rget (linkKey 5 0x19) + 1 < 2 ^ 32 ∧ s.rget (linkKey 5 0x0A) ≠ 0)) ∧
    ((let s := up.setLink 5 { st := .active, txLanes := 3, rx := { hostLanes := 2 } };
      s.calm = true ∧ s.linkLive 5 = true ∧ s.mild 1 = true ∧ ((s.link 5).st = .active ∨ (s.link 5).st = .laneSwitch) ∧
      (s.link 5).txLanes &&& (s.link 5).rx.hostLanes ≠ (s.link 5).txLanes ∧ (s.link 5).txLanes < 4 ∧ s.rget (linkKey 5 0x13) + 2 < 2 ^ 32)) := by
  decide

theorem witness_transmitter_sends_one_frame :
    (let s := up.setLink 5 { st := .active, tx := { replay := [{ seq := 7, flits := [{}, {}, {}, {}] }] } };
      s.calm = true ∧ s.idling = false ∧ s.linkLive 5 = true ∧ (s.link 5).st = .active ∧ (s.link 5).tx.nulls = 0 ∧
      (s.link 5).tx.replayHdr = none ∧ (s.link 5).tx.replay.length = 1 ∧ (s.link 5).tx.lcfDue = false ∧ (s.link 5).tx.sinceLcf < 15 ∧
      nfield (s.rget (ekey 0x1800 0x64)) 63 62 = 0 ∧ s.rget (linkKey 5 0x1B) + 1 < 2 ^ 64) ∧
    (let s := up.setLink 5 { st := .idle, tx := { pins := [(0, [])] } }; s.calm = true ∧ s.idling = false ∧ (s.link 5).st ∈ [.disabled, .reset, .idle, .failed]) ∧
    (let s := up.setLink 5 { st := .active, tx := { nulls := 16 } };
      s.calm = true ∧ s.idling = false ∧ s.linkLive 5 = true ∧ (s.link 5).st = .active ∧ (s.link 5).tx.nulls = 15 + 1) ∧
    (let s := up.setLink 5 { st := .active, tx := { replayHdr := some 511 } };
      s.calm = true ∧ s.idling = false ∧ s.linkLive 5 = true ∧ (s.link 5).st = .active ∧ (s.link 5).tx.nulls = 0 ∧
      (s.link 5).tx.replayHdr = some 511 ∧ s.rget (linkKey 5 0x1A) + 1 < 2 ^ 32) ∧
    (let s := up.setLink 5 { st := .active, tx := { nextSeq := 511, msg := [{}, {}, {}, {}] } };
      s.calm = true ∧ s.idling = false ∧ s.linkLive 5 = true ∧ (s.link 5).st = .active ∧ (s.link 5).tx.nulls = 0 ∧
      (s.link 5).tx.replayHdr = none ∧ (s.link 5).tx.replay = [] ∧ (s.link 5).tx.stored.length < 256 ∧
      (s.link 5).tx.lcfDue = false ∧ (s.link 5).tx.sinceLcf < 15 ∧ (s.link 5).tx.msg = [{}, {}, {}, {}] ∧
      s.rget (linkKey 5 0x1E) + 1 < 2 ^ 64) := by
  decide

theorem witness_event_leaves_as_one_flit_message :
    (let s := up.setLink 5 { st := .active, events := [7, 40], tx := { eventPtr := 8, credMgmt := 8 } };
      s.calm = true ∧ s.linkLive 5 = true ∧ ((s.link 5).st = .active ∨ (s.link 5).st = .laneSwitch) ∧ (s.link 5).tx.msg = [] ∧
      (s.link 5).next = some (2, .event) ∧ tieBreak (s.link 5).tx.eventPtr (s.link 5).events = some 40) := by
  decide

theorem witness_receiver_classifies_frames :
    (let s := up.setLink 5 { st := .active, rxLanes := 3, rx := { locked := true } }; let bad : List Symbol := List.replicate 116 0;
      bad.length = 116 ∧ s.calm = true ∧ s.linkLive 5 = true ∧ s.power.st = 0 ∧ (s.link 5).st = .active ∧ (s.link 5).rx.locked = true ∧
      nfield (s.rget (ekey 0x1800 0x60)) 63 62 = 0 ∧ nfield (s.rget (ekey 0x1800 0x61)) 63 62 = 0 ∧
      receiveFrame 2 0 false bad = .uncorrectable ∧ (s.link 5).rx.failStreak + 1 < 4 ∧
      s.rget (linkKey 5 0x17) + 1 < 2 ^ 64 ∧ s.rget (linkKey 5 0x19) + 1 < 2 ^ 32) ∧
    (let f : Flit := { s0 := 0xFFFF000000000000 }; let h : Flit := { s0 := BitVec.ofNat 64 (0x02 * 2 ^ 56 + 160 * 2 ^ 16), s1 := 0, s2 := 0x1300000000000000, s3 := 0 };
      let fs := [f, f, f, f]; let good := encodeFrame false 2 fs;
      let s := up.setLink 5 { st := .active, rxLanes := 3, rx := { locked := true, expected := 511, msg := [h] } };
      let d := up.setLink 5 { st := .active, rxLanes := 3, rx := { locked := true, expected := 511, msg := [h], discarding := true } };
      good.length = 116 ∧ s.calm = true ∧ s.linkLive 5 = true ∧ s.power.st = 0 ∧ (s.link 5).st = .active ∧ (s.link 5).rx.locked = true ∧
      nfield (s.rget (ekey 0x1800 0x60)) 63 62 = 0 ∧ nfield (s.rget (ekey 0x1800 0x61)) 63 62 = 0 ∧
      receiveFrame 2 0 false good = .sequenced fs [] ∧ 2 = mappingOf (s.link 5).rxLanes ∧ (s.link 5).rx.discarding = false ∧
      (s.link 5).rx.skip = 0 ∧ lcfsOf (s.link 5).rx.msg fs = [] ∧ opcOf h.s0 ≠ 0x40 ∧ messageFlits h = some 6 ∧ 0 + 1 + fs.length < 6 ∧ fs.filter statusForm = [] ∧
      s.rget (linkKey 5 0x1D) + 1 < 2 ^ 64 ∧
      d.calm = true ∧ d.linkLive 5 = true ∧ (d.link 5).st = .active ∧ (d.link 5).rx.discarding = true ∧ fs.filter statusForm = []) := by
  set_option maxRecDepth 100000 in decide +kernel

theorem witness_staged_write_counts_generation :
    (let s := up.setLink 5 { st := .active }; let k := ekey 0x2003 0x03; let m := Master.link 5 9; let v : List Byte := [0x34, 0x12];
      m.wf = true ∧ s.calm = true ∧ s.hears m = true ∧ s.judge k = 0 ∧ k ≠ kHardenAuto ∧ k ≠ ekey 0x3100 0x02 ∧
      (entryRow k).any (fun r => decide (r.right = .rws) && decide (r.ty ≠ .cmd) && decide (v.length = r.len) &&
        typeOk r.ty (bytesNat v) && s.valueOk k r (maskOf r (bytesNat v)))) := by
  decide

theorem witness_refused_write_changes_nothing :
    (let s := up; let m := Master.bus; let v : List Byte := [7, 0, 0, 0]; m.wf = true ∧ s.calm = true ∧ s.hears m = true ∧
      s.judge (ekey 0x6F00 1) ≠ 0 ∧ (let s := { s with variant := .axd3200 }; s.calm = true ∧ s.hears m = true ∧ s.judge (ekey 0x2240 1) = 0x0101) ∧
      (let k := ekey 0x0100 2; s.judge k = 0 ∧ (entryRow k).any (fun r => decide (r.ty ≠ .cmd) && decide (r.right = .ro))) ∧
      (let k := ekey 0x2003 1; s.judge k = 0 ∧ (entryRow k).any (fun r => decide (r.ty ≠ .cmd) && decide (r.right ≠ .ro) && decide (v.length ≠ r.len))) ∧
      (let k := ekey 0x2003 1; s.judge k = 0 ∧ (entryRow k).any (fun r => decide (r.ty ≠ .cmd) && decide (r.right ≠ .ro) && decide (1 = r.len) &&
        !(typeOk r.ty (bytesNat [7#8]) && s.valueOk k r (maskOf r (bytesNat [7#8]))))) ∧
      (let k := ekey 0x2003 0xFE; s.judge k = 0 ∧ entryRow k = none ∧ k / 256 ≠ 0xF000)) := by
  decide

theorem witness_in_band_read_answers :
    (let s := up.setLink 127 { st := .laneSwitch }; s.calm = true ∧ s.takesRequests 127 = true ∧ s.dict.mpDown = false ∧ s.mgmtWaits 127 = false) ∧
    (let s := up.setLink 127 { st := .active, mgmtBy := [3] }; s.calm = true ∧ s.takesRequests 127 = true ∧ s.mgmtWaits 127 = true) := by
  decide

theorem witness_step_runs_the_front_command :
    up.pending = [] := by
  decide

theorem witness_quiet_stack_settles :
    (up.calm = true ∧ up.mild 52 = true) ∧ (Instr.rd64 200 0 0 0).wf = false ∧ (Instr.linkReset (.link 3 7) 127 []).wf = true ∧
    ([
    .entryWrite (.link 127 255) 0x1C00 [], .mgmtRead 127 255 0x1C00 255, .mgmtWrite 127 255 0x1C00 255 [], .commit (.link 127 255) [],
    .discard (.link 127 255) [], .commitApplyBlock (.channel 127), .profileDrainComplete, .frameReceive 127 1 (List.replicate 116 0),
    .frameTransmit 127, .replayTimerExpiry 127, .detectLock 127 3, .equalizeDone 127, .alignDone 127 3 3 true, .configComplete 127,
    .trainingLimitExpiry 127, .failedTimeout 127, .recoverComplete 127, .recoverTimeout 127, .hostIdleReset 127, .laneSignalLoss 127 1,
    .laneSerWindowClose 127 0 0, .txLaneSwitch 127, .linkReset (.link 127 255) 127 [], .rd64 127 511 255 (2 ^ 30 - 1),
    .rd128 127 511 255 (2 ^ 30 - 1), .wr64 127 511 255 (2 ^ 30 - 1) true 0, .wrm 127 511 255 (2 ^ 30 - 1) true 0 0,
    .fadd32 127 511 255 (2 ^ 30 - 1) 15 0, .swap32 127 511 255 (2 ^ 30 - 1) 15 0, .deq 127 511 65535, .peek 127 511 65535, .qlen 127 511 65535,
    .enq 127 511 255 32767 65535 true [], .requestAdmit, .channelEntryExecute 127 {}, .queueCmdPass 127 {}, .enqLink 127 {}, .cacheRefill 7 {},
    .cacheSpill 7 {}, .linkBlockEvict 7 {}, .qflush (.link 127 255) [], .qflushWalkStep {}] : List Instr).all Instr.wf = true ∧
    ([
    .poolReset (.link 127 255) [], .lsFill (.link 127 255) [], .urgPinEdge 15, .urgFilterChange 15 true, .urgStuckDetect 15,
    .deliverableRecompute, .shortfallCut, .shareRecompute, .acctWindowClose () (), .idleTimerExpiry 127, .exitCheckEnd 127 [⟨17, 49⟩] [⟨17, 49⟩] 0 0,
    .steepWindowStart ⟨127, {}⟩, .steepWindowEnd 127 [⟨17, 49⟩] 0, .refreshDueEvent 127, .scheduledRefresh ⟨127, {}⟩, .refreshRateChange 127,
    .neighbourRefresh ⟨127, {}⟩, .regionFill ⟨127, {}⟩, .rakeStep 127 [] {}, .rakePassClose 127 0 [(15, 32767)], .rawWrite (.link 127 255) [],
    .rawRead (.link 127 255) [], .injCtrlWrite (.link 127 255) 6 [], .jointWordFail 511 1 true, .layerFreqWindowClose 17 0,
    .layerLossOfLock 17, .relockAttemptEnd 17 true 0, .coilSerWindowClose 127 [], .substitutionWindow ⟨127, {}⟩ ⟨[⟨17, 49⟩], 0⟩,
    .hopTraining 17 [(127, ⟨17, 49⟩)] true, .endToEndCheck [(127, ⟨17, 49⟩)] 0, .extensionSlice ⟨127, {}⟩ ⟨[⟨17, 49⟩], true⟩, .rowRepair ⟨127, {}⟩ [],
    .migrationStep ⟨127, {}⟩ [], .repairRequest (.link 127 255) [], .harden (.link 127 255) [] {}, .evacuate (.link 127 255) [],
    .evacTargetReady true, .evacCopyStep ⟨127, {}⟩ [], .evacChannelSwitch 127, .quickTestPhaseEnd {}, .quickTestEnd {} 0] : List Instr).all Instr.wf = true ∧
    ([
    .quickTestTimeLimit, .tapUpdateIr 5, .tapBypass, .tapIdcode, .tapSamplePreload 0 0, .tapExtest 0, .tapClamp, .tapHighz, .tapWrapper 1 0,
    .tapLayer 17 0, .tapVendor 5, .tapReset, .testHold (.link 127 255) [], .spargeSliceDue 127 (), .spargeEntry 127 [] [] {},
    .converterMinorCycle 1 (), .sensorSample 79 (some 524287) 0, .zoneHoldExpiry (), .z2StepPeriodExpiry, .stopComplete, .stopTimeout,
    .resume (.link 127 255) [], .sensingFailure none, .groupClear (.link 127 255) [], .fanLoopTick, .fanSpeedUpdate 1 0, .fanFailDetect 1 true,
    .fanDutyTimeout, .boardSensorSample 7 none, .powerOnReset, .railLoss .core, .railRestart, .layerSupplyFault 17, .vddRepPhaseLoss 17,
    .pmbusPoll [none, none, none, none] 0 {}, .pmbusAlert none 0, .avsAdjust 0 true, .pmbusRecovery none, .powerStateReq (.link 127 255) [],
    .wakeNAssert, .pwrwarnAssert, .pwrwarnClear] : List Instr).all Instr.wf = true ∧
    ([
    .resetNAssert, .resetNRelease 7, .chipReset (.link 127 255) [], .blockReset (.link 127 255) [], .cdcResync (.link 127),
    .clockMonitorWindow [0, 0, 0, 0, 0, -524288] true, .refclkReturn 0, .holdoverTimeout, .pllLossOfLock .mgmt, .wireFault 127 true,
    .stickyWrite (.link 127 255) 127 true [] none, .stickyClear (.link 127 255) true [], .reactionWrite (.link 127 255) none [],
    .eventSend 127, .mgmtWdtWarn, .mgmtWdt, .granarySensingEnd [] true, .granResense (.link 127 255) [] [], .granProgram (.link 127 255) [] {},
    .granLock (.link 127 255) [] {}, .lcMarkComplete {}, .lcToField (.link 127 255) [] {}, .lcReturn (.link 127 255) [] 0 {},
    .lcVoid (.link 127 255) [] {}, .dictRead 255 [] none 0, .dictWrite 255 [], .dictResult, .busAccessComplete .done, .busFlagsRead,
    .busFlagsWrite [], .windowWrite 255 [], .windowRead 255 255, .attentionRead, .attentionRequest .answered, .attentionRetry .answered,
    .mbUndefinedCommand 5, .mbProtocolError, .mbTimeout true, .blockResetEnd 5 127, .laneWithoutLock 127 1] : List Instr).all Instr.wf = true := by
  decide +kernel

theorem witness_running_command_refuses_another :
    (let s := up.setCmd kFlush { running := true }; kFlush < 16777216 ∧ s.reaches .bus kFlush [0, 0] = true ∧ (s.cmd kFlush).running = true ∧
      ¬(kFlush = kCommit ∨ kFlush = kDiscard)) ∧
    (let s : State := { up with dict := { up.dict with commit := some ⟨[], [], [.regulator], none, 0⟩ } };
      s.reaches .bus kCommit [0, 0, 0, 0] = true ∧ s.reaches .bus kDiscard [] = true ∧ s.dict.commit ≠ none) ∧
    (up.hears .bus = true ∧ up.judge kDiscard = 0 ∧ (entryRow kDiscard).any (fun r => decide (r.ty = .cmd ∧ [1#8].length ≠ r.len))) := by
  decide

theorem witness_discard_restores_staging :
    up.obeys .bus kDiscard [] = true ∧ up.obeys (.link 0 3) kDiscard [] = false ∧ (up.setLink 0 { st := .active }).obeys (.link 0 3) kDiscard [] = true := by
  decide

theorem witness_commit_is_refused_or_starts :
    ((up.obeys .bus kCommit [5, 0, 0, 0] = true ∧ bytesNat [5#8, 0, 0, 0] ≠ up.dict.stageGen.toNat ∧ bytesNat [5#8, 0, 0, 0] ≠ 0xFFFFFFFF) ∧
    (let s := up.rset (classKey 0 1) 1; s.obeys .bus kCommit [0, 0, 0, 0] = true ∧ s.qe.failed = false ∧ s.contradictions s.staged ≠ []) ∧
    (let s := (up.rset (classKey 0 1) 0).rset (classKey 0 3) 60000; s.obeys .bus kCommit [0, 0, 0, 0] = true ∧ s.qe.failed = false ∧
      s.contradictions s.staged = [] ∧ (s.staged.any (fun e => admissionKey e.1)) = true ∧
      s.overSubscribed (s.staged.any (fun e => decide (e.1 = kProfile))) ≠ none)) ∧
    (let s := up.rset (classKey 3 2) 5; s.obeys .bus kCommit [0, 0, 0, 0] = true ∧ s.staged ≠ [] ∧ s.contradictions s.staged = [] ∧ s.qe.failed = false ∧
      s.overSubscribed false = none ∧ (∀ e ∈ s.staged, e.1 ≠ kProfile ∧ ¬ (e.1 / 256 < 0x1080 ∧ e.1 % 256 = 0xE2))) := by
  decide +kernel

theorem witness_commit_block_applies :
    (let c : CommitRun := { set := [(classKey 3 2, 5)], limits := [], left := [.regulator], answer := some .bus, since := 0 };
      let s : State := { up with dict := { up.dict with commit := some c } };
      Block.regulator.wf = true ∧ s.dict.commit = some c ∧ Block.link 3 ∉ c.left ∧ Block.regulator ∈ c.left ∧
      (∀ e ∈ c.set, Block.regulator ∈ s.owners e.1)) := by
  decide

theorem witness_profile_switches_when_drained :
    let s : State := { up with dict := { up.dict with draining := true, profileWait := true } };
      s.drained = true ∧ s.profileMustWait = false ∧ s.power.changing = false ∧ s.power.st = 0 ∧ s.dict.commit = none ∧
      ¬ s.profile = .economy ∧ ¬ profileOf (s.rget (kProfile + 1)) = .economy := by
  decide

theorem witness_empty_commit_is_harmless :
    (up.obeys .bus kCommit [0, 0, 0, 0] = true ∧ up.staged = [] ∧ up.stagedLimits = [] ∧ bytesNat [0#8, 0, 0, 0] = up.dict.stageGen.toNat) := by
  decide +kernel

theorem witness_memory_request_is_held_or_refused :
    (let s := up.setLink 5 { st := .active }; s.takesRequests 5 = true ∧ s.tagOk 5 383 = true ∧ s.refuseMem [0x00091A7C] = none ∧
      s.refuseMem [0x00091A7C, 0x00091A7D] = none) ∧
    ((let s := { (up.setLink 5 { st := .active }) with therm := { up.therm with stop := 1 } }; s.takesRequests 5 = true ∧ s.tagOk 5 0 = true ∧
      s.refuseMem [7] = some 3 ∧ (s.port 5).held = [] ∧ (s.port 5).qcmds = []) ∧
    (let s := up.setLink 5 { st := .active }; s.takesRequests 5 = true ∧ s.tagOk 5 384 = false) ∧ up.takesRequests 5 = false) := by
  decide +kernel

theorem witness_queue_command_waits_at_its_port :
    (let s := up.setLink 127 { st := .active }; s.takesRequests 127 = true ∧ s.tagOk 127 0 = true ∧ s.refuseQueue = none) ∧
    (let s : State := { (up.setLink 3 { st := .active }) with variant := .axd3200 }; s.takesRequests 3 = true ∧ s.tagOk 3 0 = true ∧
      s.refuseQueue = some 5 ∧ (s.port 3).held = [] ∧ (s.port 3).qcmds = []) := by
  decide

theorem witness_enq_is_taken_dropped_or_refused :
    (let s := (((up.setLink 5 { st := .active }).rset (ekey 0x3000 0x21) 1).rset (ekey 0x3000 0x23) 4096).rset (ekey 0x3000 0x30) 100;
      let s := (s.rset (ekey 0x3000 0x50) 100).rset (ekey 0x3000 0x60) 0xFF;
      s.takesRequests 5 = true ∧ s.tagOk 5 0 = true ∧ nfield (s.rget (ekey 0x1800 0x64)) 63 62 = 0 ∧ s.refuseQueue = none ∧ s.enqFate 3 16384 = none) ∧
    (let s := up.setLink 5 { st := .active }; s.takesRequests 5 = true ∧ s.refuseQueue = none ∧ s.enqFate 3 1 = some 7) ∧
    (let s := { (up.setLink 5 { st := .active }) with variant := .axd3200 }; s.refuseQueue = some 5) := by
  decide +kernel

theorem witness_request_rows_are_messages :
    (let i := Instr.wrm 9 6 0x2A 0x123457 true 0xFF00 0x1122334455667788; i.wf = true ∧ (requestFlits i).isSome = true ∧
      up.takesRequests 9 = false) ∧
    (let i := Instr.enq 9 6 0x2A 33 65535 true [{}, { s3 := 1 }]; i.wf = true ∧ (requestFlits i).map Prod.fst = some 9 ∧
      (up.setLink 9 { st := .active }).takesRequests 9 = true) ∧
    (let i := Instr.enq 9 383 255 16385 0 false []; i.wf = true ∧ (requestFlits i).isSome = true) := by
  decide +kernel

theorem witness_queue_command_is_executed :
    (let s := (up.setPort 5 { qcmds := [⟨3, 0x1A, 7, 0⟩, ⟨4, 0x18, 7, 1⟩] }); s.engineRuns = true ∧ nfield (s.rget (ekey 0x1800 0x64)) 63 62 = 0 ∧ s.winsLock 5 7 0 = true ∧
      (s.link 5).qdatUsed + 513 ≤ 1024 ∧ (s.queue 7).packets = 0 ∧ ({} : ChanEnv).wf = true ∧ ({} : ChanEnv).sramBad = false) ∧
    (let s := (((up.setPort 5 { qcmds := [⟨3, 0x19, 8, 0⟩] }).rset (ekey 0x3000 0x23) 4096).setQueue 8 { head := 5, tail := 5, cells := 1, packets := 1 }).setSlice 0
        { blocks := [⟨4 * 4096, [0, 0, 0, 0, 0, 0x0000000C09000800, 0, 0], 0, false, false⟩] };
      s.engineRuns = true ∧ s.sliceOf 8 = 0 ∧ (s.queue 8).packets ≠ 0 ∧ s.winsLock 5 8 0 = true ∧ s.blockLost (s.linkBlock 0 5) = false ∧
      ((s.slice 0).blocks.find? (fun y => decide (y.addr = s.linkBlock 0 5))).any (fun b => !b.poisoned)) := by
  decide +kernel

theorem witness_enq_link_puts_the_packet_at_the_tail :
    let j : EnqJob := { tag := 3, label := 9, len := 200, queue := 8, cells := [5], writesLeft := 0, id := 4 };
    let s := ((up.setLink 127 { st := .active, enqs := [j] }).rset (ekey 0x3000 0x23) 4096).setSlice 0
        { blocks := [⟨4 * 4096, List.replicate 8 0, 0, false, false⟩], reserved := 1 };
      s.engineRuns = true ∧ s.sliceOf 8 = 0 ∧ nextJob [] (s.link 127).enqs = some j ∧ s.linkTurn j = true ∧ s.winsLock 127 8 1 = true ∧
      (s.link 127).enqs.find? (fun x => decide (x.id = j.id)) = some j ∧ j.chained ≤ 1 ∧ packetCells j.len = 1 ∧ (s.queue 8).packets = 0 ∧
      ((s.slice 0).blocks.find? (fun y => decide (y.addr = s.linkBlock 0 5))).isSome := by
  decide +kernel

theorem witness_pointer_caches_move_sixteen :
    (let s := up.rset (ekey 0x3000 0x23) 4096; s.engineRuns = true ∧ 7 < slices s.variant ∧ s.poolK ≠ 0 ∧ (s.slice 7).cache.length < 1024 ∧
      (s.slice 7).stack < 16 ∧ (s.slice 7).fresh < s.poolK) ∧
    (let s := (up.rset (ekey 0x3000 0x23) 4096).setSlice 0 { stack := 16 }; 16 ≤ (s.slice 0).stack ∧
      s.engineRuns = true) ∧
    (let s := up.setSlice 3 { cache := List.range 3073 }; 3072 < (s.slice 3).cache.length) ∧
    (let s := up.setSlice 0 { blocks := List.replicate 2048 ⟨0, [], 0, false, true⟩ }; 2048 ≤ (s.slice 0).blocks.length ∧ (s.slice 0).blocks.getLast?.isSome) ∧
    ({ up with variant := .axd3200 } : State).engineRuns = false := by
  set_option maxRecDepth 100000 in decide +kernel

theorem witness_queue_flush_pool_reset_and_limit_fill :
    (up.obeys .bus kFlush [7, 0] = true ∧ up.inReset 2 0 = false ∧
    (let s : State := { up with qe := { up.qe with flush := some ⟨0, 5, 1⟩ } }; s.engineRuns = true ∧ (s.slice 0).cache.length < 4096 ∧ (s.slice 0).backlog = []) ∧
    (let s : State := { up with qe := { up.qe with flush := some ⟨0, 5, 3⟩, slices := [(0, { blocks := [⟨0, List.replicate 8 0, 0, false, false⟩] })] } };
      s.engineRuns = true ∧ s.blockLost (s.linkBlock 0 5) = false ∧
      ((s.slice 0).blocks.find? (fun y => decide (y.addr = s.linkBlock 0 5))).any (fun b => !b.poisoned))) ∧
    ((up.obeys .bus (ekey 0x3000 0x72) [] = true ∧ up.qeSet 1 = 0 ∧ up.qe.flush = none ∧ up.qe.queues = [] ∧ up.inReset 2 0 = false) ∧
    (let s := up.rset (ekey 0x3000 0x21) 1; s.obeys .bus (ekey 0x3000 0x72) [] = true ∧ s.qeSet 1 ≠ 0) ∧
    (up.obeys .bus (ekey 0x3000 0x74) [3, 0, 5, 0, 2] = true ∧ mwf (fun _ => 0) up.qe.limitStage = true) ∧
    up.obeys .bus (ekey 0x3000 0x74) [3, 0, 2, 0, 2] = true) := by
  decide +kernel

theorem witness_urgency_pins_are_filtered :
    up.fabricClocked = true ∧ State.reset.fabricClocked = false ∧
    (let s : State := { up with reg := { up.reg with urgSync := 0x8000 } }; s.reg.urgSync.getLsbD 15 = true ∧ s.reg.urgLevel.getLsbD 15 ≠ true) ∧
    (let s := ({ up with reg := { up.reg with urgLevel := 1 } } : State).rset (ekey 0x2300 0x10) 3; let s := s.rset (ekey 0x2300 0x32) 5;
      s.reg.urgLevel.getLsbD 0 = true ∧ s.pinSet 0 ≠ 0xFF ∧ s.rget (ekey 0x2300 0x32) ≠ 0 ∧ s.reg.urgStuck.getLsbD 0 = false) := by
  decide

theorem witness_deliverable_shortfall_and_shares :
    (up.fabricClocked = true ∧ (∀ c, c < 16 → up.classSet c 2 < 16)) ∧
    (mwf (fun _ => {}) up.reg.tok = true ∧ (let s : State := { up with reg := { up.reg with tok := [(tokKey 5 3, { u := 1, g := 2, e := 3 })] } };
      mwf (fun _ => {}) s.reg.tok = true ∧ mget {} s.reg.tok (tokKey 5 3) ≠ {})) := by
  decide

theorem witness_accounting_window_judges_classes :
    (!up.fabricClocked || up.regulatorStopped) = false ∧ (!State.reset.fabricClocked || State.reset.regulatorStopped) = true ∧
    (let s : State := ((up.rset (classKey 3 0x21) 0).rset (classKey 3 0x23) 1000);
      let s : State := { s with reg := { s.reg with winHeld := [(3, 2000000)] } };
      s.guarClass 3 = true ∧ 100 * mget 0 s.reg.winBytes 3 < 9 * s.minEff 3 * s.acctWindow ∧ s.acctWindow < mget 0 s.reg.winHeld 3) := by
  decide

theorem witness_request_admit_admits_the_only_candidate :
    up.fabricClocked = true ∧ up.regulatorStopped = false ∧ nfield (up.rget (ekey 0x1800 0x64)) 63 62 = 0 ∧ up.ports = [] ∧
    (let h : Held := { tag := 1, opc := 0x10, cls := 0, block := 0x00091A7C };
      let s : State := { up with ports := [(5, { held := [h] })], reg := { up.reg with tok := [(tokKey 5 0, { e := 1000 })] } };
      (s.places h).length = 1 ∧ (∀ e ∈ s.places h, e.1 < enabled s.variant ∧ (s.chan e.1).st = .serving ∧ s.roomAt e.1 = true) ∧
      (({ s with now := s.now + 1 } : State).gainAll.rankOf 5 h).isSome) := by
  decide +kernel

theorem witness_idle_channel_begins_self_refresh :
    (let s := up.setLayer 15 { locked := true }; let s := s.rset (chanKey 127 0x21) 512; s.chanRuns 127 = true ∧ s.layerClocked 127 = true ∧ s.idleTime 127 ≠ 0 ∧
      (s.chan 127).queue = [] ∧ (s.chan 127).ref.debt = 0 ∧ (s.chan 127).rep.slice = none ∧ (s.chan 127).rep.evac = 0 ∧ (s.chan 127).interim = false ∧ (s.chan 127).ref.burst = []) ∧
    State.reset.chanRuns 0 = false := by
  decide +kernel

theorem witness_refresh_debt_is_paid_in_units :
    (let s := (up.setLayer 0 { locked := true }).setChan 3 { st := .inSr, ref := { running := true } }; 3 < enabled s.variant ∧ s.chanPowered = true ∧
      (s.chan 3).asleep = true ∧ s.layerClocked 3 = true) ∧
    (let s := (up.setLayer 0 { locked := true }).setChan 3 { ref := { running := true, debt := 14 } }; (s.chan 3).st = .serving ∧ s.layerClocked 3 = true ∧
      (s.chan 3).ref.debt + (s.chan 3).unit ≤ 8 * (s.chan 3).unit ∧ s.chanRefreshes 3 = true ∧ (s.chan 3).ref.burst = [] ∧ s.targeted 3 0 = false ∧ ({} : ChanEnv).wf = true) ∧
    (let s := (up.setLayer 0 { locked := true }).setChan 3 { ref := { burst := [15, 0] } }; s.chanRefreshes 3 = true ∧ mfind (s.chan 3).openRows 15 = none) ∧
    (let s := up.setChan 3 { stopped := true, ref := { fast := true } }; (s.chan 3).ref.fast = true ∧ s.rateWanted 3 = false ∧ (up.chan 3).ref.fast = up.rateWanted 3) := by
  decide +kernel

theorem witness_maintenance_serves_rows_regions_and_rake :
    ((let s := (up.setLayer 0 { locked := true }).setChan 3 { ref := { pending := [(2, 70), (1, 5)] } }; s.mayMaintain 3 = true ∧
      (s.chan 3).forcedFill = false ∧ ({} : ChanEnv).wf = true ∧ (s.chan 3).ref.pending = [(2, 70), (1, 5)]) ∧
    (let s := (up.setLayer 0 { locked := true }).setChan 3 { mem := { fills := [17, 90] } }; s.mayMaintain 3 = true ∧ (s.chan 3).ref.pending = [] ∧
      (s.chan 3).mem.fills = [17, 90])) ∧
    ((let s := up.setLayer 0 { locked := true }; 3 < enabled s.variant ∧ (Instr.rakeStep 3 [] {}).wf = true ∧ nfield (s.rget (ekey 0x1800 0x65)) 63 62 = 0 ∧
      (s.mayRun 3 && s.map.contains 3 && !s.rakeStopped) = true ∧ mget false (s.chan 3).mem.rmap (regionOf (s.rget (kRake 3))) = false ∧
      (Instr.rakePassClose 3 7 [(15, 32767)]).wf = true ∧ s.chanClocked = true ∧ s.retired 3 = false) ∧
    (up.mayRun 3 && up.map.contains 3 && !up.rakeStopped) = false) := by
  decide +kernel

theorem witness_channel_reads_what_it_holds :
    let e : QEntry := { port := 5, req := { tag := 3, opc := 0x10, cls := 0, block := 0 }, h := 0x1234 };
    (let s := ((up.setLayer 1 { locked := true }).setChan 12 { queue := [e] }); 12 < enabled s.variant ∧ s.entryRuns 12 e = true ∧
      (∀ k, k < 7 → nfield (s.rget (ekey 0x1800 (0x60 + k))) 63 62 = 0) ∧ (s.chan 12).erased = none ∧ mget false (s.chan 12).mem.rmap (regionOf e.h) = false) ∧
    (let s := ((up.setLayer 1 { locked := true }).setChan 12 { queue := [e], mem := { rmap := [(regionOf 0x1234, true)], valid := [(0x1234 / 64, 2 ^ (0x1234 % 64))], poison := [(0x1234 / 64, 2 ^ (0x1234 % 64))], arr := [(0x1234, encodeBlock 0xABCDEF)] } }); s.entryRuns 12 e = true ∧
      isCodeword (s.arrayWord 12 e.h) = true) := by
  decide +kernel

theorem witness_channel_writes_what_it_is_given :
    let e : QEntry := { port := 5, req := { tag := 3, opc := 0x12, cls := 0, block := 0 }, h := 0x1234 };
    let a : QEntry := { port := 5, req := { tag := 3, opc := 0x14, cls := 0, block := 0, word := 15, operand := 0xFFFFFFFF }, h := 0x7FFFFF };
    (let s := ((up.setLayer 1 { locked := true }).setChan 12 { queue := [e] }); s.entryRuns 12 e = true) ∧
    (let s := ((up.setLayer 1 { locked := true }).setChan 12 { queue := [a], mem := { rmap := [(regionOf 0x7FFFFF, true)], valid := [(0x7FFFFF / 64, 2 ^ 63)], arr := [(0x7FFFFF, encodeBlock 0xABCDEF)] } }); s.entryRuns 12 a = true ∧ isCodeword (s.arrayWord 12 a.h) = true ∧
      nbit (mget 0 (s.chan 12).mem.valid (a.h / 64)) (a.h % 64) = true) := by
  decide +kernel

theorem witness_raw_access_and_injection :
    let r : State := { (up.setLayer 0 { locked := true }) with lc := { up.lc with st := .ret } };
    (r.obeys .bus (ekey 0x1800 0x85) [] = true ∧ r.obeys .bus (ekey 0x1800 0x86) [] = true ∧ r.rawRefused 0 = 0 ∧ r.mayRun 0 = true ∧
      nfield (r.rget (ekey 0x1800 0x64)) 63 62 = 0 ∧ nfield (r.rget (ekey 0x1800 0x65)) 63 62 = 0 ∧ r.mayRun 127 = false ∧ r.rawRefused 127 = 0) ∧
    (let s := { r with map := List.range 127 }; s.rawRefused 127 = 0x0109) ∧
    r.hears .bus = true ∧ r.judge (ekey 0x1800 0x60) = 0 ∧ r.injValid 6 (2 ^ 63 + 2 ^ 48 + 0xFF * 2 ^ 24) = true ∧ r.injValid 0 (2 ^ 63) = false := by
  decide +kernel

theorem witness_idle_time_zero_disables_self_refresh :
    (let u : State := { up.rset (chanKey 3 0x21) 0 with profile := .economy }
     u.blockSetting (.channel 3) (chanKey 3 0x01) (chanKey 3 0x21) = 0) := by
  decide +kernel

theorem witness_steep_windows_and_exit_checks :
    (let s := (up.setLayer 0 { locked := true }).setChan 3 { ref := { debt := 2 } }; 3 < enabled s.variant ∧ s.chanPowered = true ∧ s.clk.nrLayer.getLsbD 3 = false ∧ s.windowOpens 3 = true ∧ ({} : ChanEnv).wf = true ∧
      (s.chan 3).stopped = false ∧
      (s.chan 3).interimStop = false ∧ s.retired 3 = false ∧ (s.chan 3).ref.debt ≤ 8 * (s.chan 3).unit ∧ (s.chan 3).forced = false) ∧
    (let s := (up.setLayer 0 { locked := true }).setChan 3 { st := .steep }; (s.chan 3).st = .steep ∧ [(⟨17, 49⟩ : Site)].all Site.wf = true) ∧
    (let s := (up.setLayer 0 { locked := true }).setChan 3 { st := .exiting }; (s.chan 3).st = .exiting ∧ s.layerClocked 3 = true) ∧
    (let s := (up.setLayer 0 { locked := true }).setChan 3 { ref := { debt := 2 }, vl := { waiting := [(⟨0, 5⟩, 5)] } }; s.windowOpens 3 = true ∧ (s.chan 3).vl.waiting ≠ []) ∧
    up.windowOpens 3 = false := by
  decide +kernel

theorem witness_layers_lose_and_regain_lock :
    (let s := up.setLayer 3 { locked := true, st := 2, supply := 2 }; s.chanPowered = true ∧ (s.layer 3).locked = true ∧ (s.layer 3).supply ≠ 0 ∧ isI20 (-1001) = true) ∧
    (let s := up.setLayer 17 { st := 4, attempts := 2 }; (s.layer 17).st = 4) ∧ up.boot ≠ .held ∧ ({ up with boot := .sensing } : State).boot = .sensing := by
  decide +kernel

theorem witness_coils_are_spared_and_trained :
    (let s := up; 127 < enabled s.variant ∧ s.chanClocked = true ∧ s.retired 127 = false) ∧
    (let s := { up with boot := .qtBase }; s.training = true ∧ s.qt.nextHop = 0 ∧ (Instr.hopTraining 0 [(127, ⟨0, 49⟩)] true).wf = true) ∧
    (let s := { up with boot := .qtBase, qt := { up.qt with nextHop := 16 } }; s.training = true ∧ s.qt.nextHop = layerCount s.variant ∧ s.repair.assign16 = none) := by
  decide +kernel

theorem witness_rows_and_columns_are_repaired :
    let e := candidate 1 1 0 3 5 777 2 9 1 true;
    (let s := { (up.setLayer 0 { locked := true }) with repair := { up.repair with list := [e] } }; (Instr.rowRepair ⟨3, {}⟩ [0, 5]).wf = true ∧ s.mayRun 3 = true ∧ s.nextRepair 3 1 = some e ∧ (s.chan 3).rep.slice = none) ∧
    (let s := (up.setLayer 0 { locked := true }).setChan 3 { rep := { migr := some (1, 2, 3, 32767) } }; s.mayRun 3 = true) ∧
    (let e := candidate 2 1 0 3 5 0 2 9 0 false; let s := { (up.setLayer 0 { locked := true }) with repair := { up.repair with list := [e] } }; s.mayRun 3 = true ∧ s.nextRepair 3 2 = some e ∧
      (s.chan 3).rep.migr = none ∧ (s.chan 3).rep.evac = 0) ∧
    (let arg := natBytes 8 e.toNat; up.obeys .bus (ekey 0x1C00 0x0D) arg = true ∧ rlKind (BitVec.ofNat 64 (bytesNat arg)) = 1 ∧ rlLayer (BitVec.ofNat 64 (bytesNat arg)) = up.home 3 ∧
      up.spareFor e = true) := by
  decide +kernel

theorem witness_evacuation_moves_a_layer :
    (up.obeys .bus kEvacuate [200] = true ∧ layerCount up.variant ≤ 200) ∧
    (up.obeys .bus kEvacuate [2] = true ∧ (up.map.any (fun m => decide (up.home m = 2))) = true ∧ up.repair.evacState ∉ [1, 2, 3, 4] ∧ (up.layer 16).st = 0) ∧
    (let s := { up with repair := { up.repair with evacState := 1, evacSrc := 2, evacDst := 17 } }; s.chanClocked = true ∧ s.homedOn s.repair.evacSrc ≠ []) ∧
    (let s := { (up.setLayer 2 { locked := true }) with repair := { up.repair with evacState := 2, evacSrc := 2, evacDst := 16 } }.setChan 17 { ref := { debt := 2 }, rep := { evac := 1 }, vl := { extSlices := 255, extHops := 13 } };
      s.windowOpens 17 = true ∧ s.repair.evacDst - s.home 17 - (s.chan 17).vl.extHops = 1) ∧
    (let s := { (up.setLayer 2 { locked := true }) with repair := { up.repair with evacState := 3, evacSrc := 2, evacDst := 16 } }.setChan 17 { rep := { evac := 2, copyAt := 7 }, mem := { rmap := [(5, true)] } };
      s.evacRuns = true ∧ s.mayRun 17 = true ∧ (s.chan 17).nextCopy = some 5120) ∧
    (let s := { (up.setLayer 2 { locked := true }) with repair := { up.repair with evacState := 3, evacSrc := 2, evacDst := 16 } }.setChan 17 { rep := { evac := 2, copyAt := 8388608 } };
      s.chanRuns 17 = true ∧ s.layerClocked 17 = true ∧ (s.chan 17).nextCopy = none ∧ s.home 17 = s.repair.evacSrc ∧ 16 ∈ s.homedOn s.repair.evacSrc) ∧
    (let s := { ((up.setLayer 2 { st := 6, locked := true }).setLayer 16 { st := 7, locked := true }).each [16, 18, 19, 20, 21, 22, 23] (fun t m => t.setChan m { st := .retired })
        with repair := { up.repair with evacState := 3, evacSrc := 2, evacDst := 16 } }.setChan 17 { rep := { evac := 2, copyAt := 8388608 } };
      s.evacRuns = true ∧ s.chanRuns 17 = true ∧ s.layerClocked 17 = true ∧ (s.chan 17).nextCopy = none ∧ (s.chan 17).rep.migr = none ∧
      s.homedOn 2 = [17] ∧ s.repair.assign17 = none ∧ (s.layer 16).st ≠ 4 ∧ (s.layer 2).st = 6) := by
  decide +kernel

theorem witness_quick_test_runs_its_phases :
    (let f : QtFound := { chans := [3], links := [5], groups := [2], global := true }; f.wf = true ∧ f.global = true) ∧
    (let f : QtFound := {}; f.wf = true ∧ f.rows = [] ∧ f.metaChans = [] ∧ f.coils = [] ∧ f.global = false) ∧
    ({ up with boot := .qtBase } : State).qt.baseDone = false ∧ up.boot ∉ [.qtRemap, .qtBase, .qtLoopback, .qtSanity] := by
  decide +kernel

theorem witness_sparge_tests_one_row_at_a_time :
    (let s := { (up.setLayer 0 { locked := true }) with therm := { up.therm with zone := 1 } }.rset (ekey 0x4800 0x30) 1; s.spargeRuns 3 = true ∧ (s.chan 3).rep.slice = none ∧ s.deferCauses 3 0 0 ≠ 0) ∧
    (let rails := fun (s : State) => (((s.rset (ekey 0x6000 0x90) 105000).rset (ekey 0x6000 0xA2) 70000).rset (ekey 0x6000 0xB4) 180000).rset (ekey 0x6000 0x84) 120000;
    (let s := rails ((up.setLayer 0 { locked := true }).rset (ekey 0x4800 0x30) 1); s.spargeRuns 3 = true ∧ s.deferCauses 3 0 0 = 0) ∧
    (let s := (rails (up.setLayer 0 { locked := true })).setChan 3 { rep := { slice := some { entry := 2, bank := 4, row := 9 } } }; s.mayRun 3 = true ∧ (s.maintCheck 3 {}).spargeCauses 3 = 0 ∧ ((s.rset (ekey 0x6000 0x84) 0).maintCheck 3 {}).spargeCauses 3 ≠ 0 ∧
      (Instr.spargeEntry 3 [⟨0, 3, 1⟩] [⟨0, 3, 1⟩] {}).wf = true)) ∧
    (let s := (up.setLayer 0 { locked := true }).setChan 3 { rep := { slice := some { entry := 9, bank := 4, row := 9, fail := some ⟨0, 3, 1⟩ } } }; s.mayRun 3 = true) ∧
    ({ up with lc := { up.lc with st := .ret } } : State).obeys .bus (ekey 0x4800 0x10) [] = true := by
  decide +kernel

theorem witness_tap_selects_open_instructions :
    (let s := { up with lc := { up.lc with st := .mfg }, therm := { up.therm with testHeld := true } }; (s.lc.st = .mfg ∨ s.lc.st = .ret) ∧ s.therm.testHeld = true ∧ s.tapOpen 0x90 = true) ∧
    up.lc.st = .field ∧ up.tapOpen 0x02 = false := by
  decide +kernel

theorem witness_sensors_feed_the_groups :
    up.boot ≠ .held ∧ up.power.st ≠ 4 ∧ up.therm.diodeBad.getLsbD 79 = false ∧ isI20 110593 = true ∧
    (let s := { up with clk := { up.clk with resets := [(4, 0)] } }; s.inReset 4 0 = true) ∧
    (let u := { up with therm := { up.therm with sample := mset noSample up.therm.sample 5 61440 } }; up.basesBad = false ∧ 2 ≤ (up.trusted 1).length ∧
      u.sampleStrays 5 61440 = false ∧ u.neighbourFails 1 = false ∧ (up.group 1).count < 3) ∧
    up.obeys .bus (ekey 0x0400 0x12) [19] = true ∧ up.obeys .bus (ekey 0x0400 0x12) [20] = true ∧ (Instr.boardSensorSample 7 (some 20000)).wf = true := by
  decide +kernel

theorem witness_zones_stop_the_stack_and_resume :
    (let s := { up with therm := { up.therm with limit := true, held := true, groups := [(5, { count := 6, recent := [102300, 102300, 102300], window := [102300, 102300, 102300, 102300] })] } };
      let e := s.evaluate 20 (some 102500); e.closed = true ∧ e.hot = false ∧ e.s.targetZone = 2 ∧ e.s.therm.zone = 0 ∧ e.s.therm.limit = true) ∧
    (let s := { up with therm := { up.therm with groups := [(5, { count := 6, recent := [102500, 102500, 102500], window := [102300, 102300, 102300, 102300] })] } };
      let e := s.evaluate 20 (some 102600); e.closed = true ∧ e.hot = false ∧ e.s.targetZone = 3 ∧ e.s.therm.zone = 0 ∧ e.s.therm.limit = false ∧
        0 < (e.s.group e.s.therm.tjFrom).window.headD 0 - (e.s.group e.s.therm.tjFrom).window.getLastD 0 ∧ s.rget (ekey 0x0400 0x11) = 0) ∧
    (let s := { up with therm := { up.therm with zone := 2, step := 4, tj := 99328 } }; s.inReset 4 0 = false ∧ s.therm.trip = false) ∧
    ({ up with therm := { up.therm with stop := 1 } } : State).therm.trip = false ∧
    ({ up with therm := { up.therm with stop := 2 } } : State).obeys .bus (ekey 0x0400 0x10) [] = true ∧ up.obeys .bus (ekey 0x0400 0x10) [] = true := by
  decide +kernel

theorem witness_fans_follow_the_loop :
    (let s := up.rset (ekey 0x0400 0x20) 1; s.mpRuns = true ∧ s.rget (ekey 0x0400 0x20) = 1) ∧ up.rget (ekey 0x0400 0x20) ≠ 1 ∧
    up.boot ≠ .held ∧ up.power.st ≠ 4 ∧ (let s := up.rset (ekey 0x0400 0x2B) 500; s.rget (ekey 0x0400 0x2B) ≠ 0 ∧ 300 ≤ s.fanDuty 0) ∧
    ({ up with dict := { up.dict with mpDown := true } } : State).mpRuns = false := by
  decide +kernel

theorem witness_resets_restart_the_stack :
    up.boot ≠ .held ∧ up.power.pwrwarn = false ∧ up.power.st ≠ 4 ∧ State.reset.boot = .held ∧ State.reset.clk.resetN = false ∧ State.reset.clk.refclkOk = true ∧
    State.reset.therm.tj < celsius 83 ∧
    (let s := { State.reset with clk := { State.reset.clk with resetN := true }, power := { State.reset.power with railLost := some .phy } }; s.power.railLost ≠ none ∧ s.clk.cause ≠ 2) ∧
    (let s := { up with clk := { up.clk with resetN := true } }; s.obeys .bus (ekey 0x0500 0x12) [0xC3, 0xA5] = true ∧ bytesNat [0xC3, 0xA5] = 0xA5C3 ∧ s.power.railLost = none) := by
  decide +kernel

theorem witness_block_resets_hold_one_block :
    up.obeys .bus (ekey 0x0500 0x13) [1, 127] = true ∧ up.retired 127 = false ∧ up.inReset 1 127 = false ∧
    up.obeys .bus (ekey 0x0500 0x13) [6, 0] = true ∧ up.obeys (.link 3 7) (ekey 0x0500 0x13) [5, 0] = false ∧
    (let s := { up with clk := { up.clk with resets := [(5, 0)] }, faults := { up.faults with nmiWait := [8], sticky := 256 } }; s.inReset 5 0 = true) ∧
    (let s := { (up.setChan 3 { st := .blockReset, forced := true }) with clk := { up.clk with resets := [(1, 3)] } }; s.inReset 1 3 = true ∧ (s.chan 3).forced = true) := by
  decide +kernel

theorem witness_power_states_and_supplies :
    up.obeys .bus kPower [5] = true ∧ up.obeys .bus kPower [3] = true ∧ up.boot ∈ [.up, .qtFailed, .jointFailed, .voidStop] ∧
    ({ up with boot := .qtBase } : State).obeys .bus kPower [1] = true ∧
    (let s := { up with therm := { up.therm with stop := 2 } }; s.obeys .bus kPower [1] = true ∧ s.therm.stop ≠ 0) ∧
    (let s := { up with power := { up.power with st := 2, target := 2 } }; s.obeys .bus kPower [0] = true ∧ s.power.st ≠ 0) ∧
    ({ up with power := { up.power with st := 4, target := 4 } } : State).boot ≠ .held ∧
    (let s := (up.setLayer 17 { supply := 2, phases := 1 }); (s.layer 17).supply = 2 ∧ (s.layer 17).phases = 1 ∧ s.power.st ≤ 3) := by
  decide +kernel

theorem witness_controllers_tend_slots_and_clocks :
    up.pmbusRuns = true ∧ up.power.stuck = false ∧ (Instr.pmbusPoll [none, some ⟨1, 2, 3, 4⟩, none, none] 24 {}).wf = true ∧
    (Instr.pmbusAlert (some 3) 65535).wf = true ∧ (Instr.pmbusAlert none 0).wf = true ∧ (Instr.pmbusRecovery none).wf = true ∧
    (let s := { up with power := { up.power with avsMode := some 24, slots := [(0x20, 1)] } }.rset (ekey 0x0300 0x20) 1; s.avsHeldNow = false ∧ s.slotOf 1 ≠ none ∧ s.rget kTarget < 85000 ∧
      70000 < s.rget kTarget) ∧
    (let s := up; s.avsHeldNow = true ∨ s.avsHeldNow = false) ∧ ({ up with power := { up.power with stuck := true } } : State).avsHeldNow = true ∧
    (Instr.clockMonitorWindow [0, 1, -1, 0, 0, 524287] false).wf = true ∧ up.boot ≠ .held ∧ up.pllRuns .chan = true ∧ up.pllRuns .mgmt = true ∧
    ({ up with power := { up.power with st := 3 } } : State).pllRuns .fabric = false ∧ ({ up with clk := { up.clk with holdover := true } } : State).clk.holdover = true := by
  decide +kernel

theorem witness_faults_are_recorded_and_cleared :
    up.boot ≠ .held ∧ up.judges 8 = true ∧ (Instr.stickyWrite .bus 40 false [1] (some (2, 0))).wf = true ∧ up.hears .bus = true ∧ up.judge (sourceKey 40 1) = 0 ∧
    up.judge (sourceKey 40 2) = 0 ∧ isSource 40 = true ∧ isLevel 40 = false ∧ up.judges 40 = true ∧ up.judge (ekey 0x4000 0x82) = 0 ∧ up.judge (ekey 0x4000 0x83) = 0 ∧
    (Instr.reactionWrite (.link 3 1) (some 20) [0x1F]).wf = true ∧ up.judge (sourceKey 20 3) = 0 ∧ up.judge (ekey 0x4000 0x84) = 0 ∧ up.mpRuns = true ∧
    ({ up with power := { up.power with st := 4 } } : State).judges 8 = false ∧ (up.setLink 3 { st := .active }).hears (.link 3 1) = true := by
  decide +kernel

theorem witness_granary_senses_and_programs :
    let p : State := { up with power := { up.power with vprogOk := true } };
    let mfg : State := { p with lc := { p.lc with st := .mfg } };
    (Instr.granarySensingEnd [⟨88, 0xFFFF, 0xFFF0⟩] true).wf = true ∧ ({ up with boot := .sensing } : State).boot = .sensing ∧
    up.obeys .bus (ekey 0x5000 0x08) [] = true ∧ mfg.obeys .bus (ekey 0x5000 0x06) [16, 0, 255, 0, 0, 0] = true ∧ mfg.programRefused 16 255 = 0 ∧ mfg.progOk = true ∧
    up.programRefused 16 255 = 0x0109 ∧ (255#32 &&& ~~~ gword mfg.gran.margin 16) &&& 1 ≠ 0 ∧ mfg.obeys .bus (ekey 0x5000 0x07) [1, 3] = true ∧ mfg.lockRefused 1 = 0 ∧ mfg.lockRefused 3 ≠ 0 ∧
    p.obeys .bus (ekey 0x1C00 0x0E) [] = true ∧ p.hardenRefused = 0 ∧ up.hardenRefused ≠ 0 ∧
    (let s := { p with repair := { p.repair with unhardened := [0x20000004] } }; s.hardenRefused = 0 ∧ s.freeRecords ≠ []) ∧
    (let s := { p with gran := { p.gran with shadow := [(88, 0x0FFF)] } }; s.partialMark = some 0) := by
  decide +kernel

theorem witness_life_cycle_moves_only_forward :
    let p : State := { up with power := { up.power with vprogOk := true } };
    let mfg : State := { p with lc := { p.lc with st := .mfg }, gran := { p.gran with crcChecked := 511 } };
    p.boot ≠ .held ∧ p.boot ≠ .sensing ∧ mfg.obeys .bus (ekey 0x0200 0x05) [] = true ∧ mfg.progOk = true ∧ p.obeys .bus (ekey 0x0200 0x06) [] = true ∧ p.lc.refusals < 4 ∧
    (let s := { p with gran := { p.gran with ident := List.replicate 7 0, shadow := [(90, 0x90860B28), (91, 0x8C840BDB), (92, 0x921F42E0), (93, 0x1A7A06CB), (94, 0x63720213), (95, 0x53656194), (96, 0x6DA6E892), (97, 0xBC40F9E5), (98, 0xAC725ED5), (99, 0xA774D2CC), (100, 0x3E8EAC2B), (101, 0x662D9C41)] }, lc := { p.lc with nonce := 2 } }.rset (ekey 0x0200 0x04)
      0xF89340BD720C2954D3428175DB6BE472934A2DA1D2019FE7C94EC204DF9C8ED3799B301242B493EF905E14A2A3F26173F89340BD720C2954D3428175DB6BE472934A2DA1D2019FE7C94EC204DF9C8ED3799B301242B493EF905E14A2A3F26173C95ED3193F67DE12C8813E2944460AB44453395AAD06F4727F654008661A974AD8967EB62B4B8BE1054E127A84CD9003C10F2D2A0E0F38ED34C89F4C72A6E06F2D311DB5A33156081E7DF75AB77ED1213F889E728CB105013B9468723B89A49D;
      s.authorized = true ∧ s.obeys .bus (ekey 0x0200 0x06) [] = true ∧ s.lc.refusals < 4) ∧ p.authorized = false ∧
    nbit p.gran.policy 4 = false ∧ p.lc.st = .field ∧ p.evacRuns = false ∧ mfg.obeys .bus (ekey 0x0200 0x07) [0x56, 0x4F, 0x49, 0x44] = true ∧ bytesNat [0x56, 0x4F, 0x49, 0x44] = 0x44494F56 := by
  decide +kernel

theorem witness_bus_serves_the_dictionary :
    up.busAnswers = true ∧ up.bus.acc = none ∧ (Instr.dictWrite 4 [1, 2, 3, 4]).wf = true ∧ (Instr.dictRead 3 [0, 2, 1] (some .done) 7).wf = true ∧ up.flag (ekey 0x5800 0x03) = false ∧
    ({ up with power := { up.power with st := 4 } } : State).busAnswers = false ∧
    pecOf ([up.addrByte false, 0x02, 4] ++ [1, 2, 3, 4] ++ [pecOf ([up.addrByte false, 0x02, 4] ++ [1, 2, 3, 4])]) = 0 ∧
    (let s := { up with bus := { up.bus with acc := some { read := false, key := ekey 0x2003 0x03, val := [0x34, 0x12], told := true } } }; s.bus.acc ≠ none ∧
      (s.writeEntry .bus (ekey 0x2003 0x03) [0x34, 0x12] {}).1 = some 0) ∧
    (let s := { up with bus := { up.bus with acc := some { read := true, key := ekey 0x0200 0x01, val := [], told := true } } }; (s.readEntry (ekey 0x0200 0x01)).1 = 0) := by
  decide +kernel

theorem witness_bus_flags_window_and_attention :
    up.busAnswers = true ∧ (Instr.busFlagsWrite [1, 2]).wf = true ∧ (Instr.busFlagsWrite [1, 2, 3, 4]).wf = true ∧ up.flag (ekey 0x5800 0x03) = false ∧
    (up.rset (ekey 0x5800 0x03) 1).flag (ekey 0x5800 0x03) = true ∧ (Instr.windowWrite 255 [1, 2]).wf = true ∧
    ({ up with power := { up.power with st := 4 } } : State).busAnswers = false ∧
    (let s := { up with bus := { up.bus with reasons := 5, retry := true } }.rset (ekey 0x5800 0x04) 1; s.busAnswers = true ∧ s.flag (ekey 0x5800 0x04) = true ∧ s.bus.reasons ≠ 0) := by
  decide +kernel

end Sys2Proof.Machine
end

