-- ==== Sys2Proof/Tests/Slice0.lean ====
section
/-!
SUPPORT. Tests/Slice0: the model's own tests. Ill-formed commands are refused by the check; numbers of the worked examples of the
spec come out of the model; and some commands do on a small state what their rule says. Each test names its source.
-/

set_option Elab.async false

namespace Sys2Proof.Machine

/-! ### The check on commands: one ill-formed term for each test of a field -/

theorem test_wf_dictionary :
    ([.entryWrite (.link 128 0) 0 [], .entryWrite (.link 0 256) 0 [], .entryWrite .bus 16777216 [],
      .entryWrite .bus 0 (List.replicate 256 0), .mgmtRead 128 0 0 0, .mgmtRead 0 256 0 0, .mgmtRead 0 0 16777216 0,
      .mgmtRead 0 0 0 256, .mgmtWrite 128 0 0 0 [], .mgmtWrite 0 256 0 0 [], .mgmtWrite 0 0 16777216 0 [],
      .mgmtWrite 0 0 0 256 [], .mgmtWrite 0 0 0 0 (List.replicate 256 0), .commit (.link 128 0) [],
      .discard .bus (List.replicate 256 0), .commitApplyBlock (.channel 128), .commitApplyBlock (.integrity 128),
      .commitApplyBlock (.link 128)] : List Instr).all (fun i => !i.wf) = true := by decide +kernel

theorem test_wf_links :
    ([.frameReceive 128 0 (List.replicate 116 0), .frameReceive 0 3 (List.replicate 116 0), .frameReceive 0 0 [],
      .frameTransmit 128, .replayTimerExpiry 128, .detectLock 128 0, .detectLock 0 4, .equalizeDone 128, .alignDone 128 0 0 false,
      .alignDone 0 4 0 false, .alignDone 0 0 4 false, .configComplete 128, .trainingLimitExpiry 128, .failedTimeout 128,
      .recoverComplete 128, .recoverTimeout 128, .hostIdleReset 128, .laneSignalLoss 128 0, .laneSignalLoss 0 2,
      .laneSerWindowClose 128 0 0, .txLaneSwitch 128, .linkReset .bus 128 [], .laneWithoutLock 128 0, .laneWithoutLock 0 2,
      .eventSend 128] : List Instr).all (fun i => !i.wf) = true := by decide +kernel

theorem test_wf_requests :
    ([.rd64 128 0 0 0, .rd64 0 512 0 0, .rd64 0 0 256 0, .rd64 0 0 0 1073741824, .rd128 128 0 0 0, .wr64 0 512 0 0 false 0,
      .wrm 0 0 256 0 false 0 0, .fadd32 0 0 0 0 16 0, .fadd32 0 0 0 1073741824 0 0, .swap32 0 0 0 0 16 0, .deq 128 0 0,
      .deq 0 512 0, .deq 0 0 65536, .peek 0 0 65536, .qlen 0 512 0, .enq 128 0 0 1 0 false [{}], .enq 0 512 0 1 0 false [{}],
      .enq 0 0 256 1 0 false [{}], .enq 0 0 0 32768 0 false [], .enq 0 0 0 1 65536 false [{}], .enq 0 0 0 33 0 false [{}]]
      : List Instr).all (fun i => !i.wf) = true := by decide +kernel

theorem test_wf_service :
    ([.channelEntryExecute 128 {}, .channelEntryExecute 0 { look := 9 }, .channelEntryExecute 0 { noise0 := 2 ^ 576 },
      .channelEntryExecute 0 { vNoise := 2 ^ 72 }, .queueCmdPass 128 {}, .enqLink 128 {}, .cacheRefill 8 {}, .cacheSpill 8 {},
      .linkBlockEvict 8 {}, .qflush (.link 128 0) [], .qflushWalkStep { pNoise := 2 ^ 72 }, .poolReset (.link 0 256) [],
      .lsFill .bus (List.replicate 256 0), .urgPinEdge 16, .urgFilterChange 16 true, .urgStuckDetect 16,
      .idleTimerExpiry 128,
      .exitCheckEnd 128 [] [] 0 0, .exitCheckEnd 0 [⟨18, 0⟩] [] 0 0, .exitCheckEnd 0 [] [⟨0, 50⟩] 0 0, .steepWindowStart ⟨128, {}⟩,
      .steepWindowStart ⟨0, { look := 9 }⟩,
      .steepWindowEnd 0 [⟨18, 0⟩] 0, .refreshDueEvent 128, .scheduledRefresh ⟨128, {}⟩, .scheduledRefresh ⟨0, { look := 9 }⟩,
      .refreshRateChange 128, .neighbourRefresh ⟨128, {}⟩, .neighbourRefresh ⟨0, { look := 9 }⟩, .regionFill ⟨128, {}⟩,
      .regionFill ⟨0, { look := 9 }⟩, .rakeStep 128 [] {}, .rakeStep 0 [2 ^ 576] {}, .rakeStep 0 (List.replicate 17 0) {},
      .rakePassClose 128 0 [], .rakePassClose 0 0 [(16, 0)], .rakePassClose 0 0 [(0, 32768)], .rawWrite (.link 128 0) [],
      .rawRead (.link 128 0) [], .injCtrlWrite .bus 7 []] : List Instr).all (fun i => !i.wf) = true := by decide +kernel

theorem test_wf_repair :
    ([.jointWordFail 512 1 false, .jointWordFail 0 0 false, .layerFreqWindowClose 18 0, .layerFreqWindowClose 0 524288,
      .layerLossOfLock 18, .relockAttemptEnd 18 true 0, .coilSerWindowClose 128 [], .coilSerWindowClose 0 (List.replicate 37 0),
      .substitutionWindow ⟨128, {}⟩ ⟨[], 0⟩, .substitutionWindow ⟨0, {}⟩ ⟨[⟨0, 50⟩], 0⟩, .hopTraining 18 [] true, .hopTraining 0 [(128, ⟨0, 0⟩)] true, .endToEndCheck [(0, ⟨0, 50⟩)] 0,
      .extensionSlice ⟨128, {}⟩ ⟨[], true⟩, .extensionSlice ⟨0, {}⟩ ⟨[⟨0, 50⟩], true⟩, .rowRepair ⟨128, {}⟩ [], .rowRepair ⟨0, {}⟩ [2 ^ 576],
      .migrationStep ⟨128, {}⟩ [], .migrationStep ⟨0, {}⟩ (List.replicate 17 0), .repairRequest (.link 128 0) [], .harden (.link 128 0) [] {},
      .evacuate (.link 128 0) [], .evacCopyStep ⟨128, {}⟩ [], .evacCopyStep ⟨0, { look := 9 }⟩ [], .evacChannelSwitch 128, .quickTestPhaseEnd { chans := [128] },
      .quickTestEnd { groups := [32] } 0, .tapUpdateIr 256, .tapWrapper 2 0, .tapLayer 18 0, .tapVendor 256,
      .testHold (.link 128 0) [], .spargeSliceDue 128 (), .spargeEntry 128 [] [] {}, .spargeEntry 0 [⟨16, 0, 0⟩] [] {},
      .spargeEntry 0 [] [⟨0, 72, 0⟩] {}] : List Instr).all (fun i => !i.wf) = true := by decide +kernel

theorem test_wf_environment :
    ([.converterMinorCycle 2 (), .sensorSample 80 none 0,
      .sensorSample 0 (some 524288) 0, .resume (.link 128 0) [], .sensingFailure (some 2), .groupClear (.link 128 0) [],
      .fanSpeedUpdate 2 0, .fanFailDetect 2 false, .boardSensorSample 8 none, .boardSensorSample 0 (some (2 ^ 32)), .layerSupplyFault 18, .vddRepPhaseLoss 18,
      .pmbusPoll [] 0 {}, .pmbusPoll [none, none, none, none] 256 {}, .pmbusAlert (some 4) 0, .pmbusAlert none 65536,
      .avsAdjust 2 true, .pmbusRecovery (some 0), .powerStateReq (.link 128 0) [], .resetNRelease 8, .chipReset (.link 128 0) [],
      .blockReset (.link 128 0) [], .cdcResync (.link 128), .cdcResync (.channel 128), .clockMonitorWindow [] true,
      .clockMonitorWindow [0, 0, 0, 0, 0, 524288] true] : List Instr).all (fun i => !i.wf) = true := by decide +kernel

theorem test_wf_management :
    ([.wireFault 128 true, .stickyWrite .bus 128 false [] none, .stickyWrite .bus 0 false [] (some (6, 0)),
      .stickyClear (.link 128 0) false [], .reactionWrite .bus (some 128) [], .granarySensingEnd [⟨1024, 0, 0⟩] true,
      .granResense .bus [] [⟨1024, 0, 0⟩], .granProgram (.link 128 0) [] {}, .granLock (.link 128 0) [] {},
      .lcToField (.link 128 0) [] {}, .lcReturn (.link 128 0) [] 0 {}, .lcVoid (.link 128 0) [] {}, .dictRead 256 [] none 0,
      .dictRead 0 [] none 101, .dictRead 0 (List.replicate 258 0) none 0, .dictWrite 256 [], .busFlagsWrite (List.replicate 258 0),
      .windowWrite 256 [], .windowWrite 0 (List.replicate 256 0), .windowRead 256 0, .windowRead 0 256, .mbUndefinedCommand 256,
      .blockResetEnd 6 0, .blockResetEnd 0 128] : List Instr).all (fun i => !i.wf) = true := by decide +kernel

/-- A command that is not well formed is no event of the stack: it faults and does nothing. -/
theorem test_ill_formed_faults : exec (.rd64 128 0 0 0) up = .fault .badOperand :=
  exec_badOperand _ _ (by decide)

/-! ### Worked examples: addresses -/

/-- The address example (Table 6 of chapter 5): C88, bank 13, row 0x4923, column 5. -/
theorem test_decode_128 :
    decodeAddr (List.range 128) 0x2491A2B3 = some (88, 0x492345) ∧ bankOf 0x492345 = 13 ∧ rowOf 0x492345 = 0x4923 ∧
    colOf 0x492345 = 5 ∧ regionOf 0x492345 = 0x1248 ∧ eighthOf 0x492345 = 4 := by decide +kernel

/-- The same address with C90 retired (Table 7 of chapter 5): C98, bank 7, row 0x49B6, column 2. -/
theorem test_decode_127 :
    let map := (List.range 128).filter (fun m => decide (m ≠ 90))
    decodeAddr map 0x2491A2B3 = some (98, 0x49B6B2) ∧ bankOf 0x49B6B2 = 7 ∧ rowOf 0x49B6B2 = 0x49B6 ∧ colOf 0x49B6B2 = 2 := by
  decide +kernel

/-- The location of the same example turned back (R129). -/
theorem test_encode_127 :
    encodeAddr ((List.range 128).filter (fun m => decide (m ≠ 90))) 98 7 0x49B6 2 = some 0x2491A2B3 := by decide +kernel

/-- The block of the poison example (chapter 9): C12, bank 4, row 0x12, column 4, region 4. -/
theorem test_decode_poison_example :
    decodeAddr (List.range 128) 0x91A7C = some (12, 0x1234) ∧ bankOf 0x1234 = 4 ∧ rowOf 0x1234 = 0x12 ∧ colOf 0x1234 = 4 ∧
    regionOf 0x1234 = 4 := by decide +kernel

/-! ### Worked examples: messages -/

/-- The request slots of Table 13 of chapter 4 and of the poison example there. -/
theorem test_request_slots :
    (requestFlits (.rd64 9 5 0x2A 0x123456)).map (fun x => x.2.map Flit.s0) = some [0x1002950000123456] ∧
    (requestFlits (.wrm 9 6 0x2A 0x123457 false 0xFF00 0)).map (fun x => (x.2.headD {}).s0) = some 0x1303150000123457 ∧
    (requestFlits (.rd128 9 7 0x2A 0x40000)).map (fun x => (x.2.headD {}).s0) = some 0x1103950000040000 ∧
    (requestFlits (.wr64 9 9 0x2A 0x77001 true 0)).map (fun x => (x.2.headD {}).s0) = some 0x1204954000077001 := by decide +kernel

/-- The message of Table 13 of chapter 4: two requests, three flits. -/
theorem test_request_message_parsed :
    let f : Flit := { s0 := 0x1002950000123456, s1 := 0x1303150000123457, s2 := 0xFF00 }
    parseReqs (Flit.slots f) = some [{ head := 0x1002950000123456 }, { head := 0x1303150000123457, second := 0xFF00 }] ∧
    messageFlits f = some 3 := by decide +kernel

/-- The ENQ header of Table 7 of chapter 10. -/
theorem test_enq_header :
    (requestFlits (.enq 0 0x11 7 1500 19 false [])).map (fun x => (x.2.headD {}).s0) = some 0x40088385DC000013 := by decide +kernel

/-- The completion slots of Table 14 of chapter 4 and of the poison example there. -/
theorem test_completion_slots :
    rspHead { tag := 6, opc := 0x92 } = 0x9203000000000000 ∧ rspHead { tag := 5, opc := 0x90 } = 0x9002800000000000 ∧
    rspHead { tag := 7, opc := 0x91, status := 1, flitPsn := 12 } = 0x91038E0000000000 := by decide +kernel

/-- The WRITE_RSP of the staging example (chapter 2), and the EVENT of Table 8 of chapter 17. -/
theorem test_mgmt_messages :
    (mgmtMessage 0x82 7 (ekey 0x2005 3) 0 []).map Flit.s0 = [0x8207032005000000] ∧
    (eventMessage 8).map Flit.s0 = [0x0300000000000008] := by decide +kernel

/-- The WRITE of the staging example: two bytes after an eight-byte header make one flit. -/
theorem test_mgmt_length : messageFlits { s0 := 0x0207032005020000 } = some 1 := by decide +kernel

/-- The PECs of Tables 9 and 10 of chapter 20. -/
theorem test_pec :
    pecOf [0xB4, 0x02, 0x05, 0x05, 0x20, 0x03, 0xDC, 0x05] = 0x5D ∧ pecOf [0xB4, 0x03, 0xB5, 0x04, 0x00, 0x2E, 0x00, 0x00] = 0xE8 := by
  decide +kernel

/-! ### Worked examples: numbers -/

/-- The D of the reference setting (chapter 6): 3,889.4 GB/s, and the shortfall example's 3,768.5 at twice the refresh. -/
theorem test_deliverable :
    up.deliverable .throughput = 0x97EE ∧ (up.rset (ekey 0x1400 0x30) 2).deliverable .throughput = 0x9335 := by decide +kernel

/-- The pool of the sizing example (chapter 10): its length, and the places of a cell and of its link entry. -/
theorem test_pool_places :
    let s := (up.rset (ekey 0x3000 0x22) 0x38000000).rset (ekey 0x3000 0x23) 0x200000
    poolBlocks .axd6400 0x200000 = 0x4300000 ∧ s.subPool 3 = 0x39920000 ∧ s.cellBlock 3 0x12345 0 = 0x39968D14 ∧
    s.linkBlock 3 0x12345 = 0x3A122468 ∧ linkEntry 0x612346 true false 7 1500 = 0x061234680705DC00 := by decide +kernel

/-- The two drop decisions of Table 7 of chapter 10. -/
theorem test_enq_fate :
    let s := ((((up.rset (ekey 0x3000 0x21) 1).rset (ekey 0x3000 0x22) 0x38000000).rset (ekey 0x3000 0x23) 0x200000).rset
      (ekey 0x3000 0x52) 524288).rset (ekey 0x3000 0x62) 2
    let s := (s.setQueue 19 { cells := 374990 }).setSlice 3 { linked := 597152 }
    let s : State := { s with qe := { s.qe with limitAct := [(19, 2)] } }
    s.freeCells 3 = 1500000 ∧ s.enqFate 19 9000 = some 7 ∧ s.enqFate 19 1500 = none := by decide +kernel

/-- The record of the Granary example (chapter 18): word 0x2552A840 is a row record of L5, slot 2, bank 9, row 0x2A10. -/
theorem test_repair_record :
    recordPlace 1 5 2 9 + 0x2A10 * 4 = 0x2552A840 ∧ recordType 0x2552A840 = 1 ∧ recordLayer 0x2552A840 = 5 ∧
    recordSlot 0x2552A840 = 2 := by decide +kernel

/-! ### The codes -/

/-- An encoded block is a codeword, decodes clean, one symbol in error is corrected, and four are not in CORR3 (R202, R207). -/
theorem test_block_code :
    let w := encodeBlock 0x0123456789ABCDEF
    isCodeword w = true ∧ decodeBlock 0 0 none w 0 = .clean 0x0123456789ABCDEF ∧
    decodeBlock 0 0 none w 0xFF = .corrected 0x0123456789ABCDEF 1 ∧
    decodeBlock 0 1 none w 0x01010101 = .corrected 0x0123456789ABCDEF 4 ∧
    decodeBlock 0 0 none w 0x01010101 = .failed ((w ^^^ 0x01010101) % 2 ^ 512) := by decide +kernel

/-- Metadata: one bit is corrected, two are not (R209). -/
theorem test_meta_code :
    decodeMeta 0 0x55 0 = .clean 0x55 ∧ decodeMeta 0 0x55 1 = .corrected 0x55 ∧ decodeMeta 0 0x55 3 = .failed := by decide +kernel

/-! ### Commands on a small state -/

/-- A stack in which C12 has one entry of link 9 to execute, with a memory of its own. -/
def c12 (req : Held) (mem : ChanMem) : State :=
  (((up.setLayer 1 { locked := true }).setChan 12 { queue := [{ port := 9, req := req, h := 0x1234 }], mem := mem }).setLink 9
    { st := .active, resp := [{ tag := req.tag, opc := rspOf req.opc, chans := [12], need := 1, cls := some 0 }] })

/-- What a test looks at in the next state. -/
def look {α : Type} (f : State → α) : Host.Outcome State Fault Refusal → Option α
  | .next s => some (f s)
  | _ => none

/-- The completion at the front of link 9: status, FLIT_PSN, and what it still waits for. -/
def answer9 (s : State) : Option (Nat × Nat × Nat) := (s.link 9).resp.head?.map (fun r => (r.status, r.flitPsn, r.need))

/-- The memory of C12 with its block 0x1234 written; `poison` is its poison bit. -/
def written (d : Nat) (poison : Bool) : ChanMem :=
  { rmap := [(4, true)], valid := [(72, 2 ^ 52)], poison := if poison then [(72, 2 ^ 52)] else [], arr := [(0x1234, encodeBlock d)] }

/-- Step 1 of Table 11 of chapter 9: a read in an unwritten region gives OK and counts ZERO_READS. -/
theorem test_read_unwritten :
    look (fun s => (answer9 s, s.rget (chanKey 12 0x64))) (exec (.channelEntryExecute 12 {}) (c12 { tag := 5, opc := 0x10, cls := 0, block := 0x91A7C } {})) =
      some (some (0, 0, 0), 1) := by decide +kernel

/-- Step 2: a WRM in an unwritten region merges with zeros, sets the region bit and the valid bit. -/
theorem test_wrm_unwritten :
    look (fun s => (answer9 s, mget false (s.chan 12).mem.rmap 4, mget 0 (s.chan 12).mem.valid 72))
      (exec (.channelEntryExecute 12 {}) (c12 { tag := 5, opc := 0x13, cls := 0, block := 0x91A7C, mask := 0xFF, data := 7 } {})) =
      some (some (0, 0, 0), true, 2 ^ 52) := by decide +kernel

/-- Step 5: four symbols in error in CORR3 poison the block; the read is answered POISON with both flits marked, and UE_LAST and
ECC_UE record it. -/
theorem test_read_uncorrectable :
    look (fun s => (answer9 s, mget 0 (s.chan 12).mem.poison 72, s.rget (chanKey 12 0xAE)))
      (exec (.channelEntryExecute 12 { noise0 := 0x01010101 * 2 ^ 512 }) (c12 { tag := 5, opc := 0x10, cls := 0, block := 0x91A7C } (written 7 false))) =
      some (some (1, 3, 0), 2 ^ 52, 0x80001234) := by decide +kernel

/-- Step 7: a WRM on a poisoned block keeps the poison and says so. -/
theorem test_wrm_poisoned :
    look (fun s => (answer9 s, mget 0 (s.chan 12).mem.poison 72))
      (exec (.channelEntryExecute 12 {}) (c12 { tag := 5, opc := 0x13, cls := 0, block := 0x91A7C, mask := 0xFF00, data := 0 } (written 7 true))) =
      some (some (2, 0, 0), 2 ^ 52) := by decide +kernel

/-- Step 8: a WR64 of the whole block with PSN 0 clears the poison. -/
theorem test_wr64_clears_poison :
    look (fun s => (answer9 s, mget 0 (s.chan 12).mem.poison 72))
      (exec (.channelEntryExecute 12 {}) (c12 { tag := 5, opc := 0x12, cls := 0, block := 0x91A7C, data := 9 } (written 7 true))) =
      some (some (0, 0, 0), 0) := by decide +kernel

/-- FADD32 adds modulo 2^32 and returns the old word (R111). -/
theorem test_fadd32_wraps :
    look (fun s => ((s.link 9).resp.head?.map Resp.value, mget 0 (s.chan 12).mem.arr 0x1234 % 2 ^ 64))
      (exec (.channelEntryExecute 12 {}) (c12 { tag := 5, opc := 0x14, cls := 0, block := 0x91A7C, word := 1, operand := 2 } (written 0xFFFFFFFF00000007 false))) =
      some (some 0xFFFFFFFF, 0x0000000100000007) := by decide +kernel

/-- The bus write of Table 9 of chapter 20 is accepted: ACC_SEQ advances and the access is pending. -/
theorem test_dict_write :
    look (fun s => s.bus.acc.isSome) (exec (.dictWrite 5 [0x05, 0x20, 0x03, 0xDC, 0x05, 0x5D]) { up with clk := { up.clk with maddr := 2 } }) = some true := by decide +kernel

/-- The commit of the example of chapter 6: a guarantee that does not fit is OVERSUBSCRIBED with the entry that decides. -/
theorem test_commit_oversubscribed :
    let s := ((up.rset (classKey 5 1) 0).rset (classKey 5 3) 39000)
    look (fun s => (s.dict.lastCommit, s.dict.lastRefused, s.dict.commitSeq)) (exec (.commit .bus [0xFF, 0xFF, 0xFF, 0xFF]) s) =
      some (0x0200, 0x200503, up.dict.commitSeq) := by decide +kernel

/-- Reset: the queue is empty and the stack has not booted; a step idles. -/
theorem test_reset_idles : step State.reset = .next State.reset := rfl

end Sys2Proof.Machine
end

section
/-!
PROOFS. Slice0/Scope: a block that reaches its quiet boundary applies its part of the running commit (R46, R47), and a write of a
staged entry changes its staging copy and STAGE_GEN (R6, R37).
-/

namespace Sys2Proof.Machine

/-! ### Storing a list of registers -/

section
variable {α : Type} (f g : α → Nat)

/-- Registers stored one after another change nothing but the registers. -/
theorem State.foldl_rset_eq (s : State) (es : List α) :
    es.foldl (fun t e => t.rset (f e) (g e)) s =
      { s with regs := (es.foldl (fun t e => t.rset (f e) (g e)) s).regs } := by
  induction es generalizing s with
  | nil => rfl
  | cons e es ih => exact ih (s.rset (f e) (g e))

/-- A register keeps a value that every store to it stores. -/
theorem State.rget_foldl_rset_keeps (s : State) (es : List α) (j v : Nat) (h : ∀ e ∈ es, f e = j → g e = v)
    (hs : s.rget j = v) : (es.foldl (fun t e => t.rset (f e) (g e)) s).rget j = v := by
  induction es generalizing s with
  | nil => exact hs
  | cons e es ih =>
    obtain ⟨he, hes⟩ := List.forall_mem_cons.mp h
    refine ih _ hes ?_
    rw [State.rget_rset]
    split
    · next hj => exact he hj.symm
    · exact hs

theorem State.rget_foldl_rset_other (s : State) (es : List α) (j : Nat) (h : ∀ e ∈ es, f e ≠ j) :
    (es.foldl (fun t e => t.rset (f e) (g e)) s).rget j = s.rget j :=
  State.rget_foldl_rset_keeps f g s es j _ (fun e he hj => absurd hj (h e he)) rfl

/-- A register that is stored reads as what was stored, where all the stores to it agree. -/
theorem State.rget_foldl_rset_mem (s : State) (es : List α) {e : α} (he : e ∈ es)
    (h : ∀ e' ∈ es, f e' = f e → g e' = g e) : (es.foldl (fun t e => t.rset (f e) (g e)) s).rget (f e) = g e := by
  induction es generalizing s with
  | nil => cases he
  | cons a es ih =>
    have hes := (List.forall_mem_cons.mp h).2
    rcases List.mem_cons.mp he with rfl | he
    · exact State.rget_foldl_rset_keeps f g _ es _ _ hes (by rw [State.rget_rset, if_pos rfl])
    · exact ih _ he hes

end

/-! ### The swap of a block's tables (R46) -/

/-- An entry shows its new value when a block applies: the block holds it, and none of its blocks is left. -/
theorem State.mem_swapSet (s : State) (set : List (Nat × Nat)) (b : Block) (left : List Block) (e : Nat × Nat) :
    e ∈ set.filter (fun e => (s.owners e.1).contains b && (s.owners e.1).all (fun o => !left.contains o)) ↔
      e ∈ set ∧ b ∈ s.owners e.1 ∧ ∀ o ∈ s.owners e.1, o ∉ left := by
  simp [List.mem_filter]

/-- The swap changes nothing but the registers. -/
theorem State.swapTables_eq (s : State) (c : CommitRun) (b : Block) (left : List Block) :
    s.swapTables c b left = { s with regs := (s.swapTables c b left).regs } :=
  State.foldl_rset_eq _ _ s _

/-- The commit `c` after block `b`. -/
def CommitRun.without (c : CommitRun) (b : Block) : CommitRun := { c with left := c.left.filter (fun x => decide (x ≠ b)) }

/-- The state in which a block has its new tables, and has not acted on them yet. -/
def State.swapped (s : State) (c : CommitRun) (b : Block) : State :=
  State.swapTables { s with dict := { s.dict with commit := some (c.without b) } } c b (c.without b).left

theorem State.rget_swapped_applied (s : State) (c : CommitRun) (b : Block) (e : Nat × Nat) (he : e ∈ c.set) (hb : b ∈ s.owners e.1)
    (hl : ∀ o ∈ s.owners e.1, o ∉ (c.without b).left)
    (hu : ∀ e' ∈ c.set, (actKey e'.1).getD e'.1 = (actKey e.1).getD e.1 → e' = e) :
    (s.swapped c b).rget ((actKey e.1).getD e.1) = e.2 :=
  State.rget_foldl_rset_mem (fun e : Nat × Nat => (actKey e.1).getD e.1) Prod.snd _ _
    ((s.mem_swapSet c.set b _ e).mpr ⟨he, hb, hl⟩)
    (fun e' he' hk => congrArg Prod.snd (hu e' (List.mem_of_mem_filter he') hk))

theorem State.rget_swapped_other (s : State) (c : CommitRun) (b : Block) (j : Nat)
    (h : ∀ e ∈ c.set, b ∈ s.owners e.1 → (∀ o ∈ s.owners e.1, o ∉ (c.without b).left) → (actKey e.1).getD e.1 ≠ j) :
    (s.swapped c b).rget j = s.rget j := by
  refine State.rget_foldl_rset_other (fun e : Nat × Nat => (actKey e.1).getD e.1) Prod.snd _ _ j (fun e he => ?_)
  obtain ⟨hset, hb, hl⟩ := (s.mem_swapSet c.set b _ e).mp he
  exact h e hset hb hl

/-! ### The quiet boundary of a block (R46, R47) -/

/-- Nothing keeps a block from applying: only a channel waits, for its next refresh command, where it issues any. -/
def State.atBoundary (s : State) (b : Block) : Prop :=
  ∀ m, b = .channel m → s.quietBlock b = true ∨ s.chanRefreshes m = true

theorem State.applyBlock_atBoundary (s : State) (b : Block) (hb : b ≠ .stack) (h : s.atBoundary b) :
    s.applyBlock b = s.blockApplied b := by
  cases b with
  | stack => exact absurd rfl hb
  | channel m => simp only [State.applyBlock, Bool.or_eq_true, if_pos (h m rfl)]
  | regulator | queueEngine | integrity _ | link _ | addressMap => rfl

theorem State.applyBlock_waits (s : State) (b : Block) (h : ¬ s.atBoundary b) : s.applyBlock b = s := by
  obtain ⟨m, rfl, hm⟩ : ∃ m, b = .channel m ∧ ¬ (s.quietBlock b = true ∨ s.chanRefreshes m = true) := by
    simpa only [State.atBoundary, not_forall, exists_prop] using h
  simp only [State.applyBlock, Bool.or_eq_true, if_neg hm]

theorem State.blockApplied_not_left (s : State) (b : Block) (c : CommitRun) (hc : s.dict.commit = some c) (h : b ∉ c.left) :
    s.blockApplied b = s := by
  simp [State.blockApplied, hc, h]

/-- A block that has nothing to apply, or waits for its refresh command, changes nothing. -/
theorem State.applyBlock_idle (s : State) (b : Block) (c : CommitRun) (hb : b ≠ .stack) (hc : s.dict.commit = some c)
    (h : b ∉ c.left ∨ ¬ s.atBoundary b) : s.applyBlock b = s := by
  by_cases hq : s.atBoundary b
  · rw [s.applyBlock_atBoundary b hb hq, s.blockApplied_not_left b c hc (h.resolve_right (not_not_intro hq))]
  · exact s.applyBlock_waits b hq

theorem State.blockApplied_left (s : State) (b : Block) (c : CommitRun) (hc : s.dict.commit = some c) (h : b ∈ c.left) :
    s.blockApplied b =
      if (c.without b).left = [] then (((s.swapped c b).afterSwap s c b).unstageDown).commitDone (c.without b)
      else ((s.swapped c b).afterSwap s c b).unstageDown := by
  simp only [State.blockApplied, hc, List.contains_iff_mem, h, if_true]
  rfl

/-- Settles O19: the registers that the swap leaves are those of `State.swapped`. -/
theorem commitBlockApplies : Obligations.CommitBlockApplies := by
  intro s b c hwf hb hc
  have hexec : exec (.commitApplyBlock b) s = .next (s.applyBlock b).settle := if_pos hwf
  refine ⟨fun h => ?_, fun hleft hquiet => ⟨(s.swapped c b).regs, ?_, ?_, ?_⟩⟩
  · rw [hexec, s.applyBlock_idle b c hb hc h]
  · rw [hexec, s.applyBlock_atBoundary b hb hquiet, s.blockApplied_left b c hc hleft, State.swapped, State.swapTables_eq, ite_not]
    rfl
  · exact s.rget_swapped_applied c b
  · exact s.rget_swapped_other c b

/-! ### A write of a staged entry (R6, R37) -/

/-- The values that an entry defines are not changed by taking a write. -/
@[simp] theorem State.valueOk_asks (s : State) (m : Master) (k j : Nat) (val : List Byte) (r : EntryRow) (v : Nat) :
    (s.asks m k val).valueOk j r v = s.valueOk j r v := by
  simp only [State.valueOk, State.asks_variant, State.rget_asks]

/-- A valid write of a staged entry, the windowed queue limit apart, stores the staging copy and counts STAGE_GEN. -/
theorem State.putStaged_entry (s : State) (k v : Nat) (h : k ≠ ekey 0x3100 0x02) :
    s.putStaged k v = { s.rset k v with dict := { s.dict with stageGen := s.dict.stageGen + 1 } } := by
  simp only [State.putStaged, if_neg h]
  rfl

theorem State.calm_putStaged (s : State) (k v : Nat) (h : k ≠ kHardenAuto) : (s.putStaged k v).calm = s.calm := by
  unfold State.putStaged
  split
  · rfl
  · exact s.calm_rset k v h

/-- A write of a staged entry that its checks let through is answered with OK. -/
theorem State.writeValue_staged (s : State) (k : Nat) (r : EntryRow) (val : List Byte) (env : AccEnv) (hr : r.right = .rws)
    (hlen : val.length = r.len) (hty : typeOk r.ty (bytesNat val) = true) (hok : s.valueOk k r (maskOf r (bytesNat val)) = true) :
    s.writeValue k r val env = (0, s.putStaged k (maskOf r (bytesNat val))) := by
  simp [State.writeValue, hr, hlen, hty, hok]

/-- MGMT_WRITE with its own length is the write of the link's master. -/
theorem exec_write_eq (s : State) (m : Master) (k : Nat) (val : List Byte) (i : Instr) (hm : m.wf = true) (hk : k < 16777216)
    (hv : val.length ≤ 240) (hi : i = .entryWrite m k val ∨ ∃ n t, m = .link n t ∧ i = .mgmtWrite n t k val.length val) :
    exec i s = .next (s.writeBy m k val {}).settle := by
  have hkey : isKey k = true := decide_eq_true hk
  have hval : isVal val = true := decide_eq_true (by omega)
  rcases hi with rfl | ⟨n, t, rfl, rfl⟩
  · exact if_pos (by simp [Instr.wf, hm, hkey, hval])
  · have hlen : val.length < 256 := by omega
    have hwf : isLink n = true ∧ t < 256 := by simpa [Master.wf] using hm
    exact if_pos (by simp [Instr.wf, hwf, hkey, hval, hlen])

/-- Settles O11: the write is answered at once, and leaves the stack quiet. -/
theorem stagedWriteCountsGeneration : Obligations.StagedWriteCountsGeneration := by
  intro s m k r val i hm hk hv hcalm hhears hjudge hrow hrws hcmd hlimit hharden hlen hty hok hi
  obtain ⟨t, ht⟩ : ∃ t, t = (s.asks m k val).putStaged k (maskOf r (bytesNat val)) := ⟨_, rfl⟩
  have hwrite : (s.asks m k val).writeEntry m k val {} = (some 0, t) := by
    rw [State.writeEntry_value _ m k r val {} (by simpa using State.judgeWrite_zero hjudge) hrow hcmd,
      State.writeValue_staged _ k r val {} hrws hlen hty (by simpa using hok), ht]
  have hquiet : (t.tells s.dict.mpDown m k 0).calm = true := by
    rw [State.calm_tells, ht, State.calm_putStaged _ _ _ hharden, State.calm_asks, hcalm]
  rw [exec_write_eq s m k val i hm hk hv hi, s.writeBy_told t m k 0 val {} hhears hv hwrite, State.settle_calm _ hquiet, ht,
    State.putStaged_entry _ _ _ hlimit]
  rfl

end Sys2Proof.Machine
end

section
/-!
PROOFS. Slice0/Architecture: DISCARD restores staging (R15, R44), a waiting profile comes in force once the stack has drained
(R26, R27), and an idle time of 0 keeps a channel out of automatic self-refresh (R23).
-/

namespace Sys2Proof.Machine

/-! ### An idle time of 0 (R23) -/

/-- The limit of ECONOMY leaves an idle time of 0 as it is. -/
theorem State.idleTime_zero (s : State) (m : Nat) (h : s.blockSetting (.channel m) (chanKey m 0x01) (chanKey m 0x21) = 0) :
    s.idleTime m = 0 := by
  rw [State.idleTime, h]
  exact ite_self 0

theorem State.idleExpiry_disabled (s : State) (m : Nat) (h : s.idleTime m = 0) : s.idleExpiry m = s := by
  simp [State.idleExpiry, h]

/-- Settles O40: the limit of ECONOMY on the idle time leaves 0 as it is, and at 0 no entry starts. -/
theorem idleTimeZeroDisablesSelfRefresh : Obligations.IdleTimeZeroDisablesSelfRefresh := by
  intro s m p hm u hidle
  have hwf : (Instr.idleTimerExpiry m).wf = true := decide_eq_true hm
  have hexec : exec (.idleTimerExpiry m) u = .next (u.idleExpiry m).settle := if_pos hwf
  rw [hexec, u.idleExpiry_disabled m (u.idleTime_zero m hidle)]

/-! ### Granting what a drain has withheld (R26) -/

/-- A link once a drain is over: it gets the credits that it was owed, or waits for its training. -/
def Link.afterDrain (l : Link) : Link := if l.st ≠ .recover ∧ l.st ≠ .idle then l.grantOwed else l

theorem State.grantLink_eq (s : State) (n : Nat) : s.grantLink n = { s with links := (s.grantLink n).links } := by
  unfold State.grantLink
  split <;> rfl

theorem State.link_grantLink (s : State) (n k : Nat) (hd : s.dict.draining = false) :
    (s.grantLink n).link k = if k = n then (s.link n).afterDrain else s.link k := by
  by_cases hst : (s.link n).st ≠ .recover ∧ (s.link n).st ≠ .idle
  · have hwaits : ¬ (s.dict.draining ∨ (s.link n).st = .recover ∨ (s.link n).st = .idle) := by simp [hd, hst]
    rw [State.grantLink, if_neg hwaits, State.link_modLink, Link.afterDrain, if_pos hst]
  · have hwaits : s.dict.draining ∨ (s.link n).st = .recover ∨ (s.link n).st = .idle := by
      rw [← not_or, not_not] at hst
      exact .inr hst
    rw [State.grantLink, if_pos hwaits, Link.afterDrain, if_neg hst]
    split
    · next hk => rw [hk]
    · rfl

/-- Granting link after link changes each of them once, and nothing else. -/
theorem State.each_grantLink (s : State) (hd : s.dict.draining = false) (count : Nat) :
    s.each (List.range count) State.grantLink = { s with links := (s.each (List.range count) State.grantLink).links } ∧
      ∀ n, (s.each (List.range count) State.grantLink).link n = if n < count then (s.link n).afterDrain else s.link n := by
  induction count with
  | zero => exact ⟨rfl, fun n => rfl⟩
  | succ count ih =>
    have hstep : s.each (List.range (count + 1)) State.grantLink =
        (s.each (List.range count) State.grantLink).grantLink count := by
      simp [State.each, List.range_succ]
    generalize s.each (List.range count) State.grantLink = t at ih hstep
    obtain ⟨hframe, hlinks⟩ := ih
    have hdt : t.dict.draining = false := by rw [hframe]; exact hd
    rw [hstep]
    refine ⟨?_, fun n => ?_⟩
    · rw [t.grantLink_eq count, hframe]
    · rw [t.link_grantLink count n hdt, hlinks n, hlinks count, if_neg (Nat.lt_irrefl count)]
      by_cases hn : n = count
      · simp [hn]
      · have hlt : n < count + 1 ↔ n < count := by omega
        simp only [if_neg hn, hlt]

/-! ### The change of profile (R26, R27) -/

theorem State.blockApplied_noCommit (s : State) (b : Block) (hc : s.dict.commit = none) : s.blockApplied b = s := by
  simp only [State.blockApplied, hc]

/-- The state with the committed profile in force, before credits are granted again. -/
def State.profileInForce (s : State) : State :=
  { s with profile := profileOf (s.rget (kProfile + 1)), dict := { s.dict with profileWait := false } }

/-- Where ECONOMY is neither left nor entered, the lanes stay as they are and no link retrains. -/
theorem State.switchProfile_sameLanes (s : State) (h : s.profile = .economy ↔ profileOf (s.rget (kProfile + 1)) = .economy) :
    s.switchProfile = s.profileInForce := by
  have hlanes : ¬ (s.profile ≠ profileOf (s.rget (kProfile + 1)) ∧
      (s.profile = .economy ∨ profileOf (s.rget (kProfile + 1)) = .economy)) := by
    rintro ⟨hne, hold | hnew⟩
    · exact hne (hold.trans (h.mp hold).symm)
    · exact hne ((h.mpr hnew).trans hnew.symm)
  exact if_neg hlanes

theorem State.endDrain_undrain (s : State) (h : s.profileDue = false) : s.endDrain = s.undrain := by
  simp [State.endDrain, h]

/-- A profile that waits in P0 comes in force when the stack has drained, and the drain ends. -/
theorem State.profileDrained_waiting (s : State) (hdrain : s.dict.draining = true) (hwait : s.dict.profileWait = true)
    (hc : s.dict.commit = none) (hempty : s.drained = true) (hmust : s.profileMustWait = false)
    (hpower : s.power.changing = false) (hp0 : s.power.st = 0)
    (hlanes : s.profile = .economy ↔ profileOf (s.rget (kProfile + 1)) = .economy) :
    s.profileDrained = s.profileInForce.undrain := by
  have hdue : s.profileInForce.profileDue = false := by simp [State.profileDue, State.profileInForce, hc]
  have hp1 : s.profileInForce.power.st ≠ 1 := by simp [State.profileInForce, hp0]
  simp only [State.profileDrained, State.profileDue, hdrain, hwait, hempty, hmust, hpower, hp0, Bool.true_or, Bool.not_false,
    Bool.not_true, Bool.and_true, decide_true, Bool.or_true, if_true]
  rw [s.blockApplied_noCommit .stack hc, s.switchProfile_sameLanes hlanes, if_neg hp1, State.endDrain_undrain _ hdue]

/-- Settles O20: the links are those that the end of the drain leaves. -/
theorem profileSwitchesWhenDrained : Obligations.ProfileSwitchesWhenDrained := by
  intro s hdrain hwait hc hempty hmust hpower hp0 new hlanes
  have hexec : exec .profileDrainComplete s = .next s.profileDrained.settle := rfl
  obtain ⟨hframe, hlinks⟩ := State.each_grantLink
    { s.profileInForce with dict := { s.profileInForce.dict with draining := false } } rfl (enabled s.variant)
  refine ⟨s.profileInForce.undrain.links, ?_, fun n => (hlinks n).trans ?_⟩
  · rw [hexec, s.profileDrained_waiting hdrain hwait hc hempty hmust hpower hp0 hlanes]
    exact congrArg (fun t : State => Host.Outcome.next t.settle) hframe
  · exact (ite_and ..).symm

/-! ### Staged entries and their committed copies (R6, R15) -/

theorem findRow_bounds {sub : Nat} {rows : List EntryRow} {r : EntryRow} (h : findRow sub rows = some r) :
    r.lo ≤ sub ∧ sub ≤ r.hi := by
  induction rows with
  | nil => cases h
  | cons a rows ih =>
    rw [findRow] at h
    split at h
    · next hsub => exact Option.some.inj h ▸ hsub
    · exact ih h

theorem entryRow_eq_some {k : Nat} {r : EntryRow} :
    entryRow k = some r ↔ ∃ rows, rowsOf (k / 256) = some rows ∧ findRow (k % 256) rows = some r := by
  unfold entryRow
  cases rowsOf (k / 256) <;> simp

theorem actKey_eq_some {k j : Nat} : actKey k = some j ↔ ∃ r, entryRow k = some r ∧ r.right = .rws ∧ k + r.act = j := by
  unfold actKey
  cases entryRow k <;> simp

theorem actKey_none_of_row {k : Nat} {r : EntryRow} (hr : entryRow k = some r) (h : r.right ≠ .rws) : actKey k = none := by
  simp [actKey, hr, h]

/-- A staged subindex has its committed copy in the same table, at a row that is not staged and has the same default. Neither is
0xC0 or 0xE0, where a channel's entry has a default of its own. -/
def EntryRow.Mirrors (rows : List EntryRow) (r : EntryRow) (sub : Nat) : Prop :=
  r.act ∈ [0x01, 0x10, 0x20] ∧ sub + r.act < 256 ∧ sub ∉ [0xC0, 0xE0] ∧ sub + r.act ∉ [0xC0, 0xE0] ∧
    ∃ c ∈ findRow (sub + r.act) rows, c.right ≠ .rws ∧ c.dflt = r.dflt

/-- Every staged subindex of a table has its committed copy there. -/
def Mirrored (rows : List EntryRow) : Prop :=
  ∀ r ∈ rows, r.right = .rws → ∀ sub ∈ List.range' r.lo (r.hi + 1 - r.lo), r.Mirrors rows sub

/-- Every table but that of the labels, one range of indices after another, holds its committed copies itself. -/
theorem rowsOf_mirrored (i : Nat) (hi : i ≠ 0x2100) : ∀ rows ∈ rowsOf i, Mirrored rows := by
  rw [rowsOf, if_neg hi]
  repeat' refine iteInduction (motive := fun table => ∀ rows ∈ table, Mirrored rows) (fun _ => ?_) (fun _ => ?_)
  all_goals
    unfold Mirrored EntryRow.Mirrors
    decide +kernel

/-- No entry of a fault source is staged. -/
theorem rowsOf_source {i : Nat} {rows : List EntryRow} (h : rowsOf i = some rows) (hi : 0x4000 ≤ i ∧ i ≤ 0x407F) :
    ∀ r ∈ rows, r.right ≠ .rws := by
  have htable : rowsOf i = if i = 0x4000 then some (sourceRows ++ collectorRows) else some sourceRows := by
    rw [rowsOf, if_neg (by omega), if_neg (by omega), if_neg (by omega), if_pos hi.2]
  rw [htable] at h
  split at h <;> cases h <;> decide

/-- The entries whose default may depend on their index: those of the fault sources, and a channel's home layer and number
(R136, R276, R388). -/
def OwnDefault (k : Nat) : Prop :=
  (0x4000 ≤ k / 256 ∧ k / 256 ≤ 0x407F) ∨ (0x1000 ≤ k / 256 ∧ k / 256 ≤ 0x107F ∧ k % 256 ∈ [0xC0, 0xE0])

/-- Any other register reads the default of its row before anything is written, and 0 where it has none. -/
theorem regDefault_eq {k : Nat} (h : ¬ OwnDefault k) : regDefault k = (entryRow k).elim 0 (fun r => r.dflt.getD 0) := by
  simp only [OwnDefault, List.mem_cons, List.not_mem_nil, or_false] at h
  rw [regDefault, statedDefault, if_neg (by omega), if_neg (by omega), if_neg (by omega)]
  cases entryRow k <;> rfl

/-- What the committed copy of an entry is to the entry: it is not staged itself, has the same default, and lies at one of the
distances that `stagedAt` looks for. -/
structure CommittedCopy (k j : Nat) : Prop where
  not_staged : actKey j = none
  same_default : regDefault j = regDefault k
  near : k ∈ [j - 0x01, j - 0x10, j - 0x20, j - 0x100]

/-- A label has its committed copy at index 0x2101, which has no table. -/
theorem committedCopy_label {k j : Nat} (hk : k / 256 = 0x2100) (h : actKey k = some j) : CommittedCopy k j := by
  obtain ⟨r, hr, -, rfl⟩ := actKey_eq_some.mp h
  obtain ⟨rows, hrows, hfind⟩ := entryRow_eq_some.mp hr
  have hlabels : rows = labelRows := Option.some.inj (hrows.symm.trans (by rw [hk]; rfl))
  obtain rfl := List.mem_singleton.mp (hlabels ▸ findRow_mem hfind)
  have hindex : (k + 0x100) / 256 = 0x2101 := by omega
  have hnone : entryRow (k + 0x100) = none := by rw [entryRow, hindex]; rfl
  have hdefault : regDefault (k + 0x100) = regDefault k := by
    rw [regDefault_eq (by unfold OwnDefault; omega), regDefault_eq (by unfold OwnDefault; omega), hnone, hr]
    rfl
  exact ⟨by simp only [actKey, hnone], hdefault, by simp⟩

/-- Any other staged entry has its committed copy in its own table. -/
theorem committedCopy_table {k j : Nat} (hk : k / 256 ≠ 0x2100) (h : actKey k = some j) : CommittedCopy k j := by
  obtain ⟨r, hr, hstaged, rfl⟩ := actKey_eq_some.mp h
  obtain ⟨rows, hrows, hfind⟩ := entryRow_eq_some.mp hr
  have hrow := findRow_mem hfind
  have hsource : ¬ (0x4000 ≤ k / 256 ∧ k / 256 ≤ 0x407F) := fun hs => rowsOf_source hrows hs r hrow hstaged
  obtain ⟨hact, hlt, hk0, hj0, c, hc, hright, hdflt⟩ := rowsOf_mirrored _ hk rows hrows r hrow hstaged (k % 256)
    (List.mem_range'_1.mpr (by have := findRow_bounds hfind; omega))
  have hindex : (k + r.act) / 256 = k / 256 := by omega
  have hsub : (k + r.act) % 256 = k % 256 + r.act := by omega
  have hcopy : entryRow (k + r.act) = some c := entryRow_eq_some.mpr ⟨rows, hindex ▸ hrows, hsub ▸ hc⟩
  have hdefault : regDefault (k + r.act) = regDefault k := by
    rw [regDefault_eq (by rw [OwnDefault, hindex, hsub]; tauto), regDefault_eq (by rw [OwnDefault]; tauto), hcopy, hr]
    simp only [Option.elim_some, hdflt]
  refine ⟨by simp [actKey, hcopy, hright], hdefault, ?_⟩
  simp only [List.mem_cons, List.not_mem_nil, or_false] at hact ⊢
  omega

theorem committedCopy_of_actKey {k j : Nat} (h : actKey k = some j) : CommittedCopy k j := by
  by_cases hk : k / 256 = 0x2100
  · exact committedCopy_label hk h
  · exact committedCopy_table hk h

/-! ### The staged set (R42) -/

theorem mem_insertOnce {x a : Nat} {l : List Nat} : x ∈ insertOnce l a ↔ x = a ∨ x ∈ l := by
  induction l with
  | nil => simp [insertOnce]
  | cons y l ih =>
    rw [insertOnce]
    split
    · exact List.mem_cons
    · split
      · next h => simp [h]
      · rw [List.mem_cons, ih, List.mem_cons, or_left_comm]

theorem mem_foldl_insertOnce {x : Nat} {l ks : List Nat} : x ∈ ks.foldl insertOnce l ↔ x ∈ ks ∨ x ∈ l := by
  induction ks generalizing l with
  | nil => simp
  | cons a ks ih => rw [List.foldl_cons, ih, mem_insertOnce, List.mem_cons, or_assoc, or_left_comm]

/-- The staged entries at a key are those whose staged or committed copy lies there. -/
theorem mem_stagedAt {k q : Nat} : k ∈ stagedAt q ↔ actKey k = some q ∨ k = q ∧ (actKey q).isSome = true := by
  simp only [stagedAt, List.mem_filter, Bool.or_eq_true, Bool.and_eq_true, decide_eq_true_eq]
  refine ⟨And.right, fun h => ⟨?_, h⟩⟩
  rcases h with hact | ⟨rfl, -⟩
  · exact List.mem_cons_of_mem _ (committedCopy_of_actKey hact).near
  · exact List.mem_cons_self

theorem mfind_none_of_not_listed {α : Type} (m : SMap α) (q : Nat) (h : ∀ e ∈ m, e.1 ≠ q) : mfind m q = none := by
  induction m with
  | nil => rfl
  | cons e m ih =>
    obtain ⟨hne, hm⟩ := List.forall_mem_cons.mp h
    rw [mfind, if_neg hne, ih hm]

theorem State.rget_not_listed (s : State) (k : Nat) (h : ∀ e ∈ s.regs, e.1 ≠ k) : s.rget k = regDefault k := by
  rw [State.rget, mget, mfind_none_of_not_listed s.regs k h, Option.getD_none]

/-- An entry that differs from its committed copy has a register of the two listed, since their defaults are the same. -/
theorem State.exists_listed_of_rget_ne (s : State) {k j : Nat} (hact : actKey k = some j) (h : s.rget k ≠ s.rget j) :
    ∃ e ∈ s.regs, e.1 = k ∨ e.1 = j := by
  by_contra hnone
  have hk : s.rget k = regDefault k := s.rget_not_listed k (fun e he hek => hnone ⟨e, he, .inl hek⟩)
  have hj : s.rget j = regDefault j := s.rget_not_listed j (fun e he hej => hnone ⟨e, he, .inr hej⟩)
  rw [hk, hj, (committedCopy_of_actKey hact).same_default] at h
  exact h rfl

/-- The staged set holds the entries that differ from their committed copies, with their staged values. -/
theorem State.mem_staged (s : State) (k v : Nat) :
    (k, v) ∈ s.staged ↔ (∃ j, actKey k = some j ∧ s.rget k ≠ s.rget j) ∧ v = s.rget k := by
  simp only [State.staged, List.mem_map, List.mem_filter, mem_foldl_insertOnce, List.not_mem_nil, or_false, List.mem_flatMap,
    mem_stagedAt, decide_eq_true_eq, Prod.mk.injEq]
  constructor
  · rintro ⟨_, ⟨⟨e, -, hat⟩, hne⟩, rfl, rfl⟩
    refine ⟨?_, rfl⟩
    rcases hat with hact | ⟨rfl, hsome⟩
    · exact ⟨_, hact, by simpa [hact] using hne⟩
    · obtain ⟨j, hact⟩ := Option.isSome_iff_exists.mp hsome
      exact ⟨j, hact, by simpa [hact] using hne⟩
  · rintro ⟨⟨j, hact, hne⟩, rfl⟩
    obtain ⟨e, he, hkey⟩ := s.exists_listed_of_rget_ne hact hne
    refine ⟨k, ⟨⟨e, he, ?_⟩, by simpa [hact] using hne⟩, rfl, rfl⟩
    rcases hkey with hk | hj
    · exact .inr ⟨hk.symm, by simp [hk, hact]⟩
    · exact .inl (hj ▸ hact)

/-! ### Restoring the staging copies (R15, R44) -/

/-- The committed value of an entry; of any other register its own value. -/
def State.committed (s : State) (k : Nat) : Nat := s.rget ((actKey k).getD k)

/-- Restoring an entry changes no committed value, so each entry may as well take the value of the state before. -/
theorem State.foldl_unstage (s t : State) (es : List (Nat × Nat)) (hes : ∀ e ∈ es, (actKey e.1).isSome = true)
    (ht : ∀ e ∈ es, t.committed e.1 = s.committed e.1) :
    es.foldl (fun t e => t.rset e.1 (t.committed e.1)) t = es.foldl (fun t e => t.rset e.1 (s.committed e.1)) t := by
  induction es generalizing t with
  | nil => rfl
  | cons a es ih =>
    obtain ⟨ha, hes⟩ := List.forall_mem_cons.mp hes
    obtain ⟨hta, ht⟩ := List.forall_mem_cons.mp ht
    rw [List.foldl_cons, List.foldl_cons, hta]
    refine ih _ hes (fun e he => ?_)
    obtain ⟨j, hj⟩ := Option.isSome_iff_exists.mp (hes e he)
    have hother : j ≠ a.1 := fun heq => by simp [← heq, (committedCopy_of_actKey hj).not_staged] at ha
    rw [← ht e he, State.committed, State.rget_rset, hj, Option.getD_some, if_neg hother, State.committed, hj, Option.getD_some]

/-- The state with every staging copy at its committed value. -/
def State.restored (s : State) : State := s.staged.foldl (fun t e => t.rset e.1 (s.committed e.1)) s

theorem State.restored_eq (s : State) : s.restored = { s with regs := s.restored.regs } :=
  State.foldl_rset_eq Prod.fst (fun e => s.committed e.1) s s.staged

theorem State.unstage_eq (s : State) :
    s.unstage = { s with regs := s.restored.regs, qe := { s.qe with limitStage := s.qe.limitAct } } := by
  have hfold : s.staged.foldl (fun t e => t.rset e.1 (t.committed e.1)) s = { s with regs := s.restored.regs } := by
    rw [← s.restored_eq]
    refine State.foldl_unstage s s s.staged (fun e he => ?_) (fun e he => rfl)
    obtain ⟨⟨j, hj, -⟩, -⟩ := (s.mem_staged e.1 e.2).mp he
    simp [hj]
  exact congrArg (fun t : State => { t with qe := { t.qe with limitStage := t.qe.limitAct } }) hfold

theorem State.rget_restored_staged (s : State) {k j : Nat} (hact : actKey k = some j) : s.restored.rget k = s.rget j := by
  have hvalue : s.committed k = s.rget j := by rw [State.committed, hact, Option.getD_some]
  by_cases hsame : s.rget k = s.rget j
  · exact State.rget_foldl_rset_keeps Prod.fst (fun e => s.committed e.1) s s.staged k _ (fun e _ hk => hk ▸ hvalue) hsame
  · have hmem : (k, s.rget k) ∈ s.staged := (s.mem_staged k _).mpr ⟨⟨j, hact, hsame⟩, rfl⟩
    rw [← hvalue]
    exact State.rget_foldl_rset_mem Prod.fst (fun e => s.committed e.1) s s.staged hmem (fun e _ hk => congrArg s.committed hk)

theorem State.rget_restored_other (s : State) {k : Nat} (hact : actKey k = none) : s.restored.rget k = s.rget k := by
  refine State.rget_foldl_rset_other Prod.fst (fun e => s.committed e.1) s s.staged k (fun e he hk => ?_)
  obtain ⟨⟨j, hj, -⟩, -⟩ := (s.mem_staged e.1 e.2).mp he
  rw [hk, hact] at hj
  cases hj

/-! ### DISCARD (R44) -/

/-- A DISCARD is taken up only while no commit runs. -/
theorem State.commit_none_of_obeys_discard {s : State} {m : Master} {arg : List Byte} (h : s.obeys m kDiscard arg = true) :
    s.dict.commit = none := by
  simp only [State.obeys, Bool.and_eq_true, Bool.or_eq_true, decide_eq_true_eq] at h
  obtain ⟨-, hcommit | ⟨-, hother⟩⟩ := h
  · exact hcommit
  · exact absurd rfl hother

/-- What DISCARD leaves, before its end is recorded. -/
def State.discarded (s : State) : State :=
  { s with
    regs := s.restored.regs, qe := { s.qe with limitStage := s.qe.limitAct }
    dict := { s.dict with stageGen := s.dict.stageGen + 1 } }

theorem State.discardOp_eq (s : State) (hc : s.dict.commit = none) : s.discardOp = (0, s.discarded.cmdEnd kDiscard 0) := by
  have hfree : ¬ s.dict.commit.isSome = true := by simp [hc]
  rw [State.discardOp, if_neg hfree, s.unstage_eq]
  rfl

/-- The command closes with OK. -/
theorem State.closeCmd_discard (s : State) (m : Master) (arg : List Byte) (env : AccEnv) (hc : s.dict.commit = none) :
    State.closeCmd kDiscard (s.runCmd m kDiscard arg env) = (some 0, s.discarded.cmdEnd kDiscard 0) := by
  have hrun : s.runCmd m kDiscard arg env = atOnce s.discardOp := by
    rw [State.runCmd, if_neg (by decide), if_pos rfl]
  rw [hrun, s.discardOp_eq hc, atOnce, if_pos rfl, State.closeCmd, State.cmdEnd_twice]

/-- Settles O17: the registers are those with every staging copy restored. -/
theorem discardRestoresStaging : Obligations.DiscardRestoresStaging := by
  intro s m arg hobeys u
  obtain ⟨hm, -, hlen, -⟩ := State.obeys_parts hobeys
  have hc : u.dict.commit = none := by
    rw [show u.dict = _ from State.asks_dict s m kDiscard arg]
    exact State.commit_none_of_obeys_discard hobeys
  have hwf : (Instr.discard m arg).wf = true := by
    have hval : isVal arg = true := decide_eq_true (by omega)
    simp [Instr.wf, hm, hval]
  have hexec : exec (.discard m arg) s = .next (s.writeBy m kDiscard arg {}).settle := if_pos hwf
  refine ⟨u.restored.regs, ?_, fun k j hact => ?_, fun k hact => ?_⟩
  · rw [hexec, State.obeys_told hobeys (u.closeCmd_discard m arg {} hc)]
    rfl
  · exact (u.rget_restored_staged hact).trans (s.rget_asks m kDiscard j arg)
  · exact (u.rget_restored_other hact).trans (s.rget_asks m kDiscard k arg)

end Sys2Proof.Machine
end

section
/-!
PROOFS. Slice0/Commands: a step runs the command at the front of the queue (R50), a CMD entry refuses a write (R39, R45), and a
COMMIT is answered at once or started (R42–R47).
-/

namespace Sys2Proof.Machine

/-! ### One step (R50) -/

/-- Settles O14. -/
theorem stepRunsTheFrontCommand : Obligations.StepRunsTheFrontCommand := by
  refine ⟨fun s c rest => rfl, fun s h => ?_⟩
  rw [step, h]

/-! ### Refused commands (R39, R45) -/

theorem State.reaches_parts {s : State} {m : Master} {k : Nat} {arg : List Byte} (h : s.reaches m k arg = true) :
    m.wf = true ∧ s.hears m = true ∧ s.judge k = 0 ∧ ∃ r, entryRow k = some r ∧ r.ty = .cmd ∧ arg.length = r.len := by
  simp only [State.reaches, Bool.and_eq_true, decide_eq_true_eq, Option.any_eq_true] at h
  obtain ⟨⟨⟨hm, hh⟩, hj⟩, r, hr, ht, hlen⟩ := h
  exact ⟨hm, hh, hj, r, hr, ht, hlen⟩

theorem State.writeEntry_writeCmd (s : State) (m : Master) (k : Nat) (r : EntryRow) (v : List Byte) (env : AccEnv)
    (hj : s.judgeWrite k = 0) (hr : entryRow k = some r) (ht : r.ty = .cmd) :
    s.writeEntry m k v env = s.writeCmd m k r v env := by
  simp only [State.writeEntry, hj, hr, ht, if_true]

/-- A write that reaches a CMD entry and is refused sets the REFUSED bit of its state word, and nothing else. -/
theorem State.writeBy_refused (s : State) (m : Master) (k st : Nat) (r : EntryRow) (arg : List Byte) (hh : s.hears m = true)
    (hlen : arg.length ≤ 240) (hj : s.judge k = 0) (hr : entryRow k = some r) (ht : r.ty = .cmd)
    (href : (s.asks m k arg).writeCmd m k r arg {} = State.closeCmd k (.refused st, s.asks m k arg)) :
    s.writeBy m k arg {} =
      ((s.asks m k arg).setCmd k { s.cmd k with refused := true }).tells s.dict.mpDown m k st := by
  refine s.writeBy_told _ m k st arg {} hh hlen ?_
  rw [State.writeEntry_writeCmd _ m k r arg {} (by simpa using State.judgeWrite_zero hj) hr ht, href, State.closeCmd,
    State.cmd_asks]

theorem State.writeCmd_wrongLength (s : State) (m : Master) (k : Nat) (r : EntryRow) (arg : List Byte) (env : AccEnv)
    (hlen : arg.length ≠ r.len) : s.writeCmd m k r arg env = State.closeCmd k (.refused 0x0104, s) := by
  rw [State.writeCmd, if_pos hlen]

theorem State.writeCmd_meetsCommit (s : State) (m : Master) (k : Nat) (r : EntryRow) (arg : List Byte) (env : AccEnv)
    (hlen : arg.length = r.len) (hk : k = kCommit ∨ k = kDiscard) (hc : s.dict.commit ≠ none) :
    s.writeCmd m k r arg env = State.closeCmd k (.refused 0x0202, s) := by
  rw [State.writeCmd, if_neg (not_not_intro hlen), if_pos ⟨hk, Option.isSome_iff_ne_none.mpr hc⟩]

theorem State.writeCmd_running (s : State) (m : Master) (k : Nat) (r : EntryRow) (arg : List Byte) (env : AccEnv)
    (hlen : arg.length = r.len) (hc : k = kCommit ∨ k = kDiscard → s.dict.commit = none) (hrun : (s.cmd k).running = true) :
    s.writeCmd m k r arg env = State.closeCmd k (.refused 0x0107, s) := by
  have hfree : ¬ ((k = kCommit ∨ k = kDiscard) ∧ s.dict.commit.isSome = true) := by
    rintro ⟨hk, hsome⟩
    simp [hc hk] at hsome
  rw [State.writeCmd, if_neg (not_not_intro hlen), if_neg hfree, if_pos hrun]

/-- A COMMIT is the write of its entry. -/
theorem exec_commit_eq (s : State) (m : Master) (arg : List Byte) (hm : m.wf = true) (hlen : arg.length ≤ 240) :
    exec (.commit m arg) s = .next (s.writeBy m kCommit arg {}).settle :=
  if_pos (by simp only [Instr.wf, hm, isVal, Bool.true_and, decide_eq_true_eq]; omega)

/-- A DISCARD is the write of its entry. -/
theorem exec_discard_eq (s : State) (m : Master) (arg : List Byte) (hm : m.wf = true) (hlen : arg.length ≤ 240) :
    exec (.discard m arg) s = .next (s.writeBy m kDiscard arg {}).settle :=
  if_pos (by simp only [Instr.wf, hm, isVal, Bool.true_and, decide_eq_true_eq]; omega)

/-- Settles O16: the three refusals are those of `State.writeCmd`, in its order. -/
theorem runningCommandRefusesAnother : Obligations.RunningCommandRefusesAnother := by
  intro s m k arg hk hlen u refuse
  have hcommit : u.dict.commit = s.dict.commit := by rw [show u.dict = _ from State.asks_dict s m k arg]
  refine ⟨fun hreach hrun hfree => ?_, fun hreach hbusy => ?_, fun hm hh hj hrow => ?_⟩
  · obtain ⟨hm, hh, hj, r, hr, ht, hl⟩ := State.reaches_parts hreach
    rw [exec_write_eq s m k arg _ hm hk hlen (.inl rfl), s.writeBy_refused m k 0x0107 r arg hh hlen hj hr ht
      (State.writeCmd_running u m k r arg {} hl (fun h => hcommit.trans (hfree h)) (by rw [State.cmd_asks, hrun]))]
  · obtain ⟨hm, hh, hj, r, hr, ht, hl⟩ := State.reaches_parts hreach
    have hwrite (hcd : k = kCommit ∨ k = kDiscard) : .next (s.writeBy m k arg {}).settle = refuse 0x0202 := by
      rw [s.writeBy_refused m k 0x0202 r arg hh hlen hj hr ht
        (State.writeCmd_meetsCommit u m k r arg {} hl hcd (by rwa [hcommit]))]
    refine ⟨fun h => ?_, fun h => ?_⟩
    · rw [exec_commit_eq s m arg hm hlen, ← h, hwrite (.inl h)]
    · rw [exec_discard_eq s m arg hm hlen, ← h, hwrite (.inr h)]
  · obtain ⟨r, hr, ht, hl⟩ := hrow
    rw [exec_write_eq s m k arg _ hm hk hlen (.inl rfl), s.writeBy_refused m k 0x0104 r arg hh hlen hj hr ht
      (State.writeCmd_wrongLength u m k r arg {} hl)]

/-! ### COMMIT (R42–R47) -/

/-- The last status of a command stands however often it is written. -/
theorem State.cmdEnd_cmdEnd (s : State) (k st : Nat) : (s.cmdEnd k st).cmdEnd k st = s.cmdEnd k st := by
  by_cases h : st = 0
  · rw [h, s.cmdEnd_twice k]
  · have hlisted : ({ last := st } : CmdState) ≠ {} := by simp [h]
    simp only [State.cmdEnd, State.setCmd, mset_mset _ _ _ _ _ hlisted]

theorem State.commit_none_of_obeys_commit {s : State} {m : Master} {arg : List Byte} (h : s.obeys m kCommit arg = true) :
    s.dict.commit = none := by
  simp only [State.obeys, Bool.and_eq_true, Bool.or_eq_true, decide_eq_true_eq] at h
  obtain ⟨-, hcommit | ⟨hother, -⟩⟩ := h
  · exact hcommit
  · exact absurd rfl hother

theorem State.runCmd_commit (s : State) (m : Master) (arg : List Byte) (env : AccEnv) :
    s.runCmd m kCommit arg env = s.commitCmd m (bytesNat arg) := by
  rw [State.runCmd, if_pos rfl]

/-- A COMMIT that is answered at once is recorded with its status and its deciding entry (R44). -/
theorem exec_commit_told (s : State) (m : Master) (arg : List Byte) (st e : Nat) (h : s.obeys m kCommit arg = true)
    (hst : st ≠ 0x0202)
    (hop : (s.asks m kCommit arg).commitOp m (bytesNat arg) = (some st, (s.asks m kCommit arg).commitRecord st e)) :
    exec (.commit m arg) s =
      .next (State.settle (((s.asks m kCommit arg).commitRecord st e).tells s.dict.mpDown m kCommit st)) := by
  obtain ⟨hm, -, hlen, -⟩ := State.obeys_parts h
  rw [exec_commit_eq s m arg hm (by omega), State.obeys_told (t := (s.asks m kCommit arg).commitRecord st e) (st := st) h]
  rw [State.runCmd_commit, State.commitCmd, hop]
  simp only [if_neg hst, State.closeCmd, State.commitRecord, State.cmdEnd_cmdEnd]

/-- A COMMIT that is accepted is answered when its last block has applied. -/
theorem exec_commit_waits (s t : State) (m : Master) (arg : List Byte) (h : s.obeys m kCommit arg = true)
    (hop : (s.asks m kCommit arg).commitOp m (bytesNat arg) = (none, t)) :
    exec (.commit m arg) s = .next (t.awaits m).settle := by
  obtain ⟨hm, -, hlen, -⟩ := State.obeys_parts h
  rw [exec_commit_eq s m arg hm (by omega), State.obeys_waits (t := t) h]
  rw [State.runCmd_commit, State.commitCmd, hop]
  rfl

/-- The generation of a COMMIT is the wildcard or STAGE_GEN (R42). -/
def State.genFits (s : State) (g : Nat) : Prop := g = 0xFFFFFFFF ∨ g = s.dict.stageGen.toNat

/-- The set would enable an engine that the quick test has failed (R299). -/
def State.enablesFailedEngine (s : State) : Prop := s.qe.failed = true ∧ (ekey 0x3000 1, 1) ∈ s.staged

theorem State.genFits_iff {s : State} {g : Nat} : s.genFits g ↔ ¬ (g ≠ 0xFFFFFFFF ∧ g ≠ s.dict.stageGen.toNat) := by
  rw [State.genFits, not_and_or, not_not, not_not]

theorem State.enablesFailedEngine_iff {s : State} : s.enablesFailedEngine ↔
    (s.qe.failed && s.staged.any (fun e => decide (e = (ekey 0x3000 1, 1)))) = true := by
  simp only [State.enablesFailedEngine, Bool.and_eq_true, List.any_eq_true, decide_eq_true_eq, exists_eq_right]

section
variable {s : State} {m : Master} {g : Nat} (hc : s.dict.commit = none)
include hc

theorem State.commitOp_changed (hg : ¬ s.genFits g) : s.commitOp m g = (some 0x0203, s.commitRecord 0x0203 0) := by
  simp only [State.commitOp, hc, Option.isSome_none, Bool.false_eq_true, if_false, if_pos (not_not.mp (State.genFits_iff.not.mp hg))]

variable (hg : s.genFits g)
include hg

/-- With a fitting generation an empty set ends with OK (R43). -/
theorem State.commitOp_empty (hset : s.staged = []) (hlim : s.stagedLimits = []) :
    s.commitOp m g = (some 0, s.commitRecord 0 0) := by
  simp only [State.commitOp, hc, Option.isSome_none, Bool.false_eq_true, if_false, if_neg (State.genFits_iff.mp hg), hset, hlim,
    and_self, if_true]

variable (hset : ¬ (s.staged = [] ∧ s.stagedLimits = [])) (he : ¬ s.enablesFailedEngine)
include hset he

/-- A set that contradicts its chapters is refused with the lowest entry that does (R45). -/
theorem State.commitOp_inconsistent {k : Nat} {r : List Nat} (hbad : s.contradictions s.staged = k :: r) :
    s.commitOp m g = (some 0x0201, s.commitRecord 0x0201 k) := by
  simp only [State.commitOp, hc, Option.isSome_none, Bool.false_eq_true, if_false, if_neg (State.genFits_iff.mp hg), if_neg hset,
    State.enablesFailedEngine_iff.not.mp he, false_and, hbad]

variable (hbad : s.contradictions s.staged = [])
include hbad

/-- Any other set is refused where admission control judges it and it does not fit (R155). -/
theorem State.commitOp_oversubscribed {k : Nat} (hreads : s.staged.any (fun e => admissionKey e.1) = true)
    (hover : s.overSubscribed (s.staged.any (fun e => decide (e.1 = kProfile))) = some k) :
    s.commitOp m g = (some 0x0200, s.commitRecord 0x0200 k) := by
  simp only [State.commitOp, hc, Option.isSome_none, Bool.false_eq_true, if_false, if_neg (State.genFits_iff.mp hg), if_neg hset,
    State.enablesFailedEngine_iff.not.mp he, hbad, if_pos hreads, hover]

theorem State.commitOp_accepted (hfit : s.staged.any (fun e => admissionKey e.1) = true →
      s.overSubscribed (s.staged.any (fun e => decide (e.1 = kProfile))) = none) :
    s.commitOp m g = s.commitApply m s.staged s.stagedLimits := by
  have hadmitted : (if s.staged.any (fun e => admissionKey e.1) then
      s.overSubscribed (s.staged.any (fun e => decide (e.1 = kProfile))) else none) = none := ite_eq_right_iff.mpr hfit
  simp only [State.commitOp, hc, Option.isSome_none, Bool.false_eq_true, if_false, if_neg (State.genFits_iff.mp hg), if_neg hset,
    State.enablesFailedEngine_iff.not.mp he, hbad, hadmitted]

end

theorem State.contradictions_nil (s : State) : s.contradictions [] = [] := rfl

/-- What taking a COMMIT leaves as it was of the state that its checks read. -/
theorem State.commit_asks (s : State) (m : Master) (k : Nat) (v : List Byte) : (s.asks m k v).dict.commit = s.dict.commit := by
  rw [show (s.asks m k v).dict = _ from State.asks_dict s m k v]

theorem State.stageGen_asks (s : State) (m : Master) (k : Nat) (v : List Byte) :
    (s.asks m k v).dict.stageGen = s.dict.stageGen := by
  rw [show (s.asks m k v).dict = _ from State.asks_dict s m k v]

theorem State.genFits_asks (s : State) (m : Master) (k g : Nat) (v : List Byte) :
    (s.asks m k v).genFits g ↔ g = 0xFFFFFFFF ∨ g = s.dict.stageGen.toNat := by
  rw [State.genFits, State.stageGen_asks]

/-- The staged set is a matter of the registers alone. -/
theorem State.staged_congr {s t : State} (h : t.regs = s.regs) : t.staged = s.staged := by
  simp only [State.staged, State.rget, h]
  rfl

theorem State.stagedLimits_congr {s t : State} (h : t.qe = s.qe) : t.stagedLimits = s.stagedLimits := by
  simp only [State.stagedLimits, h]

theorem State.staged_asks (s : State) (m : Master) (k : Nat) (v : List Byte) : (s.asks m k v).staged = s.staged :=
  State.staged_congr (s.asks_regs m k v)

theorem State.stagedLimits_asks (s : State) (m : Master) (k : Nat) (v : List Byte) :
    (s.asks m k v).stagedLimits = s.stagedLimits :=
  State.stagedLimits_congr (s.asks_qe m k v)

/-- Settles O21: the state before the answer is the one taken, with the end of the command recorded. -/
theorem emptyCommitIsHarmless : Obligations.EmptyCommitIsHarmless := by
  intro s m arg hobeys hset hlim hgen
  have hc := State.commit_none_of_obeys_commit hobeys
  have hop := State.commitOp_empty (m := m) ((s.commit_asks m kCommit arg).trans hc) ((s.genFits_asks m kCommit _ arg).mpr hgen)
    ((s.staged_asks m kCommit arg).trans hset) ((s.stagedLimits_asks m kCommit arg).trans hlim)
  refine ⟨(s.asks m kCommit arg).commitRecord 0 0, exec_commit_told s m arg 0 0 hobeys (by decide) hop, rfl, ?_, ?_, ?_, ?_, ?_, ?_⟩
  · change (s.asks m kCommit arg).dict.commitSeq = _
    rw [State.asks_dict]
  · exact s.stageGen_asks m kCommit arg
  · exact (s.commit_asks m kCommit arg).trans hc
  · exact s.asks_regs m kCommit arg
  · exact (State.staged_congr (s.asks_regs m kCommit arg)).trans hset
  · exact (State.stagedLimits_congr (s.asks_qe m kCommit arg)).trans hlim

/-- An accepted set without PROFILE and EXCLUDE waits for its blocks (R45, R46). -/
theorem State.commitApply_waits (s : State) (m : Master) (set limits : List (Nat × Nat))
    (hset : ∀ e ∈ set, e.1 ≠ kProfile ∧ ¬ (e.1 / 256 < 0x1080 ∧ e.1 % 256 = 0xE2)) :
    s.commitApply m set limits = (none, State.cmdStart { s with dict := { s.dict with
      commitSeq := s.dict.commitSeq + 1
      commit := some { set := set, limits := limits, answer := some m, since := s.now, left :=
        (set.flatMap (fun e => s.owners e.1) ++ if limits = [] then [] else [Block.queueEngine]).dedup } } } kCommit) := by
  have hprofile : set.any (fun e => decide (e.1 = kProfile)) = false := by
    simpa using fun a b he => (hset (a, b) he).1
  have hexclude : set.any (fun e => decide (e.1 / 256 < 0x1080 ∧ e.1 % 256 = 0xE2)) = false := by
    simpa using fun a b he => (not_and.mp (hset (a, b) he).2)
  simp only [State.commitApply, hprofile, hexclude, Bool.false_eq_true, if_false]
  rfl

/-- Settles O18: each refusal is a lemma about `State.commitOp`, the start of an accepted commit `State.commitApply_waits`. -/
theorem commitIsRefusedOrStarts : Obligations.CommitIsRefusedOrStarts := by
  refine ⟨?_, ?_⟩
  · intro s m arg hobeys u record fits engine
    have hc : u.dict.commit = none := (s.commit_asks m kCommit arg).trans (State.commit_none_of_obeys_commit hobeys)
    have hfits : u.genFits (bytesNat arg) ↔ fits := s.genFits_asks m kCommit _ arg
    have hfailed : u.enablesFailedEngine ↔ engine := by
      rw [State.enablesFailedEngine, show u.qe = _ from s.asks_qe m kCommit arg]
    refine ⟨fun hgen => ?_, fun k r hgen hengine hbad => ?_, fun k hgen hengine hbad hreads hover => ?_⟩
    · exact exec_commit_told s m arg 0x0203 0 hobeys (by decide) (State.commitOp_changed hc (hfits.not.mpr hgen))
    · have hset : ¬ (u.staged = [] ∧ u.stagedLimits = []) := fun h => by simp [h.1, State.contradictions_nil] at hbad
      exact exec_commit_told s m arg 0x0201 k hobeys (by decide)
        (State.commitOp_inconsistent hc (hfits.mpr hgen) hset (hfailed.not.mpr hengine) hbad)
    · have hset : ¬ (u.staged = [] ∧ u.stagedLimits = []) := fun h => by simp [h.1] at hreads
      exact exec_commit_told s m arg 0x0200 k hobeys (by decide)
        (State.commitOp_oversubscribed hc (hfits.mpr hgen) hset (hfailed.not.mpr hengine) hbad hreads hover)
  · intro s m arg hobeys u hgen hset hbad hengine hadmit hplain
    have hc : u.dict.commit = none := (s.commit_asks m kCommit arg).trans (State.commit_none_of_obeys_commit hobeys)
    have hfailed : ¬ u.enablesFailedEngine := by
      rwa [State.enablesFailedEngine, show u.qe = _ from s.asks_qe m kCommit arg]
    have hprofile : u.staged.any (fun e => decide (e.1 = kProfile)) = false := by
      simpa using fun a b he => (hplain (a, b) he).1
    have hop := State.commitOp_accepted (m := m) hc ((s.genFits_asks m kCommit _ arg).mpr hgen) hset hfailed hbad
      (hprofile.symm ▸ hadmit)
    rw [exec_commit_waits s _ m arg hobeys (hop.trans (u.commitApply_waits m _ _ hplain)),
      show u.now = s.now from s.asks_now m kCommit arg]

end Sys2Proof.Machine
end

section
/-!
PROOFS. Slice0/LinkReset: the link resets that a timer, the host and LINK_RESET bring about (R87, R88, R92), and an in-band READ
(R36, R50–R52).
-/

namespace Sys2Proof.Machine

/-! ### Link resets (R92, R93) -/

/-- LINK_RESET of a link resets it, and ends with OK at the write. -/
theorem State.runCmd_linkReset (s : State) (m : Master) (n : Nat) (hn : n < 128) (arg : List Byte) (env : AccEnv) :
    s.runCmd m (linkKey n 0x06) arg env = (.ended 0, s.linkReset n 0x9) := by
  obtain ⟨hcommit, hdiscard, hpower, hresume, hgroup, hchip, hblock⟩ :
      linkKey n 0x06 ≠ kCommit ∧ linkKey n 0x06 ≠ kDiscard ∧ linkKey n 0x06 ≠ kPower ∧ linkKey n 0x06 ≠ ekey 0x0400 0x10 ∧
        linkKey n 0x06 ≠ ekey 0x0400 0x12 ∧ linkKey n 0x06 ≠ ekey 0x0500 0x12 ∧ linkKey n 0x06 ≠ ekey 0x0500 0x13 := by
    simp only [linkKey, ekey, kCommit, kDiscard, kPower]
    omega
  have hindex : linkKey n 0x06 / 256 = 0x0800 + n := by simp only [linkKey, ekey]; omega
  rw [State.runCmd, if_neg hcommit, if_neg hdiscard, if_neg hpower, if_neg hresume, if_neg hgroup, if_neg hchip, if_neg hblock,
    if_pos (by omega), hindex, Nat.add_sub_cancel_left]

/-- A link reset that follows a command of its own. -/
theorem exec_linkReset_told (s : State) (m : Master) (n : Nat) (hn : n < 128) (h : s.obeys m (linkKey n 0x06) [] = true) :
    exec (.linkReset m n []) s = .next (State.settle
      ((((s.asks m (linkKey n 0x06) []).linkReset n 0x9).cmdEnd (linkKey n 0x06) 0).tells s.dict.mpDown m (linkKey n 0x06) 0)) := by
  obtain ⟨hm, -, -, -⟩ := State.obeys_parts h
  have hexec : exec (.linkReset m n []) s = .next (s.writeBy m (linkKey n 0x06) [] {}).settle :=
    if_pos (by simp [Instr.wf, hm, isLink, hn, isVal])
  rw [hexec, State.obeys_told h (by rw [State.runCmd_linkReset _ m n hn]; rfl)]

/-- Settles O5: what each of the three resets does is `State.linkReset_frame`. -/
theorem linkResetRestartsLink : Obligations.LinkResetRestartsLink := by
  intro s n hn part reset
  have hreset (u : State) (cause : Nat) : reset u (u.linkReset n cause) cause := u.linkReset_frame n cause hn
  refine ⟨fun hlive => ⟨fun hst => ⟨_, hreset s 0xB, ?_⟩, fun hst => ⟨_, hreset s 0xC, ?_⟩⟩, fun m hobeys => ⟨_, hreset _ 0x9, ?_⟩⟩
  · have hexec : exec (.hostIdleReset n) s = .next (s.hostIdleReset n).settle := if_pos (decide_eq_true hn)
    rw [hexec, State.hostIdleReset, if_pos (by simp [hlive, hst])]
  · have hexec : exec (.recoverTimeout n) s = .next (s.recoverTimeout n).settle := if_pos (decide_eq_true hn)
    rw [hexec, State.recoverTimeout, if_pos (by simp [hlive, hst])]
  · exact exec_linkReset_told s m n hn hobeys

/-! ### READ in band (R52) -/

/-- A READ with LEN `len` is taken as a WRITE of `len` bytes is. -/
theorem State.asks_link_len (s : State) (n t k len : Nat) :
    s.asks (.link n t) k (List.replicate len 0) = (s.returnMgmt n (mgmtFlits len)).accessBy n := by
  simp only [State.asks, List.length_replicate, State.placeOf]

/-- Returning MGMT credits leaves the state of the link. -/
theorem State.returnMgmt_st (s : State) (n k j : Nat) : ((s.returnMgmt n k).link j).st = (s.link j).st := by
  unfold State.returnMgmt
  split
  · rw [State.link_modLink]
    split
    · next h => rw [h]
    · rfl
  · rfl

theorem State.answers_of_takesRequests {s : State} {n : Nat} (h : s.takesRequests n = true) (k : Nat) :
    (((s.returnMgmt n k).accessBy n).link n).answers = true := by
  simp only [State.takesRequests, Bool.and_eq_true, decide_eq_true_eq] at h
  have hst : (((s.returnMgmt n k).accessBy n).link n).st = (s.link n).st := s.returnMgmt_st n k n
  simp only [Link.answers, hst, decide_eq_true_eq]
  tauto

/-- A link that can answer gets the response. -/
theorem State.replyLink_sent {s : State} {n : Nat} (h : (s.link n).answers = true) (opc mtag key status : Nat) (val : List Byte) :
    s.replyLink true n opc mtag key status val = s.sendMgmt n (mgmtMessage opc mtag key status val) := by
  simp [State.replyLink, h]

theorem State.readEntry_failed (s : State) (k : Nat) (h : s.judge k ≠ 0) : s.readEntry k = (s.judge k, []) := by
  unfold State.readEntry
  split
  · next h0 => exact absurd h0 h
  · rfl

theorem State.readEntry_passed (s : State) (k : Nat) (h : s.judge k = 0) : s.readEntry k =
    if (entryRow k).any (fun r => decide (r.right = .wo) && decide (r.ty ≠ .cmd)) then (0x0103, []) else (0, s.entryBytes k) := by
  simp only [State.readEntry, h]

/-- A READ that need not wait is answered with what its entry reads as, or with MALFORMED. -/
theorem State.mgmtRead_served {s : State} {n mtag k len : Nat} (htakes : s.takesRequests n = true) (hwaits : s.mgmtWaits n = false) :
    s.mgmtRead n mtag k len =
      let u := (s.returnMgmt n (mgmtFlits len)).accessBy n
      if len ≠ 0 then u.sendMgmt n (mgmtMessage 0x82 mtag k 0x010A [])
      else u.sendMgmt n (mgmtMessage 0x81 mtag k (u.readEntry k).1 (u.readEntry k).2) := by
  have hanswers := State.answers_of_takesRequests htakes (mgmtFlits len)
  rw [State.mgmtRead, htakes, hwaits]
  simp only [← State.replyLink_sent hanswers]
  rfl

theorem exec_mgmtRead_eq (s : State) (n mtag k len : Nat) (hn : n < 128) (ht : mtag < 256) (hk : k < 16777216) (hl : len < 256) :
    exec (.mgmtRead n mtag k len) s = .next (s.mgmtRead n mtag k len).settle :=
  if_pos (by simp [Instr.wf, isLink, isKey, hn, ht, hk, hl])

/-- Settles O13: a READ is served as it comes, and leaves the stack quiet. -/
theorem inBandReadAnswers : Obligations.InBandReadAnswers := by
  intro s n mtag k len hn ht hk hl hcalm htakes hdown
  rw [exec_mgmtRead_eq s n mtag k len hn ht hk hl]
  constructor
  · intro hwaits
    rw [State.mgmtRead, htakes, hwaits]
    rfl
  · intro hwaits u reply
    have hasks : u = s.asks (.link n mtag) k (List.replicate len 0) := (s.asks_link_len n mtag k len).symm
    have hquiet (opc st : Nat) (val : List Byte) : (reply opc st val).settle = reply opc st val :=
      State.settle_calm _ (by rw [State.calm_modLink, hasks, State.calm_asks, hcalm])
    have hjudge : u.judge k = s.judge k := by rw [hasks, State.judge_asks]
    rw [State.mgmtRead_served htakes hwaits]
    split
    · exact congrArg _ (hquiet ..)
    · refine (congrArg Host.Outcome.next (hquiet 0x81 (u.readEntry k).1 (u.readEntry k).2)).trans ?_
      by_cases hj : s.judge k = 0
      · rw [if_neg (not_not_intro hj), u.readEntry_passed k (hjudge.trans hj)]
        split <;> rfl
      · rw [if_pos hj, u.readEntry_failed k (hjudge ▸ hj), hjudge]

end Sys2Proof.Machine
end

section
/-!
PROOFS. Slice0/Queues: QFLUSH with its walk steps (R244), POOL_RESET (R251) and LS_FILL (R253).
-/

namespace Sys2Proof.Machine

/-! ### What taking a write leaves of the engine -/

@[simp] theorem State.queue_asks (s : State) (m : Master) (k q : Nat) (v : List Byte) : (s.asks m k v).queue q = s.queue q := by
  simp only [State.queue, State.asks_qe]

@[simp] theorem State.blockSetting_asks (s : State) (m : Master) (k : Nat) (v : List Byte) (b : Block) (i j : Nat) :
    (s.asks m k v).blockSetting b i j = s.blockSetting b i j := by
  simp only [State.blockSetting, State.commit_asks, State.rget_asks]

@[simp] theorem State.qeSet_asks (s : State) (m : Master) (k i : Nat) (v : List Byte) : (s.asks m k v).qeSet i = s.qeSet i :=
  s.blockSetting_asks m k v _ _ _

@[simp] theorem State.poolK_asks (s : State) (m : Master) (k : Nat) (v : List Byte) : (s.asks m k v).poolK = s.poolK := by
  simp only [State.poolK, State.asks_qe, State.qeSet_asks]

@[simp] theorem State.sliceOf_asks (s : State) (m : Master) (k q : Nat) (v : List Byte) :
    (s.asks m k v).sliceOf q = s.sliceOf q := by
  simp only [State.sliceOf, State.asks_variant]

@[simp] theorem State.inReset_asks (s : State) (m : Master) (k c i : Nat) (v : List Byte) :
    (s.asks m k v).inReset c i = s.inReset c i := by
  simp only [State.inReset, State.asks_clk]

/-! ### QFLUSH (R244) -/

/-- A queue with its list of cells detached; the cells that ENQs have reserved stay. -/
def Queue.detached (x : Queue) : Queue := { x with head := 0, tail := 0, cells := 0, packets := 0, broken := false }

/-- A QFLUSH with nothing to walk is over; else its walk starts at the head of the queue. -/
theorem State.qflush_eq (s : State) (q : Nat) : (s.qflush q).2 =
    let x := s.queue q
    let u := s.setQueue q x.detached
    if s.poolK = 0 ∨ x.cells = 0 then u.cmdEnd kFlush 0
    else
      let v := u.modSlice (s.sliceOf q) (fun y => { y with linked := y.linked - x.cells, awaiting := y.awaiting + x.cells })
      ({ v with qe := { v.qe with flush := some { slice := s.sliceOf q, cell := x.head, left := x.cells } } }).cmdStart kFlush :=
  apply_ite Prod.snd ..

theorem State.runCmd_qflush (s : State) (m : Master) (arg : List Byte) (env : AccEnv) (h : s.inReset 2 0 = false) :
    s.runCmd m kFlush arg env = (.ok, (s.qflush (bytesNat arg)).2) := by
  have hrun : s.runCmd m kFlush arg env =
      if s.inReset 2 0 then (.refused 0x0108, s) else (.ok, (s.qflush (bytesNat arg)).2) := rfl
  rw [hrun, h]
  rfl

theorem exec_qflush_told (s : State) (m : Master) (arg : List Byte) (h : s.obeys m kFlush arg = true)
    (hr : s.inReset 2 0 = false) : exec (.qflush m arg) s =
      .next (State.settle (((s.asks m kFlush arg).qflush (bytesNat arg)).2.tells s.dict.mpDown m kFlush 0)) := by
  obtain ⟨hm, -, hlen, -⟩ := State.obeys_parts h
  have hexec : exec (.qflush m arg) s = .next (s.writeBy m kFlush arg {}).settle :=
    if_pos (by simp only [Instr.wf, hm, isVal, Bool.true_and, decide_eq_true_eq]; omega)
  rw [hexec, State.obeys_told h (by rw [State.runCmd_qflush _ m arg {} (by rw [State.inReset_asks, hr])]; rfl)]

/-! ### A walk step (R244) -/

theorem State.slice_modSlice (s : State) (i : Nat) (f : QSlice → QSlice) (k : Nat) :
    (s.modSlice i f).slice k = if k = i then f (s.slice i) else s.slice k := s.slice_setSlice i _ k

theorem State.modSlice_modSlice (s : State) (i : Nat) (f g : QSlice → QSlice) (h : f (s.slice i) ≠ {}) :
    (s.modSlice i f).modSlice i g = s.modSlice i (fun y => g (f y)) := by
  rw [State.modSlice, State.slice_modSlice, if_pos rfl, State.modSlice, State.setSlice_setSlice _ _ _ _ h, State.modSlice]

/-- The cell of a flush goes to the top of its slice's cache, and waits no more. -/
def State.flushGive (s : State) (f : Flush) : State :=
  (s.modSlice f.slice (fun y => { y with cache := (f.cell - f.slice * s.poolK) :: y.cache })).modSlice f.slice
    (fun y => { y with awaiting := y.awaiting - 1 })

/-- What a walk step does with its cell, where the cache has room for it. -/
theorem State.modSlice_giveCell (s : State) (i l : Nat) (hroom : (s.slice i).cache.length < 4096) (hb : (s.slice i).backlog = []) :
    s.modSlice i (fun y => { (y.giveCell l) with awaiting := y.awaiting - 1 }) =
      (s.modSlice i (fun y => { y with cache := l :: y.cache })).modSlice i (fun y => { y with awaiting := y.awaiting - 1 }) := by
  have hlisted : ({ s.slice i with cache := l :: (s.slice i).cache } : QSlice) ≠ {} := fun h => by
    simpa using congrArg QSlice.cache h
  rw [State.modSlice_modSlice _ _ _ _ hlisted]
  simp only [State.modSlice, QSlice.giveCell, hroom, hb, and_self, if_true]

section
variable {s : State} {f : Flush} {env : ChanEnv} (hrun : s.engineRuns = true) (hf : s.qe.flush = some f)
  (hroom : (s.slice f.slice).cache.length < 4096) (hb : (s.slice f.slice).backlog = [])
include hrun hf hroom hb

/-- The last cell of a flush ends it. -/
theorem State.flushStep_last (hl : f.left ≤ 1) : s.flushStep env =
    (({ s.flushGive f with qe := { (s.flushGive f).qe with flush := none } }).cmdEnd kFlush 0).feedJobs f.slice := by
  have hgo : ¬ (s.slice f.slice).backlog ≠ [] := not_not_intro hb
  have hroom' : ¬ 4096 ≤ (s.slice f.slice).cache.length := by omega
  simp only [State.flushStep, hf, hrun, hgo, hroom', or_self, decide_false, Bool.not_true, Bool.or_self, Bool.false_eq_true,
    if_false, if_pos hl, s.modSlice_giveCell f.slice _ hroom hb]
  rfl

/-- The local number of the flush's cell. -/
def State.flushCell (s : State) (f : Flush) : Nat := f.cell - f.slice * s.poolK

/-- A link block comes to the front of its slice's cache. -/
def State.blockFirst (s : State) (i addr : Nat) (b : LinkBlk) : State :=
  s.modSlice i (fun y => { y with blocks := b :: y.blocks.filter (fun z => decide (z.addr ≠ addr)) })

omit hrun hf hroom hb in
/-- A cached link entry that can be trusted is read without an access. -/
theorem State.getEntry_cached (s : State) (env : ChanEnv) (i l : Nat) (b : LinkBlk)
    (hfind : (s.slice i).blocks.find? (fun y => decide (y.addr = s.linkBlock i l)) = some b) (hpoison : b.poisoned = false)
    (hlost : s.blockLost (s.linkBlock i l) = false) :
    ({ s := s, env := env } : Eng).getEntry i l =
      (b.entries.getD (l % 8) 0, true, { s := s.blockFirst i (s.linkBlock i l) b, env := env }) := by
  have haddr : b.addr = s.linkBlock i l := by simpa using List.find?_some hfind
  have hlost' : (s.blockFirst i (s.linkBlock i l) b).blockLost (s.linkBlock i l) = false := hlost
  have hfetch : ({ s := s, env := env } : Eng).fetch i (s.linkBlock i l) =
      (b, { s := s.blockFirst i (s.linkBlock i l) b, env := env }) := by
    simp only [Eng.fetch, QSlice.block, hfind, QSlice.front, haddr]
    rfl
  simp only [Eng.getEntry, hfetch, hpoison, hlost', Bool.not_false, Bool.true_or, Bool.and_self]

/-- A cell whose link entry is cached and trusted goes back, and the walk goes on at the entry's NEXT. -/
theorem State.flushStep_next (b : LinkBlk) (hl : 1 < f.left)
    (hfind : (s.slice f.slice).blocks.find? (fun y => decide (y.addr = s.linkBlock f.slice (s.flushCell f))) = some b)
    (hpoison : b.poisoned = false) (hlost : s.blockLost (s.linkBlock f.slice (s.flushCell f)) = false) :
    s.flushStep env =
      let t := (s.blockFirst f.slice (s.linkBlock f.slice (s.flushCell f)) b).flushGive f
      ({ t with qe := { t.qe with flush := some { f with
        cell := leNext (b.entries.getD (s.flushCell f % 8) 0), left := f.left - 1 } } } : State).feedJobs f.slice := by
  have hgo : ¬ (s.slice f.slice).backlog ≠ [] := not_not_intro hb
  have hroom' : ¬ 4096 ≤ (s.slice f.slice).cache.length := by omega
  have hleft : ¬ f.left ≤ 1 := by omega
  have hentry := s.getEntry_cached env f.slice (s.flushCell f) b hfind hpoison hlost
  have hgive := State.modSlice_giveCell (s.blockFirst f.slice (s.linkBlock f.slice (s.flushCell f)) b) f.slice (s.flushCell f)
    (by rw [State.blockFirst, State.slice_modSlice, if_pos rfl]; exact hroom)
    (by rw [State.blockFirst, State.slice_modSlice, if_pos rfl]; exact hb)
  simp only [State.flushCell] at hentry hgive ⊢
  simp only [State.flushStep, hf, hrun, hgo, hroom', or_self, decide_false, Bool.not_true, Bool.or_self, Bool.false_eq_true,
    if_false, if_neg hleft, hentry, if_true, hgive]
  rfl

end

/-- The outcome of a row whose operands name something. -/
theorem finish_wf {wf : Bool} (h : wf = true) (s : State) : finish wf s = .next s.settle := by
  rw [finish, if_pos h]

theorem exec_qflushWalkStep_eq (s : State) (env : ChanEnv) (h : env.wf = true) :
    exec (.qflushWalkStep env) s = .next (s.flushStep env).settle := by
  have hwf : (Instr.qflushWalkStep env).wf = true := by simp only [Instr.wf, h]
  have hexec : exec (.qflushWalkStep env) s = finish (Instr.qflushWalkStep env).wf (s.flushStep env) := rfl
  rw [hexec, finish_wf hwf]

/-! ### POOL_RESET (R251) -/

theorem mfind_none_of_mrises {α : Type} {m : SMap α} {lo q : Nat} (h : mrises lo m = true) (hq : q < lo) : mfind m q = none := by
  induction m generalizing lo with
  | nil => rfl
  | cons e m ih =>
    obtain ⟨k, v⟩ := e
    simp only [mrises, Bool.and_eq_true, decide_eq_true_eq] at h
    rw [mfind, if_neg (by omega), ih h.2 (by omega)]

/-- A map filled from the entries of a canonical one reads as what was stored for the key. -/
theorem mget_foldl_mset {α β : Type} [DecidableEq β] (d : β) (g : α → β) (m : SMap α) (lo : Nat) (h : mrises lo m = true)
    (z : SMap β) (q : Nat) :
    mget d (m.foldl (fun z x => mset d z x.1 (g x.2)) z) q = ((mfind m q).map g).getD (mget d z q) := by
  induction m generalizing lo z with
  | nil => rfl
  | cons e m ih =>
    obtain ⟨k, v⟩ := e
    simp only [mrises, Bool.and_eq_true, decide_eq_true_eq] at h
    rw [List.foldl_cons, ih (k + 1) h.2, mget_mset, mfind]
    by_cases hk : k = q
    · rw [if_pos hk.symm, if_pos hk, mfind_none_of_mrises h.2 (by omega)]
      rfl
    · rw [if_neg (Ne.symm hk), if_neg hk]

/-- Something keeps the pool from a reset: the engine is enabled, a flush runs, or a queue holds a packet or a cell. -/
def State.poolHeld (s : State) : Prop :=
  s.qeSet 1 ≠ 0 ∨ s.qe.flush ≠ none ∨ ∃ e ∈ s.qe.queues, e.2.packets ≠ 0 ∨ e.2.cells ≠ 0 ∨ e.2.reserved ≠ 0

theorem State.poolHeld_asks (s : State) (m : Master) (k : Nat) (v : List Byte) : (s.asks m k v).poolHeld ↔ s.poolHeld := by
  simp only [State.poolHeld, State.qeSet_asks, State.asks_qe]

theorem State.poolReset_eq (s : State) :
    (s.poolHeld → s.poolReset = (0x0109, s)) ∧ (¬ s.poolHeld → s.poolReset = (0, s.poolInit true)) := by
  have hheld : (s.qeSet 1 ≠ 0 ∨ s.qe.flush ≠ none ∨
      s.qe.queues.any (fun q => decide (q.2.packets ≠ 0 ∨ q.2.cells ≠ 0 ∨ q.2.reserved ≠ 0)) = true) ↔ s.poolHeld := by
    simp only [State.poolHeld, List.any_eq_true, decide_eq_true_eq]
  exact ⟨fun h => if_pos (hheld.mpr h), fun h => if_neg (hheld.not.mpr h)⟩

/-- A pool that starts afresh with BROKEN cleared keeps of a queue its lock pointer. -/
theorem State.queue_poolInit (s : State) (h : mwf (fun _ => {}) s.qe.queues = true) (q : Nat) :
    (s.poolInit true).queue q = { lockPtr := (s.queue q).lockPtr } := by
  have hrises : mrises 0 s.qe.queues = true := by
    simp only [mwf, Bool.and_eq_true] at h
    exact h.1
  have hfold := mget_foldl_mset {} (fun x : Queue => ({ lockPtr := x.lockPtr, broken := x.broken && !true } : Queue))
    s.qe.queues 0 hrises [] q
  refine hfold.trans ?_
  simp only [State.queue, mget]
  cases mfind s.qe.queues q with
  | none => rfl
  | some x => simp

/-! ### LS_FILL (R253) -/

theorem mfind_append {α : Type} (a b : SMap α) (q : Nat) : mfind (a ++ b) q = (mfind a q).or (mfind b q) := by
  induction a with
  | nil => rfl
  | cons e a ih =>
    rw [List.cons_append, mfind, mfind]
    split
    · rfl
    · exact ih

theorem mfind_filter {α : Type} (p : Nat → Bool) (m : SMap α) (q : Nat) :
    mfind (m.filter (fun e => p e.1)) q = if p q then mfind m q else none := by
  induction m with
  | nil => simp
  | cons e m ih =>
    obtain ⟨k, v⟩ := e
    by_cases hk : k = q
    · subst hk
      by_cases hp : p k = true <;> simp [hp, mfind, ih]
    · by_cases hp : p k = true <;> simp [hp, mfind, ih, hk]

/-- A run of keys with one value. -/
theorem mfind_run {α : Type} (first n : Nat) (v : α) (q : Nat) :
    mfind ((List.range n).map (fun i => (first + i, v))) q = if first ≤ q ∧ q < first + n then some v else none := by
  induction n with
  | zero => rw [if_neg (by omega)]; rfl
  | succ n ih =>
    rw [List.range_succ, List.map_append, mfind_append, ih]
    by_cases hq : first + n = q
    · rw [if_neg (by omega), if_pos (by omega)]
      simp [mfind, hq]
    · have hiff : (first ≤ q ∧ q < first + n) ↔ (first ≤ q ∧ q < first + (n + 1)) := by omega
      simp only [hiff, List.map_cons, List.map_nil, mfind, hq, if_false, Option.or_none]

/-- LS_FILL stages the set for the queues of its range, and leaves the others. -/
theorem State.mget_lsFill (s : State) (first last set q : Nat) :
    mget 0 (s.lsFill first last set).qe.limitStage q =
      if first ≤ q ∧ q ≤ last then set else mget 0 s.qe.limitStage q := by
  have hmid : mfind (if set = 0 then [] else (List.range (last + 1 - first)).map (fun i => (first + i, set))) q =
      if set ≠ 0 ∧ first ≤ q ∧ q ≤ last then some set else none := by
    split
    · next h => simp [h]
    · next h =>
      rw [mfind_run]
      exact if_congr (by omega) rfl rfl
  have hold : mfind (s.lsFill first last set).qe.limitStage q =
      ((if q < first then mfind s.qe.limitStage q else none).or
        (if set ≠ 0 ∧ first ≤ q ∧ q ≤ last then some set else none)).or
          (if last < q then mfind s.qe.limitStage q else none) := by
    have hlow := mfind_filter (fun k => decide (k < first)) s.qe.limitStage q
    have hhigh := mfind_filter (fun k => decide (last < k)) s.qe.limitStage q
    simp only [decide_eq_true_eq] at hlow hhigh
    rw [State.lsFill, mfind_append, mfind_append, hlow, hhigh, hmid]
  rw [mget, hold, mget]
  by_cases hin : first ≤ q ∧ q ≤ last
  · rw [if_neg (show ¬ q < first by omega), if_neg (show ¬ last < q by omega), if_pos hin]
    by_cases hset : set = 0 <;> simp [hset, hin]
  · rw [if_neg (fun h : set ≠ 0 ∧ first ≤ q ∧ q ≤ last => hin h.2), if_neg hin, Option.or_none]
    by_cases hlow : q < first
    · rw [if_pos hlow]
      split <;> simp
    · rw [if_neg hlow, if_pos (show last < q by omega), Option.none_or]

theorem State.runCmd_poolReset (s : State) (m : Master) (arg : List Byte) (env : AccEnv) (h : s.inReset 2 0 = false) :
    s.runCmd m (ekey 0x3000 0x72) arg env = atOnce s.poolReset := by
  have hrun : s.runCmd m (ekey 0x3000 0x72) arg env =
      if s.inReset 2 0 then (.refused 0x0108, s) else atOnce s.poolReset := rfl
  rw [hrun, h]
  rfl

theorem State.runCmd_lsFill (s : State) (m : Master) (arg : List Byte) (env : AccEnv) :
    s.runCmd m (ekey 0x3000 0x74) arg env = s.lsFillCmd (bytesNat arg) := rfl

/-- LS_FILL with valid arguments is one staged write. -/
theorem State.lsFillCmd_valid (s : State) (arg : Nat) (hfl : arg % 65536 ≤ arg / 65536 % 65536) (hset : arg / 2 ^ 32 ≤ 15) :
    s.lsFillCmd arg = (.sync 0,
      { s.lsFill (arg % 65536) (arg / 65536 % 65536) (arg / 2 ^ 32) with
        dict := { s.dict with stageGen := s.dict.stageGen + 1 } }) :=
  if_neg (by omega)

theorem exec_poolReset_eq (s : State) (m : Master) (arg : List Byte) (hm : m.wf = true) (hlen : arg.length ≤ 8) :
    exec (.poolReset m arg) s = .next (s.writeBy m (ekey 0x3000 0x72) arg {}).settle :=
  if_pos (by simp only [Instr.wf, hm, isVal, Bool.true_and, decide_eq_true_eq]; omega)

theorem exec_lsFill_eq (s : State) (m : Master) (arg : List Byte) (hm : m.wf = true) (hlen : arg.length ≤ 8) :
    exec (.lsFill m arg) s = .next (s.writeBy m (ekey 0x3000 0x74) arg {}).settle :=
  if_pos (by simp only [Instr.wf, hm, isVal, Bool.true_and, decide_eq_true_eq]; omega)

/-- Settles O29: the walk is `State.flushStep_last` and `State.flushStep_next`, the two fresh tables are `State.queue_poolInit` and
`State.mget_lsFill`. -/
theorem queueFlushPoolResetAndLimitFill : Obligations.QueueFlushPoolResetAndLimitFill := by
  refine ⟨fun s => ⟨?_, ?_⟩, fun s m arg => ⟨?_, ?_⟩⟩
  · intro m arg hobeys hreset q x u
    rw [exec_qflush_told s m arg hobeys hreset, State.qflush_eq]
    simp only [State.queue_asks, State.poolK_asks, State.sliceOf_asks]
    rfl
  · intro env f hwf hrun hf hroom hb l give
    rw [exec_qflushWalkStep_eq s env hwf]
    refine ⟨fun hl => ?_, fun b hl hfind hpoison hlost => ?_⟩
    · rw [State.flushStep_last hrun hf hroom hb hl]
      rfl
    · rw [State.flushStep_next hrun hf hroom hb b hl hfind hpoison hlost]
      rfl
  · intro k u used hobeys hreset
    obtain ⟨hm, -, hlen, -⟩ := State.obeys_parts hobeys
    have hrun := State.runCmd_poolReset u m arg {} (by rw [State.inReset_asks, hreset])
    obtain ⟨hrefused, hdone⟩ := u.poolReset_eq
    have hused : u.poolHeld ↔ used := s.poolHeld_asks m k arg
    refine ⟨fun h => ?_, fun h => ⟨(u.poolInit true).qe.queues, ?_, fun hcanon q => ?_⟩⟩
    · rw [exec_poolReset_eq s m arg hm hlen, State.obeys_told hobeys (by rw [hrun, hrefused (hused.mpr h)]; rfl), State.cmd_asks]
    · rw [exec_poolReset_eq s m arg hm hlen, State.obeys_told hobeys (by rw [hrun, hdone (hused.not.mpr h)]; rfl)]
      rfl
    · have hqueues : u.qe.queues = s.qe.queues := by rw [State.asks_qe]
      exact (u.queue_poolInit (hqueues ▸ hcanon) q).trans (by rw [State.queue_asks])
  · intro k u first last set hobeys
    obtain ⟨hm, -, hlen, -⟩ := State.obeys_parts hobeys
    have hrun := u.runCmd_lsFill m arg {}
    have hbad : last < first ∨ 15 < set → u.lsFillCmd (bytesNat arg) = (.refused 0x0105, u) := fun h => if_pos h
    refine ⟨fun h => ?_, fun hfl hset hcanon => ⟨(u.lsFill first last set).qe.limitStage, ?_, fun q => ?_⟩⟩
    · rw [exec_lsFill_eq s m arg hm hlen, State.obeys_told hobeys (by rw [hrun, hbad h]; rfl), State.cmd_asks]
    · rw [exec_lsFill_eq s m arg hm hlen, State.obeys_told hobeys (by rw [hrun, u.lsFillCmd_valid _ hfl hset]; rfl)]
      rfl
    · rw [State.mget_lsFill, State.asks_qe]

end Sys2Proof.Machine
end

section
/-!
PROOFS. Slice0/ResetFrames: no operation of a channel, of the queue engine or of the regulator touches the clocks, the list of
block resets in progress, or the count of them (R373, R375).
-/

namespace Sys2Proof.Machine

/-- The counter of block resets (R375). -/
def kBlockResets : Nat := ekey 0x0500 0x15

/-- The clocks, with the block resets in progress, and the counter of block resets are the same in two states. -/
structure SameResets (s t : State) : Prop where
  clk : t.clk = s.clk
  counter : t.rget kBlockResets = s.rget kBlockResets

/-- No entry of an index above 0x05FF is the counter of block resets. -/
theorem ekey_ne_blockResets {i : Nat} (h : 0x0600 ≤ i) (sub : Nat) : ekey i sub ≠ kBlockResets := by
  simp only [kBlockResets, ekey]; omega

theorem chanKey_ne_blockResets (m sub : Nat) : chanKey m sub ≠ kBlockResets := ekey_ne_blockResets (by omega) sub

/-- Clearing the counters of a table leaves every entry outside it. -/
theorem State.clearCounters_rget_other (s : State) (index : Nat) (rows : List EntryRow) {j : Nat}
    (h : ∀ r ∈ rows, ∀ sub, sub ≤ r.hi → ekey index sub ≠ j) : (s.clearCounters index rows).rget j = s.rget j := by
  unfold State.clearCounters
  induction rows generalizing s with
  | nil => rfl
  | cons r rows ih =>
    rw [List.foldl_cons, ih _ (fun r' hr => h r' (List.mem_cons_of_mem _ hr))]
    split
    · refine State.rget_foldl_rset_other (ekey index) (fun _ => 0) s _ j (fun sub hsub => ?_)
      obtain ⟨i, hi, rfl⟩ := List.mem_map.mp hsub
      exact h r List.mem_cons_self _ (by have := List.mem_range.mp hi; omega)
    · rfl

/-- Clearing counters changes nothing but the registers. -/
theorem State.clearCounters_eq (s : State) (index : Nat) (rows : List EntryRow) :
    s.clearCounters index rows = { s with regs := (s.clearCounters index rows).regs } := by
  unfold State.clearCounters
  induction rows generalizing s with
  | nil => rfl
  | cons r rows ih =>
    rw [List.foldl_cons]
    split
    · refine (ih _).trans ?_
      rw [State.each, State.foldl_rset_eq (ekey index) (fun _ => 0)]
    · exact ih s

namespace SameResets

variable {s t u : State}

theorem refl (s : State) : SameResets s s := ⟨rfl, rfl⟩

theorem trans (h : SameResets s t) (h' : SameResets t u) : SameResets s u :=
  ⟨h'.clk.trans h.clk, h'.counter.trans h.counter⟩

/-! ### The ways in which a state changes -/

theorem ite {c : Prop} [Decidable c] (ht : SameResets s t) (hu : SameResets s u) : SameResets s (if c then t else u) := by
  split
  · exact ht
  · exact hu

theorem iteSnd {α : Type} {c : Prop} [Decidable c] {x y : α × State} (hx : SameResets s x.2) (hy : SameResets s y.2) :
    SameResets s (if c then x else y).2 := by
  split
  · exact hx
  · exact hy

theorem each (h : SameResets s t) (ns : List Nat) {f : State → Nat → State} (hf : ∀ v n, SameResets s v → SameResets s (f v n)) :
    SameResets s (t.each ns f) := t.each_keeps (SameResets s) ns f h hf

theorem foldl {α : Type} (h : SameResets s t) (xs : List α) {f : State → α → State}
    (hf : ∀ v x, SameResets s v → SameResets s (f v x)) : SameResets s (xs.foldl f t) := by
  induction xs generalizing t with
  | nil => exact h
  | cons x xs ih => exact ih (hf t x h)

/-- Nothing but the clocks and the registers matters. -/
theorem congr (h : SameResets s t) (hc : u.clk = t.clk) (hr : u.regs = t.regs) : SameResets s u :=
  ⟨hc.trans h.clk, (show u.rget kBlockResets = t.rget kBlockResets by simp only [State.rget, hr]).trans h.counter⟩

theorem setLink (h : SameResets s t) (n : Nat) (x : Link) : SameResets s (t.setLink n x) := h.congr rfl rfl
theorem modLink (h : SameResets s t) (n : Nat) (f : Link → Link) : SameResets s (t.modLink n f) := h.congr rfl rfl
theorem setPort (h : SameResets s t) (n : Nat) (x : Port) : SameResets s (t.setPort n x) := h.congr rfl rfl
theorem modPort (h : SameResets s t) (n : Nat) (f : Port → Port) : SameResets s (t.modPort n f) := h.congr rfl rfl
theorem setChan (h : SameResets s t) (n : Nat) (x : Chan) : SameResets s (t.setChan n x) := h.congr rfl rfl
theorem modChan (h : SameResets s t) (n : Nat) (f : Chan → Chan) : SameResets s (t.modChan n f) := h.congr rfl rfl
theorem modLayer (h : SameResets s t) (n : Nat) (f : Layer → Layer) : SameResets s (t.modLayer n f) := h.congr rfl rfl
theorem tick (h : SameResets s t) : SameResets s t.tick := h.congr rfl rfl
theorem countActs (h : SameResets s t) (m n : Nat) : SameResets s (t.countActs m n) := h.congr rfl rfl
theorem cmdEnd (h : SameResets s t) (k st : Nat) : SameResets s (t.cmdEnd k st) := h.congr rfl rfl

theorem withRepair (h : SameResets s t) (r : Repair) : SameResets s { t with repair := r } := h.congr rfl rfl
theorem withReg (h : SameResets s t) (r : Regulator) : SameResets s { t with reg := r } := h.congr rfl rfl
theorem withQe (h : SameResets s t) (q : Engine) : SameResets s { t with qe := q } := h.congr rfl rfl
theorem withFaults (h : SameResets s t) (f : Faults) : SameResets s { t with faults := f } := h.congr rfl rfl

theorem rset (h : SameResets s t) {k : Nat} (hk : k ≠ kBlockResets) (v : Nat) : SameResets s (t.rset k v) :=
  ⟨h.clk, by rw [State.rget_rset, if_neg hk.symm, h.counter]⟩

theorem peak (h : SameResets s t) {k : Nat} (hk : k ≠ kBlockResets) (v top : Nat) : SameResets s (t.peak k v top) :=
  h.rset hk _

theorem count (h : SameResets s t) {k : Nat} (hk : k ≠ kBlockResets) (n : Nat) : SameResets s (t.count k n) :=
  ⟨(t.count_clk k n).trans h.clk, (t.count_rget_other k n _ hk.symm).trans h.counter⟩

theorem qcount (h : SameResets s t) (sub n : Nat) : SameResets s (t.qcount sub n) :=
  h.count (ekey_ne_blockResets (by decide) sub) n

theorem countChan (h : SameResets s t) (m sub n : Nat) : SameResets s (t.count (chanKey m sub) n) :=
  h.count (chanKey_ne_blockResets m sub) n

theorem report (h : SameResets s t) (n i : Nat) : SameResets s (t.report n i) :=
  h.congr (t.report_clk n i) (t.report_regs n i)

theorem setLevel (h : SameResets s t) (n : Nat) (on : Bool) : SameResets s (t.setLevel n on) :=
  .ite ((h.withFaults _).report n 0) (h.withFaults _)

theorem clearCounters (h : SameResets s t) {index : Nat} (rows : List EntryRow)
    (hi : ∀ r ∈ rows, ∀ sub, sub ≤ r.hi → ekey index sub ≠ kBlockResets) : SameResets s (t.clearCounters index rows) :=
  h.trans ⟨by rw [t.clearCounters_eq index rows], t.clearCounters_rget_other index rows hi⟩

theorem clearCounters_above (h : SameResets s t) {index : Nat} (hi : 0x0600 ≤ index) (rows : List EntryRow) :
    SameResets s (t.clearCounters index rows) :=
  h.clearCounters rows (fun _ _ sub _ => ekey_ne_blockResets hi sub)

/-! ### Reading a block -/

theorem inject (h : SameResets s t) (k inst addr : Nat) : SameResets s (t.inject k inst addr).2 := by
  have hk (sub : Nat) : ekey 0x1800 sub ≠ kBlockResets := ekey_ne_blockResets (by decide) sub
  exact .iteSnd h (.iteSnd (.ite ((h.rset (hk _) _).rset (hk _) _) (h.rset (hk _) _)) h)

theorem activate (h : SameResets s t) (m k w : Nat) : SameResets s (t.activate m k w) := by
  have hchan := (h.countActs m 1).setChan m
  refine .peak (.ite (.countChan (.ite (.countChan (.ite (.countChan (hchan _) ..) (hchan _)) ..)
    (.ite (.countChan (hchan _) ..) (hchan _))) ..) (.ite (.countChan (.ite (.countChan (hchan _) ..) (hchan _)) ..)
    (.ite (.countChan (hchan _) ..) (hchan _)))) (chanKey_ne_blockResets m 0x8D) _ _

theorem openRow (h : SameResets s t) (m a : Nat) : SameResets s (t.openRow m a) :=
  .ite h ((h.activate m _ _).modChan m _)

theorem closeBank (h : SameResets s t) (m k : Nat) : SameResets s (t.closeBank m k) := h.modChan m _

theorem columnAccess (h : SameResets s t) (m a : Nat) (last : Bool) : SameResets s (t.columnAccess m a last) :=
  have hopen := (h.countChan m _ 1).openRow m a
  .ite (hopen.closeBank m _) hopen

theorem lookupRegion (h : SameResets s t) (m r : Nat) (bad : Bool) : SameResets s (t.lookupRegion m r bad).2 := by
  have hhit := h.inject 5 m r
  have hmark (f : Chan → Chan) := ((hhit.modChan m f).countChan m 0xA7 1).report 10 m
  exact .ite (.modChan (.ite (hmark _) hhit) m _) (.ite (hmark _) hhit)

theorem evacStart (h : SameResets s t) (src dst : Nat) (answered : Bool) : SameResets s (t.evacStart src dst answered) := by
  exact ((((h.withRepair _).modLayer src _).modLayer dst _).each _ (fun _ m hv => hv.modChan m _)).report 25 0

theorem noSpare (h : SameResets s t) (e : BitVec 64) : SameResets s (t.noSpare e) := by
  have hlist (l : List (BitVec 64)) := (h.withRepair { t.repair with list := l }).report 24 0
  unfold State.noSpare
  extract_lets evacuating s1 s2
  split
  · exact h
  · split
    · split
      · exact (hlist _).evacStart _ _ _
      · exact hlist _
    · exact hlist _

theorem addCandidate (h : SameResets s t) (e : BitVec 64) : SameResets s (t.addCandidate e) := by
  unfold State.addCandidate
  extract_lets l known put judge
  have hjudge (l : List (BitVec 64)) : SameResets s (judge (put t l)) :=
    .ite ((h.withRepair _).noSpare e) (h.withRepair _)
  exact .ite (hjudge _) (.ite (hjudge _) (.ite (hjudge _) (.ite (hjudge _)
    (h.count (ekey_ne_blockResets (by decide) 0x0C) 1))))

theorem ceRow (h : SameResets s t) (m a : Nat) : SameResets s (t.ceRow m a) := by
  unfold State.ceRow
  extract_lets k w lim send
  have hsend (f : Chan → Chan) := (h.modChan m f).addCandidate
  split
  · exact .ite (hsend _ _) (h.modChan m _)
  · split
    · exact .ite (hsend _ _) (h.modChan m _)
    · exact h.countChan m 0xB0 1

theorem decodeWord (h : SameResets s t) (m a noise : Nat) : SameResets s (t.decodeWord m a noise).2 := by
  have hinj := h.inject 2 m a
  unfold State.decodeWord
  split
  next pat v hv =>
    rw [hv] at hinj
    extract_lets flip c w r v'
    have hword : SameResets s v' := .ite hinj hinj.tick
    clear_value r
    split
    · exact (((hword.modChan m _).countChan m 0xA0 1).countChan m 0xA1 _).ceRow m a
    · exact hword

theorem modMem (h : SameResets s t) (m : Nat) (f : ChanMem → ChanMem) : SameResets s (t.modMem m f) := h.modChan m _

theorem setMeta (h : SameResets s t) (m a : Nat) (v p : Bool) : SameResets s (t.setMeta m a v p) := h.modMem m _

theorem readMeta (h : SameResets s t) (m a vNoise pNoise : Nat) : SameResets s (t.readMeta m a vNoise pNoise).2.2 := by
  unfold State.readMeta
  extract_lets i one put fail
  have hone (v : State) (plane noise : Nat) (hv : SameResets s v) : SameResets s (one v plane noise).2 := by
    have hinj (c : Prop) [Decidable c] : SameResets s (if c then v.inject 3 m a else (0, v)).2 := .iteSnd (hv.inject 3 m a) hv
    exact .ite (hinj _) (hinj _).tick
  have hput (v : State) (plane w : Nat) (hv : SameResets s v) : SameResets s (put v plane w) := hv.modMem m _
  have hfail (v : State) (hv : SameResets s v) : SameResets s (fail v) := (hv.countChan m 0xA6 1).report 9 m
  clear_value one put fail
  have hp := hone t 1 pNoise h
  split
  next rp v hv =>
    rw [hv] at hp
    split
    next p v2 hv2 =>
      have h2 : SameResets s v2 := by
        cases rp with
        | clean w => cases hv2; exact hp
        | corrected w => cases hv2; exact (hput v 1 _ hp).countChan m 0xA5 1
        | failed => cases hv2; exact hfail _ (hput v 1 ones64 hp)
      have h3 := hone v2 0 vNoise h2
      split
      next rv v3 hv3 =>
        rw [hv3] at h3
        cases rv with
        | clean w => exact h3
        | corrected w => exact (hput v3 0 w h3).countChan m 0xA5 1
        | failed => exact hfail _ (hput _ 1 ones64 (hput v3 0 ones64 h3))

theorem readValid (h : SameResets s t) (m a noise v p : Nat) : SameResets s (t.readValid m a noise v p).2 := by
  have hdecoded := h.decodeWord m a noise
  unfold State.readValid
  split
  · exact h
  · extract_lets was
    split
    next r w hw =>
      rw [hw] at hdecoded
      have hpoisoned := hdecoded.countChan m 0xA3 1
      split
      · exact .iteSnd hpoisoned hdecoded
      · exact .iteSnd hpoisoned hdecoded
      · exact .iteSnd hpoisoned (((((hpoisoned.setMeta m a true true).countChan m 0xA2 1).rset
          (chanKey_ne_blockResets m 0xAE) _).report 8 m).addCandidate _)

theorem readColumn (h : SameResets s t) (m a noise vNoise pNoise : Nat) :
    SameResets s (t.readColumn m a noise vNoise pNoise).2 := by
  have hmeta := h.readMeta m a vNoise pNoise
  unfold State.readColumn
  split
  next v p w hw =>
    rw [hw] at hmeta
    exact hmeta.readValid m a noise v p

theorem readBlock (h : SameResets s t) (m a noise : Nat) (env : ChanEnv) : SameResets s (t.readBlock m a noise env).2.2 := by
  have hregion := h.lookupRegion m (regionOf a) env.rmapBad
  unfold State.readBlock
  split
  next r v hv =>
    rw [hv] at hregion
    have hcolumn := hregion.readColumn m a noise env.vNoise env.pNoise
    split
    · exact hregion
    · split
      next o w hw =>
        rw [hw] at hcolumn
        exact hcolumn

theorem readOne (h : SameResets s t) (m a noise : Nat) (env : ChanEnv) (last : Bool) :
    SameResets s (t.readOne m a noise env last).2.2 := by
  have hread := h.readBlock m a noise env
  unfold State.readOne
  split
  next o r v hv =>
    rw [hv] at hread
    show SameResets s (if r = true then v.columnAccess m a last else v)
    split
    · exact hread.columnAccess m a last
    · exact hread

/-! ### The queue engine -/

theorem modSlice (h : SameResets s t) (i : Nat) (f : QSlice → QSlice) : SameResets s (t.modSlice i f) := h.congr rfl rfl

theorem giveCell (h : SameResets s t) (i l : Nat) : SameResets s (t.giveCell i l) := (h.modSlice i _).withQe _

theorem finishDeq (h : SameResets s t) (n : Nat) (d : DeqJob) : SameResets s (t.finishDeq n d) :=
  have hdone := h.modLink n _
  .ite hdone (((hdone.qcount 0x93 1).qcount 0x95 _).modLink n _)

theorem cellRead (h : SameResets s t) (n id j : Nat) (o : ReadOut) : SameResets s (t.cellRead n id j o) := by
  unfold State.cellRead
  split
  · exact h
  · have hgiven (c : Prop) [Decidable c] (i l : Nat) : SameResets s (if c then t.giveCell i l else t) := .ite (h.giveCell i l) h
    exact .ite ((hgiven _ _ _).finishDeq n _) ((hgiven _ _ _).modLink n _)

theorem engineDone (h : SameResets s t) (r : Held) (o : ReadOut) : SameResets s (t.engineDone r o) :=
  .ite (h.modLink _ _) (h.cellRead _ _ _ _)

theorem completeRead (h : SameResets s t) (r : Held) : SameResets s (t.completeRead r) := by
  unfold State.completeRead
  split
  · split
    next m a _ =>
      have hread := h.readOne m a 0 {} true
      split
      · exact h.engineDone r _
      · split
        next o _ v hv =>
          rw [hv] at hread
          exact hread.engineDone r o
    next => exact h.engineDone r _
  · exact h

theorem closeGroup (h : SameResets s t) (n grp : Nat) : SameResets s (t.closeGroup n grp) := .ite h (h.modLink n _)

theorem leftPort (h : SameResets s t) (p : Nat) (r : Held) : SameResets s (t.leftPort p r) := by
  unfold State.leftPort
  split
  · exact .ite (h.modLink _ _) h
  · exact (SameResets.ite h (h.modLink p _)).closeGroup p _

theorem noExec (h : SameResets s t) (n tag opc status : Nat) : SameResets s (t.noExec n tag opc status) := h.congr rfl rfl

theorem refuseQcmds (h : SameResets s t) (n status : Nat) : SameResets s (t.refuseQcmds n status) :=
  h.foldl _ (fun _ _ hv => ((hv.modPort n _).noExec n _ _ _).closeGroup n _)

theorem dropJobs (h : SameResets s t) (n : Nat) : SameResets s (t.dropJobs n) :=
  (h.modLink n _).foldl _ (fun _ _ hv =>
    have hanswered := SameResets.ite hv (hv.noExec n _ 0x40 3)
    .ite hanswered (hanswered.modLink n _))

theorem engineEmpty (h : SameResets s t) : SameResets s t.engineEmpty := by
  unfold State.engineEmpty
  extract_lets chans ports links _ flush
  have hchans : SameResets s chans := h.each _ (fun _ m hv => (hv.modChan m _).foldl _ (fun _ e hw => hw.completeRead e.req))
  have hports : SameResets s ports :=
    hchans.each _ (fun _ p hv => (hv.setPort p _).foldl _ (fun _ r hw => (hw.leftPort p r).completeRead r))
  have hlinks : SameResets s links := hports.each _ (fun _ n hv => (hv.refuseQcmds n 3).dropJobs n)
  have hflush : SameResets s flush := by
    unfold flush
    split
    · exact (hlinks.withQe _).cmdEnd kFlush 0
    · exact hlinks
  exact hflush.withQe _

theorem engineReset (h : SameResets s t) : SameResets s t.engineReset := by
  have hcounters := (h.engineEmpty.each ((List.range 12).map (· + 0x90)) (f := fun v k => v.rset (ekey 0x3000 k) 0)
    (fun v k hv => hv.rset (ekey_ne_blockResets (by decide) k) 0)).withQe
  exact .ite (hcounters _) (((hcounters _).qcount 0x9C _).report 41 0)

/-! ### A channel -/

theorem modResp (h : SameResets s t) (n tag : Nat) (f : Resp → Resp) : SameResets s (t.modResp n tag f) := h.modLink n _

theorem refuseHeld (h : SameResets s t) (n status : Nat) (f : Held → Bool) : SameResets s (t.refuseHeld n status f) :=
  h.foldl _ (fun _ r hv => ((hv.modPort n _).modResp n _ _).leftPort n r)

theorem refuseQueued (h : SameResets s t) (m status : Nat) : SameResets s (t.refuseQueued m status) :=
  (h.setChan m _).foldl _ (fun _ _ hv => hv.modResp _ _ _)

theorem reissue (h : SameResets s t) (m : Nat) : SameResets s (t.reissue m) :=
  (h.setChan m _).foldl _ (fun _ _ hv => hv.modPort _ _)

theorem maintained (h : SameResets s t) (m : Nat) : SameResets s (t.maintained m) := (h.modChan m _).countChan m 0x65 1

theorem serveRow (h : SameResets s t) (m k w : Nat) (rest : List (Nat × Nat)) : SameResets s (t.serveRow m k w rest) :=
  (((h.setChan m _).maintained m).countChan m 0x89 _).countActs m _

theorem serveRows (h : SameResets s t) (m : Nat) (rows : List (Nat × Nat)) : SameResets s (t.serveRows m rows) := by
  induction rows generalizing t with
  | nil => exact h
  | cons r rest ih => exact ih (h.serveRow m r.1 r.2 rest)

theorem abortSlice (h : SameResets s t) (m : Nat) : SameResets s (t.abortSlice m) := by
  unfold State.abortSlice
  split
  · exact h
  · exact ((SameResets.ite (((h.serveRows m _).activate m _ _).maintained m) h).modChan m _).countChan m 0xF3 1

theorem refreshCmds (h : SameResets s t) (m n : Nat) : SameResets s (t.refreshCmds m n) := by
  induction n generalizing t with
  | zero => exact h
  | succ n ih => exact ih (((h.setChan m _).countChan m 0x84 1).countActs m 1)

theorem burstCmds (h : SameResets s t) (m n : Nat) : SameResets s (t.burstCmds m n) := by
  induction n generalizing t with
  | zero => exact h
  | succ n ih => exact ih ((((h.setChan m _).countChan m 0x84 1).countChan m 0x86 1).countActs m 1)

theorem payDebt (h : SameResets s t) (m : Nat) : SameResets s (t.payDebt m) := (h.burstCmds m _).refreshCmds m _

theorem sre (h : SameResets s t) (m : Nat) (st : ChanState) : SameResets s (t.sre m st) :=
  have hentered := h.modChan m _
  (SameResets.ite hentered hentered.tick).countChan m 0x67 1

theorem srx (h : SameResets s t) (m : Nat) (full : Bool) : SameResets s (t.srx m full) := (h.setChan m _).countChan m 0x69 1

/-! ### The regulator and the management processor -/

theorem regulatorReset (h : SameResets s t) : SameResets s t.regulatorReset := by
  unfold State.regulatorReset
  extract_lets _ fresh classes ports
  have hfresh : SameResets s fresh := h.congr rfl rfl
  have hclasses : SameResets s classes := hfresh.each _ (fun _ _ hv => hv.clearCounters_above (by omega) _)
  have hports : SameResets s ports := hclasses.each _ (fun _ _ hv => hv.clearCounters_above (by omega) _)
  have hurg := hports.clearCounters_above (index := 0x2300) (by decide) urgRows
  exact .ite hurg (hurg.setLevel 34 _)

end SameResets

end Sys2Proof.Machine
end

section
/-!
PROOFS. Slice0/BlockResets: what the reset of each block does to its block, the end of a reset, and the crossings (R370, R373,
R375; Tables 5, 7 and 8 of the chapter of clocks and resets).
-/

namespace Sys2Proof.Machine

/-! ### A channel's queue under the operations of its reset -/

/-- The queue of channel `m` is the same in two states. -/
def SameQueue (m : Nat) (s t : State) : Prop := (t.chan m).queue = (s.chan m).queue

namespace SameQueue

variable {m : Nat} {s t u : State}

theorem ite {c : Prop} [Decidable c] (ht : SameQueue m s t) (hu : SameQueue m s u) : SameQueue m s (if c then t else u) := by
  split
  · exact ht
  · exact hu

/-- Nothing but the channels matters. -/
theorem congr (h : SameQueue m s t) (hc : u.chans = t.chans) : SameQueue m s u :=
  (show (u.chan m).queue = (t.chan m).queue by simp only [State.chan, hc]).trans h

theorem setChan (h : SameQueue m s t) {c : Chan} (hc : c.queue = (t.chan m).queue) : SameQueue m s (t.setChan m c) := by
  rw [SameQueue, State.chan_setChan, if_pos rfl, hc, h]

theorem modChan (h : SameQueue m s t) {f : Chan → Chan} (hf : (f (t.chan m)).queue = (t.chan m).queue) :
    SameQueue m s (t.modChan m f) := h.setChan hf

theorem count (h : SameQueue m s t) (k n : Nat) : SameQueue m s (t.count k n) := h.congr (t.count_chans k n)

theorem countActs (h : SameQueue m s t) (n : Nat) : SameQueue m s (t.countActs m n) := h.congr rfl

theorem tick (h : SameQueue m s t) : SameQueue m s t.tick := h.congr rfl

theorem activate (h : SameQueue m s t) (k w : Nat) : SameQueue m s (t.activate m k w) := by
  unfold State.activate
  extract_lets acts c
  split
  next tab n evicted _ =>
    extract_lets marks pend force  chans evict mark storm
    have hacts : SameQueue m s acts := h.countActs 1
    have hchans : SameQueue m s chans := hacts.setChan rfl
    have hevict : SameQueue m s evict := .ite (hchans.count _ 1) hchans
    have hmark : SameQueue m s mark := .ite (hevict.count _ 1) hevict
    have hstorm : SameQueue m s storm := .ite (hmark.count _ 1) hmark
    exact hstorm.congr rfl

theorem maintained (h : SameQueue m s t) : SameQueue m s (t.maintained m) :=
  (h.modChan (f := fun c => { c with sinceMaint := 0 }) rfl).count _ 1

theorem serveRow (h : SameQueue m s t) (k w : Nat) (rest : List (Nat × Nat)) : SameQueue m s (t.serveRow m k w rest) := by
  unfold State.serveRow
  extract_lets c tab tab' rows _ chans
  have hchans : SameQueue m s chans := h.setChan rfl
  exact (hchans.maintained.count _ _).countActs _

theorem serveRows (h : SameQueue m s t) (rows : List (Nat × Nat)) : SameQueue m s (t.serveRows m rows) := by
  induction rows generalizing t with
  | nil => exact h
  | cons r rest ih => exact ih (h.serveRow r.1 r.2 rest)

theorem abortSlice (h : SameQueue m s t) : SameQueue m s (t.abortSlice m) := by
  unfold State.abortSlice
  split
  · exact h
  next x _ =>
    extract_lets served closed
    have hserved : SameQueue m s served := .ite ((h.serveRows _).activate x.bank x.row).maintained h
    have hclosed : SameQueue m s closed := hserved.modChan rfl
    exact hclosed.count _ 1

theorem refreshCmds (h : SameQueue m s t) (n : Nat) : SameQueue m s (t.refreshCmds m n) := by
  induction n generalizing t with
  | zero => exact h
  | succ n ih =>
    refine ih ?_
    unfold State.refreshCmd
    extract_lets c k _ closed
    have hnext : SameQueue m s (t.setChan m closed.refreshNext) := h.setChan rfl
    exact (hnext.count _ 1).countActs 1

theorem burstCmds (h : SameQueue m s t) (n : Nat) : SameQueue m s (t.burstCmds m n) := by
  induction n generalizing t with
  | zero => exact h
  | succ n ih =>
    refine ih ?_
    unfold State.burstCmd
    extract_lets c k _ closed
    have hnext : SameQueue m s (t.setChan m (closed.refreshBank k)) := h.setChan rfl
    exact ((hnext.count _ 1).count _ 1).countActs 1

theorem payDebt (h : SameQueue m s t) : SameQueue m s (t.payDebt m) := (h.burstCmds _).refreshCmds _

theorem sre (h : SameQueue m s t) (st : ChanState) : SameQueue m s (t.sre m st) := by
  unfold State.sre
  extract_lets entered
  have hentered : SameQueue m s entered := h.modChan rfl
  exact (SameQueue.ite hentered hentered.tick).count _ 1

end SameQueue

theorem State.foldl_chans {α : Type} (f : State → α → State) (hf : ∀ s x, (f s x).chans = s.chans) (xs : List α) (s : State) :
    (xs.foldl f s).chans = s.chans := by
  induction xs generalizing s with
  | nil => rfl
  | cons x xs ih => exact (ih (f s x)).trans (hf s x)

/-- The requests of a queue that are refused and those that go back to their ports are all there are. -/
theorem State.reissue_refuseQueued_queue (s : State) (m status : Nat) :
    (((s.refuseQueued m status).reissue m).chan m).queue = [] := by
  have hrefused : ((s.refuseQueued m status).chan m).queue = (s.chan m).queue.filter (fun e => e.req.engine.isSome) := by
    unfold State.refuseQueued
    rw [State.chan, State.foldl_chans]
    · exact congrArg Chan.queue ((s.chan_setChan m _ m).trans (if_pos rfl))
    · intro _ _; rfl
  unfold State.reissue
  rw [State.chan, State.foldl_chans]
  · refine (congrArg Chan.queue (((s.refuseQueued m status).chan_setChan m _ m).trans (if_pos rfl))).trans ?_
    show ((s.refuseQueued m status).chan m).queue.filter (fun e => e.req.engine.isNone) = []
    rw [hrefused, List.filter_filter, List.filter_eq_nil_iff]
    intro e _
    cases e.req.engine <;> simp
  · intro _ _; rfl

/-! ### The resets of the blocks (Table 8) -/

/-- A channel's reset: its queue is emptied, it is held in block reset, and its crossing is not ready. -/
theorem State.channelReset_frame (s : State) (m : Nat) :
    (s.channelReset m).clk = { s.clk with nrChan := vset s.clk.nrChan m true } ∧
      (s.channelReset m).rget kBlockResets = s.rget kBlockResets ∧
      ((s.channelReset m).chan m).st = .blockReset ∧ ((s.channelReset m).chan m).queue = [] := by
  unfold State.channelReset
  extract_lets refused aborted c live paid entered held cleared src
  obtain ⟨haborted, hqueue⟩ : SameResets s aborted ∧ (aborted.chan m).queue = [] := by
    have hrefused : SameResets s refused := (SameResets.refl s).each _ (fun _ n hv => hv.refuseHeld n 3 _)
    have hreissued := (hrefused.refuseQueued m 3).reissue m
    exact ⟨hreissued.abortSlice m, (SameQueue.abortSlice rfl).trans (refused.reissue_refuseQueued_queue m 3)⟩
  obtain ⟨hpaid, hqueue⟩ : SameResets s paid ∧ (paid.chan m).queue = [] :=
    ⟨.ite (haborted.payDebt m) haborted, (SameQueue.ite (SameQueue.payDebt rfl) rfl).trans hqueue⟩
  obtain ⟨hentered, hqueue⟩ : SameResets s entered ∧ (entered.chan m).queue = [] :=
    ⟨.ite hpaid (hpaid.sre m .blockReset), (SameQueue.ite rfl (SameQueue.sre rfl .blockReset)).trans hqueue⟩
  clear_value entered
  have hcleared : SameResets s cleared := (hentered.modChan m _).clearCounters_above (by omega) _
  have hchan : cleared.chan m = held.chan m := by
    have hchans : cleared.chans = held.chans := by
      rw [show cleared = _ from held.clearCounters_eq (0x1000 + m) chanRows]
    rw [State.chan, State.chan, hchans]
  have hheld : (held.chan m).st = .blockReset ∧ (held.chan m).queue = [] := by
    rw [State.chan_modChan, if_pos rfl]
    exact ⟨rfl, hqueue⟩
  clear_value cleared
  refine ⟨?_, hcleared.counter, ?_⟩
  · show { cleared.clk with nrChan := vset cleared.clk.nrChan m true } = _
    rw [hcleared.clk]
  · rw [← hchan] at hheld
    exact hheld

theorem SameResets.unstage {s t : State} (h : SameResets s t) : SameResets s t.unstage := by
  rw [State.unstage_eq]
  exact h.trans ⟨rfl, State.rget_restored_other t (by decide)⟩

/-- The reset of the management processor takes a pending bus access with it (R44, R373). -/
theorem State.busLost_frame (s : State) : SameResets s s.busLost ∧ s.busLost.bus.acc = none := by
  unfold State.busLost
  split
  · exact ⟨.refl s, ‹_›⟩
  · split
    · exact ⟨(SameResets.refl s).congr rfl rfl, rfl⟩
    · exact ⟨(SameResets.refl s).congr rfl rfl, rfl⟩

/-- The reset of the management processor: it stops, its queues are not ready, and no bus access pends. -/
theorem State.mgmtReset_frame (s : State) :
    s.mgmtReset.clk = { s.clk with nrOther := 7 } ∧ s.mgmtReset.rget kBlockResets = s.rget kBlockResets ∧
      s.mgmtReset.dict.mpDown = true ∧ s.mgmtReset.bus.acc = none := by
  unfold State.mgmtReset
  extract_lets lost freed
  obtain ⟨hlost, hacc⟩ := State.busLost_frame s.unstage
  have hfreed : SameResets s freed :=
    ((SameResets.refl s).unstage.trans hlost).each _ (fun _ n hv => hv.modLink n _)
  have hbus : freed.bus.acc = none :=
    lost.each_keeps (fun t => t.bus.acc = none) _ _ hacc (fun _ _ ht => ht)
  clear_value freed
  refine ⟨?_, hfreed.counter, rfl, hbus⟩
  show { freed.clk with nrOther := 7 } = _
  rw [hfreed.clk]

/-! ### BLOCK_RESET (R373) -/

def kBlockReset : Nat := ekey 0x0500 0x13

/-- The reset of a block counted and listed. -/
def State.listReset (s : State) (code inst : Nat) : State :=
  let s := s.count kBlockResets 1
  { s with clk := { s.clk with resets := s.clk.resets ++ [(code, inst)] } }

theorem State.listReset_clk (s : State) (code inst : Nat) :
    (s.listReset code inst).clk = { s.clk with resets := s.clk.resets ++ [(code, inst)] } := by
  rw [State.listReset, State.count_clk]

theorem State.listReset_counter (s : State) (code inst : Nat) (h : s.rget kBlockResets + 1 < 2 ^ 32) :
    (s.listReset code inst).rget kBlockResets = s.rget kBlockResets + 1 := by
  show (s.count kBlockResets 1).rget kBlockResets = _
  rw [s.count_u32 kBlockResets 1 (by decide) h, State.rget_rset, if_pos rfl]

theorem State.listReset_linkAct (s : State) (code inst n i : Nat) : (s.listReset code inst).linkAct n i = s.linkAct n i :=
  s.count_rget_other kBlockResets 1 (linkKey n (0x20 + i)) (ekey_ne_blockResets (by omega) _)

theorem State.listReset_lc (s : State) (code inst : Nat) : (s.listReset code inst).lc = s.lc := s.count_lc kBlockResets 1

theorem State.listReset_inReset (s : State) (code inst : Nat) : (s.listReset code inst).inReset code inst = true := by
  rw [State.inReset, s.listReset_clk code inst]
  simp

/-- The reset of each block, once counted and listed. -/
def State.resetBlock (s : State) (code inst : Nat) : State :=
  if code = 0 then s.linkReset inst 0xA
  else if code = 1 then s.channelReset inst
  else if code = 2 then s.engineReset
  else if code = 3 then s.regulatorReset
  else if code = 4 then
    { s.clearCounters 0x0400 thermRows with
      clk := { (s.clearCounters 0x0400 thermRows).clk with nrOther := nset (s.clearCounters 0x0400 thermRows).clk.nrOther 1 true } }
  else s.mgmtReset

theorem State.startBlockReset_eq (s : State) {code inst : Nat} (hboot : s.boot ≠ .held) (hpower : s.power.st ≠ 4)
    (hcan : s.canReset code inst = true) (hnot : s.inReset code inst = false) :
    s.startBlockReset code inst = (s.listReset code inst).resetBlock code inst := by
  unfold State.startBlockReset
  rw [if_neg (by simp [hboot, hpower, hcan, hnot])]
  rfl

/-- A block in reset stays as it is. -/
theorem State.startBlockReset_again (s : State) {code inst : Nat} (h : s.inReset code inst = true) :
    s.startBlockReset code inst = s := by
  unfold State.startBlockReset
  rw [if_pos (by simp [h])]

/-- A link's reset leaves the list of resets and every register. -/
theorem State.linkReset_resets (s : State) (n : Nat) (hn : n < 128) :
    (s.linkReset n 0xA).clk.resets = s.clk.resets ∧ (s.linkReset n 0xA).rget kBlockResets = s.rget kBlockResets := by
  obtain ⟨-, -, -, -, -, ht⟩ := s.linkReset_frame n 0xA hn
  rw [ht]
  exact ⟨rfl, rfl⟩

/-- The reset of a block leaves the list of resets and their count. -/
theorem State.resetBlock_resets (s : State) (code inst : Nat) (hinst : code = 0 → inst < 128) :
    (s.resetBlock code inst).clk.resets = s.clk.resets ∧ (s.resetBlock code inst).rget kBlockResets = s.rget kBlockResets := by
  have hsame {t : State} (h : SameResets s t) : t.clk.resets = s.clk.resets ∧ t.rget kBlockResets = s.rget kBlockResets :=
    ⟨congrArg Clocks.resets h.clk, h.counter⟩
  unfold State.resetBlock
  split
  · exact s.linkReset_resets inst (hinst ‹_›)
  split
  · obtain ⟨hclk, hcount, -⟩ := s.channelReset_frame inst
    exact ⟨by rw [hclk], hcount⟩
  split
  · exact hsame (SameResets.refl s).engineReset
  split
  · exact hsame (SameResets.refl s).regulatorReset
  split
  · have hthermal : ∀ r ∈ thermRows, r.hi < 256 := by decide
    have hcleared : SameResets s (s.clearCounters 0x0400 thermRows) := (SameResets.refl s).clearCounters thermRows
      (fun r hr sub hsub => by have := hthermal r hr; simp only [kBlockResets, ekey]; omega)
    exact ⟨(congrArg Clocks.resets hcleared.clk :), hcleared.counter⟩
  · obtain ⟨hclk, hcount, -⟩ := s.mgmtReset_frame
    exact ⟨by rw [hclk], hcount⟩

theorem enabled_le (v : Variant) : enabled v ≤ 128 := by cases v <;> decide

/-- The blocks that there are: an enabled link, an enabled channel that is not retired, the engine of a variant that has one, and
the single blocks. -/
theorem State.canReset_iff (s : State) (code inst : Nat) : s.canReset code inst = true ↔
    code < 6 ∧ ((code = 0 ∨ code = 1) ∧ inst < enabled s.variant ∨ 2 ≤ code ∧ inst = 0) ∧
      (code = 1 → s.retired inst = false) ∧ (code = 2 → s.variant ≠ .axd3200) := by
  have hslices : slices s.variant ≠ 0 ↔ s.variant ≠ .axd3200 := by cases s.variant <;> simp [slices]
  unfold State.canReset
  split
  · simp_all
  split
  · simp_all
  split
  · simp_all
  · simp only [Bool.and_eq_true, decide_eq_true_eq]
    constructor
    · rintro ⟨hcode, hinst⟩
      exact ⟨by omega, .inr ⟨by omega, hinst⟩, fun h => absurd h ‹_›, fun h => absurd h ‹_›⟩
    · rintro ⟨hcode, hinst, -, -⟩
      omega

@[simp] theorem State.canReset_asks (s : State) (m : Master) (k code inst : Nat) (v : List Byte) :
    (s.asks m k v).canReset code inst = s.canReset code inst := by
  simp only [State.canReset, State.retired, State.asks_variant, State.chan_asks]

/-- The management processor runs where a command is taken up. -/
theorem State.boot_of_obeys {s : State} {m : Master} {k : Nat} {arg : List Byte} (h : s.obeys m k arg = true) :
    s.boot ≠ .held := by
  have hreach : s.reaches m k arg = true := by
    simp only [State.obeys, Bool.and_eq_true] at h
    exact h.1.1
  obtain ⟨-, -, hjudge, -⟩ := State.reaches_parts hreach
  have hruns : s.mpRuns = true := by
    by_contra hdown
    rw [State.judge, if_pos (by simpa using hdown)] at hjudge
    cases hjudge
  simp only [State.mpRuns, Bool.and_eq_true, decide_eq_true_eq] at hruns
  exact hruns.1.1

theorem State.runCmd_blockReset (s : State) (m : Master) (arg : List Byte) (env : AccEnv) :
    s.runCmd m kBlockReset arg env =
      if (s.blockResetOp (bytesNat arg % 256) (bytesNat arg / 256)).1 = 0
      then (.ended 0, (s.blockResetOp (bytesNat arg % 256) (bytesNat arg / 256)).2)
      else (.refused (s.blockResetOp (bytesNat arg % 256) (bytesNat arg / 256)).1,
        (s.blockResetOp (bytesNat arg % 256) (bytesNat arg / 256)).2) := rfl

/-- A block reset is the write of its entry. -/
theorem exec_blockReset_eq (s : State) (m : Master) (arg : List Byte) (h : s.obeys m kBlockReset arg = true) :
    exec (.blockReset m arg) s = .next (s.writeBy m kBlockReset arg {}).settle := by
  obtain ⟨hm, -, hlen, -⟩ := State.obeys_parts h
  exact if_pos (by simp only [Instr.wf, hm, isVal, Bool.true_and, decide_eq_true_eq]; omega)

/-- A block that there is: the command ends with OK. -/
theorem exec_blockReset_told (s : State) (m : Master) (arg : List Byte) (h : s.obeys m kBlockReset arg = true)
    (hcan : s.canReset (bytesNat arg % 256) (bytesNat arg / 256) = true) :
    exec (.blockReset m arg) s = .next (State.settle
      ((((s.asks m kBlockReset arg).startBlockReset (bytesNat arg % 256) (bytesNat arg / 256)).cmdEnd kBlockReset 0).tells
        s.dict.mpDown m kBlockReset 0)) := by
  have hop : (s.asks m kBlockReset arg).blockResetOp (bytesNat arg % 256) (bytesNat arg / 256) =
      (0, (s.asks m kBlockReset arg).startBlockReset (bytesNat arg % 256) (bytesNat arg / 256)) :=
    if_pos (by rw [State.canReset_asks, hcan])
  rw [exec_blockReset_eq s m arg h, State.obeys_told h (by rw [State.runCmd_blockReset, hop, if_pos rfl]; rfl)]

/-- A block that there is and that is not in reset is counted, listed and reset. -/
theorem exec_blockReset_starts (s : State) (m : Master) (arg : List Byte) (h : s.obeys m kBlockReset arg = true)
    (hcan : s.canReset (bytesNat arg % 256) (bytesNat arg / 256) = true)
    (hnot : s.inReset (bytesNat arg % 256) (bytesNat arg / 256) = false) (hpower : s.power.st ≠ 4) :
    exec (.blockReset m arg) s = .next (State.settle
      (((((s.asks m kBlockReset arg).listReset (bytesNat arg % 256) (bytesNat arg / 256)).resetBlock (bytesNat arg % 256)
        (bytesNat arg / 256)).cmdEnd kBlockReset 0).tells s.dict.mpDown m kBlockReset 0)) := by
  rw [exec_blockReset_told s m arg h hcan, State.startBlockReset_eq]
  · rw [State.asks_boot]; exact State.boot_of_obeys h
  · rw [State.asks_power]; exact hpower
  · rw [State.canReset_asks, hcan]
  · rw [State.inReset_asks, hnot]

/-- A block that there is not: the command is refused. -/
theorem exec_blockReset_refused (s : State) (m : Master) (arg : List Byte) (h : s.obeys m kBlockReset arg = true)
    (hcan : s.canReset (bytesNat arg % 256) (bytesNat arg / 256) = false)
    (hretired : ¬ (bytesNat arg % 256 = 1 ∧ bytesNat arg / 256 < enabled s.variant)) :
    exec (.blockReset m arg) s = .next (State.settle
      (((s.asks m kBlockReset arg).setCmd kBlockReset { s.cmd kBlockReset with refused := true }).tells s.dict.mpDown m
        kBlockReset 0x0105)) := by
  have hop : (s.asks m kBlockReset arg).blockResetOp (bytesNat arg % 256) (bytesNat arg / 256) =
      (0x0105, s.asks m kBlockReset arg) := by
    unfold State.blockResetOp
    rw [State.canReset_asks, hcan, State.asks_variant, if_neg (by decide), if_neg hretired]
  rw [exec_blockReset_eq s m arg h,
    State.obeys_told h (by rw [State.runCmd_blockReset, hop, if_neg (by simp), State.closeCmd, State.cmd_asks])]

/-- What the reset of a link, a channel, the evaluator and the management processor leaves of its block. -/
theorem State.resetBlock_block (s : State) (code inst : Nat) (hinst : code ≤ 1 → inst < 128) (hin : s.inReset code inst = true) :
    let t := s.resetBlock code inst
    (code = 0 → (t.link inst).cause = 0xA ∧ (s.linkAct inst 1 = 1 → s.lc.st ≠ .void → (t.link inst).st = .reset) ∧
      t.clk.nrLink.getLsbD inst = true ∧ (t.link inst).resp = []) ∧
    (code = 1 → (t.chan inst).st = .blockReset ∧ (t.chan inst).queue = [] ∧ t.clk.nrChan.getLsbD inst = true) ∧
    (code = 4 → nbit t.clk.nrOther 1 = true) ∧
    (code = 5 → t.dict.mpDown = true ∧ t.clk.nrOther = 7 ∧ t.bus.acc = none) := by
  refine ⟨fun hcode => ?_, fun hcode => ?_, fun hcode => ?_, fun hcode => ?_⟩ <;> subst hcode
  · have hn := hinst (by decide)
    show ((s.linkReset inst 0xA).link inst).cause = 0xA ∧ _
    obtain ⟨hlink, -, -, -, -, ht⟩ := s.linkReset_frame inst 0xA hn
    have hclk : (s.linkReset inst 0xA).clk = { s.clk with nrLink := vset s.clk.nrLink inst true } := by rw [ht]
    refine ⟨by rw [hlink], fun hact hvoid => ?_, ?_, ?_⟩
    · show ((s.linkReset inst 0xA).link inst).st = _
      rw [hlink]
      simp [State.freshState, hact, hvoid, hin]
    · show (s.linkReset inst 0xA).clk.nrLink.getLsbD inst = true
      rw [hclk]
      exact vset_getLsbD _ _ _ hn
    · show ((s.linkReset inst 0xA).link inst).resp = _
      rw [hlink]
  · have hm := hinst (by decide)
    show ((s.channelReset inst).chan inst).st = _ ∧ ((s.channelReset inst).chan inst).queue = _ ∧
      (s.channelReset inst).clk.nrChan.getLsbD inst = _
    obtain ⟨hclk, -, hst, hqueue⟩ := s.channelReset_frame inst
    exact ⟨hst, hqueue, by rw [hclk]; exact vset_getLsbD _ _ _ hm⟩
  · show nbit (nset (s.clearCounters 0x0400 thermRows).clk.nrOther 1 true) 1 = true
    rw [nbit, nset, if_pos rfl, Nat.testBit_or, Bool.or_eq_true]
    exact .inr (by decide)
  · show s.mgmtReset.dict.mpDown = _ ∧ s.mgmtReset.clk.nrOther = _ ∧ s.mgmtReset.bus.acc = _
    obtain ⟨hclk, -, hdown, hacc⟩ := s.mgmtReset_frame
    exact ⟨hdown, by rw [hclk], hacc⟩

/-! ### The end of a block's reset (R373) -/

/-- A reset off the list. -/
def State.unlistReset (s : State) (code inst : Nat) : State :=
  { s with clk := { s.clk with resets := s.clk.resets.filter (fun x => decide (x ≠ (code, inst))) } }

theorem State.unlistReset_inReset (s : State) (code inst : Nat) : (s.unlistReset code inst).inReset code inst = false := by
  simp [State.inReset, State.unlistReset]

theorem exec_blockResetEnd_eq (s : State) (code inst : Nat) (hcode : code ≤ 5) (hinst : inst < 128) :
    exec (.blockResetEnd code inst) s = .next (s.endBlockReset code inst).settle := by
  have hexec : exec (.blockResetEnd code inst) s = finish (Instr.blockResetEnd code inst).wf (s.endBlockReset code inst) := rfl
  rw [hexec, finish_wf (by simp [Instr.wf, hcode, hinst])]

/-- A channel leaves its reset for self-refresh where that is forced, else for an exit with a full window. -/
theorem State.channelResetEnd_frame (s : State) (m : Nat) : SameResets s (s.channelResetEnd m) ∧
    if (s.chan m).forced then ((s.channelResetEnd m).chan m).st = .inSr
    else ((s.channelResetEnd m).chan m).st = .exiting ∧ ((s.channelResetEnd m).chan m).fullExit = true := by
  have hback := (SameResets.refl s).modChan m (fun c => { c with st := .inSr })
  have hchan : (s.modChan m (fun c => { c with st := .inSr })).chan m = { s.chan m with st := .inSr } := by
    rw [State.chan_modChan, if_pos rfl]
  unfold State.channelResetEnd
  simp only [hchan]
  by_cases hforced : (s.chan m).forced = true
  · rw [if_pos hforced, if_pos hforced, hchan]
    exact ⟨hback, rfl⟩
  · rw [if_neg hforced, if_neg hforced]
    refine ⟨hback.srx m true, ?_⟩
    have hexit : ((s.modChan m (fun c => { c with st := .inSr })).srx m true).chan m =
        { s.chan m with st := .exiting, fullExit := true, exitFrom := s.now, forced := false,
                        srTime := (s.now - (s.chan m).srSince) / 2 } := by
      unfold State.srx
      rw [State.chan, State.count_chans, ← State.chan, State.chan_setChan, if_pos rfl, hchan]
      rfl
    rw [hexit]
    exact ⟨rfl, rfl⟩

/-- The management processor runs again and says so, and takes the traps that still stand. -/
theorem State.mgmtResetEnd_frame (s : State) :
    s.mgmtResetEnd.clk.resets = s.clk.resets ∧ s.mgmtResetEnd.dict.mpDown = false ∧ nbit s.mgmtResetEnd.bus.reasons 2 = true ∧
      s.mgmtResetEnd.faults.nmiWait = [] ∧
      ∀ n ∈ s.faults.nmiWait, n < 256 →
        (n ∈ s.mgmtResetEnd.faults.nmi ↔ n ∈ s.faults.nmi ∨ s.faults.sticky.getLsbD n = true) := by
  unfold State.mgmtResetEnd
  rw [State.unstage_eq]
  refine ⟨rfl, rfl, ?_, rfl, fun n hwait hn => ?_⟩
  · show nbit (nset s.bus.reasons 2 true) 2 = true
    rw [nbit, nset, if_pos rfl, Nat.testBit_or, Bool.or_eq_true]
    exact .inr (by decide)
  · show n ∈ (s.faults.nmiWait.filter _).reverse ++ s.faults.nmi ↔ _
    rw [List.mem_append, List.mem_reverse, List.mem_filter, if_pos hn]
    tauto

/-- The end of a reset that is on the list. -/
def State.releaseBlock (s : State) (code inst : Nat) : State :=
  if code = 0 then s.modLink inst (fun l => if l.st = .reset then { l with st := s.freshState inst } else l)
  else if code = 1 then (if s.retired inst then s else s.channelResetEnd inst)
  else if code = 5 then s.mgmtResetEnd
  else s

theorem State.endBlockReset_eq (s : State) {code inst : Nat} (h : s.inReset code inst = true) :
    s.endBlockReset code inst = (s.unlistReset code inst).releaseBlock code inst := by
  unfold State.endBlockReset
  rw [if_neg (by simp [h])]
  rfl

theorem State.releaseBlock_resets (s : State) (code inst : Nat) : (s.releaseBlock code inst).clk.resets = s.clk.resets := by
  unfold State.releaseBlock
  split
  · rfl
  split
  · split
    · rfl
    · rw [(s.channelResetEnd_frame inst).1.clk]
  split
  · exact s.mgmtResetEnd_frame.1
  · rfl

/-- What the end of a reset does to its link. -/
theorem State.releaseBlock_link (s : State) (n : Nat) (h : s.inReset 0 n = false) :
    (∀ k, k ≠ n → (s.releaseBlock 0 n).link k = s.link k) ∧
    ((s.link n).st ≠ .reset → (s.releaseBlock 0 n).link n = s.link n) ∧
    ((s.link n).st = .reset → (s.releaseBlock 0 n).link n = { s.link n with
      st := if s.linkAct n 1 = 0 ∨ s.lc.st = .void then .disabled else if (s.link n).qtHeld then .reset else .detect }) := by
  have hfresh : s.freshState n =
      if s.linkAct n 1 = 0 ∨ s.lc.st = .void then .disabled else if (s.link n).qtHeld then .reset else .detect := by
    rw [State.freshState, h, Bool.or_false]
  rw [State.releaseBlock, if_pos rfl]
  refine ⟨fun k hk => ?_, fun hst => ?_, fun hst => ?_⟩
  · rw [State.link_modLink, if_neg hk]
  · rw [State.link_modLink, if_pos rfl, if_neg hst]
  · rw [State.link_modLink, if_pos rfl, if_pos hst, hfresh]

/-! ### The crossings (R370) -/

theorem exec_cdcResync_eq (s : State) (q : CdcQueue) (h : q.wf = true) : exec (.cdcResync q) s = .next (s.cdcResync q).settle :=
  finish_wf h _

/-- Settles O53: `State.resetBlock_block` says what each reset leaves of its block, `State.releaseBlock` how it ends. -/
theorem blockResetsHoldOneBlock : Obligations.BlockResetsHoldOneBlock := by
  intro s
  refine ⟨?_, fun code inst hcode hinst => ?_, fun n hn => ?_, fun hmp => ?_⟩
  · intro m arg k code inst u begun there hobeys
    have hthere : s.canReset code inst = true ↔ there := s.canReset_iff code inst
    refine ⟨fun hnot hretired => ?_, fun hexists hin => ?_, fun hexists hin hpower => ?_⟩
    · have hcan : s.canReset code inst = false := by simpa [← hthere] using hnot
      exact exec_blockReset_refused s m arg hobeys hcan hretired
    · rw [exec_blockReset_told s m arg hobeys (hthere.mpr hexists),
        State.startBlockReset_again _ ((s.inReset_asks m kBlockReset code inst arg).trans hin)]
      rfl
    · have hlow : code ≤ 1 → inst < 128 := by
        obtain ⟨-, hblock, -⟩ := hexists
        have := enabled_le s.variant
        omega
      obtain ⟨hresets, hcount⟩ := (u.listReset code inst).resetBlock_resets code inst (fun h => hlow (by omega))
      obtain ⟨hlink, hblock⟩ := (u.listReset code inst).resetBlock_block code inst hlow (u.listReset_inReset code inst)
      refine ⟨(u.listReset code inst).resetBlock code inst, ?_, ⟨?_, fun hmax => ?_⟩, fun h => ?_, hblock⟩
      · exact exec_blockReset_starts s m arg hobeys (hthere.mpr hexists) hin hpower
      · rw [hresets, State.listReset_clk, State.asks_clk]
      · have hcounter : u.rget kBlockResets = s.rget kBlockResets := s.rget_asks m k kBlockResets arg
        exact hcount.trans ((u.listReset_counter code inst (by rw [hcounter]; exact hmax)).trans (by rw [hcounter]; rfl))
      · obtain ⟨hcause, hst, hcrossing, hresp⟩ := hlink h
        have hact : (u.listReset code inst).linkAct inst 1 = s.linkAct inst 1 :=
          (u.listReset_linkAct code inst inst 1).trans (s.rget_asks m k (linkKey inst (0x20 + 1)) arg)
        have hlc : (u.listReset code inst).lc = s.lc := (u.listReset_lc code inst).trans (s.asks_lc m k arg)
        rw [hact, hlc] at hst
        exact ⟨hcause, hst, hcrossing, hresp⟩
  · constructor
    · intro hnot
      rw [exec_blockResetEnd_eq s code inst hcode hinst, State.endBlockReset, if_pos (by simp [hnot])]
    intro hin
    refine ⟨(s.unlistReset code inst).releaseBlock code inst, ?_, State.releaseBlock_resets _ code inst, fun h1 h5 => ?_,
      fun h0 h1 h5 => ?_, fun h => ?_, fun h hretired => ?_, fun h => ?_⟩
    · rw [exec_blockResetEnd_eq s code inst hcode hinst, s.endBlockReset_eq hin]
    · unfold State.releaseBlock
      rw [if_neg h1, if_neg h5]
      split
      · exact ⟨rfl, rfl⟩
      · exact ⟨rfl, rfl⟩
    · unfold State.releaseBlock
      rw [if_neg h0, if_neg h1, if_neg h5]
      rfl
    · subst h
      exact (s.unlistReset 0 inst).releaseBlock_link inst (s.unlistReset_inReset 0 inst)
    · subst h
      have hend : (s.unlistReset 1 inst).releaseBlock 1 inst = (s.unlistReset 1 inst).channelResetEnd inst := by
        have hactive : (s.unlistReset 1 inst).retired inst = false := hretired
        rw [State.releaseBlock, if_neg (by decide), if_pos rfl, hactive]
        rfl
      rw [hend]
      exact ((s.unlistReset 1 inst).channelResetEnd_frame inst).2
    · subst h
      exact (s.unlistReset 5 inst).mgmtResetEnd_frame.2
  · have hlink : (CdcQueue.link n).wf = true := decide_eq_true hn
    have hchan : (CdcQueue.channel n).wf = true := decide_eq_true hn
    refine ⟨fun h => ?_, fun h => ?_, fun h => ?_, fun h => ?_⟩
    · rw [exec_cdcResync_eq s _ hlink, State.cdcResync, if_neg (by simp [h])]
    · rw [exec_cdcResync_eq s _ hlink, State.cdcResync, if_pos h]
    · rw [exec_cdcResync_eq s _ hchan, State.cdcResync, if_neg (by simp [h])]
    · rw [exec_cdcResync_eq s _ hchan, State.cdcResync, if_pos h]
  · have hfree : ¬ s.inReset 5 0 = true := by simp [hmp]
    refine ⟨List.forall_mem_cons.mpr ⟨?_, List.forall_mem_singleton.mpr ?_⟩, fun htherm => ?_⟩
    · rw [exec_cdcResync_eq s _ rfl, State.cdcResync, if_neg hfree]
    · rw [exec_cdcResync_eq s _ rfl, State.cdcResync, if_neg hfree]
    · rw [exec_cdcResync_eq s _ rfl, State.cdcResync, if_neg (by simp [hmp, htherm])]

end Sys2Proof.Machine
end

section
/-!
PROOFS. Slice0/Training: the rows of a training take a link one state on (R81–R84), end it in FAILED (R84), or bring the link to
ACTIVE (R83, R86, R94).
-/

namespace Sys2Proof.Machine

/-! ### A row that leaves the stack quiet -/

/-- A row whose effect is a quiet state answers that state. -/
theorem exec_quiet {i : Instr} {s t u : State} (hexec : exec i s = finish i.wf t) (hwf : i.wf = true) (heffect : t = u)
    (hcalm : u.calm = true) : exec i s = .next u := by
  rw [hexec, finish_calm _ _ hwf (heffect ▸ hcalm), heffect]

/-- Storing a counter of a link leaves a quiet stack quiet. -/
theorem State.calm_linkCounter (s : State) (n sub v : Nat) (hn : n < 128) (hsub : sub < 256) :
    (s.rset (linkKey n sub) v).calm = s.calm :=
  s.calm_rset _ v (linkKey_ne_auto n sub hn hsub)

/-- So does a report that follows, where its mask asks for no reset. -/
theorem State.calm_linkCounter_report (s : State) (n sub v source inst : Nat) (hn : n < 128) (hsub : sub < 256)
    (hmild : s.mild source = true) : ((s.rset (linkKey n sub) v).report source inst).calm = s.calm := by
  rw [State.report_calm _ _ _ (by rw [s.mild_rset _ _ _ (linkKey_ne_mask n sub source hn hsub), hmild]),
    s.calm_linkCounter n sub v hn hsub]

/-- A change of a link that has just been stored. -/
theorem State.modLink_setLink (s : State) (n : Nat) (l : Link) (f : Link → Link) (h : l ≠ {}) :
    (s.setLink n l).modLink n f = s.setLink n (f l) := by
  rw [State.modLink, State.link_setLink, if_pos rfl, State.setLink_setLink _ _ _ _ h]

/-! ### One state on (R81–R84) -/

/-- Settles O2: each row finds its condition met, and what it stores is the link of the statement. -/
theorem linkTrainingAdvances : Obligations.LinkTrainingAdvances := by
  intro s n hn hcalm hlive
  have hlink : isLink n = true := decide_eq_true hn
  refine ⟨fun lanes hlanes hmap hst hidled hmask => ?_, fun hst => ?_, fun lanes polInv swap hlanes hpol hst huse => ?_,
    fun hst => ?_, fun hst hphase => ?_, fun lanes polInv swap hlanes hpol hst hphase hrx huse => ?_⟩
  · refine exec_quiet (t := s.detectLock n lanes) rfl (by simp [Instr.wf, hlink, hlanes]) ?_ hcalm
    exact if_pos (by simp [hlive, hmap, hst, hidled, hmask])
  · refine exec_quiet (t := s.equalizeDone n) rfl hlink ?_ hcalm
    exact if_pos (by simp [hlive, hst])
  · refine exec_quiet (t := s.alignDone n lanes polInv swap) rfl (by simp [Instr.wf, hlink, hlanes, hpol]) ?_ hcalm
    exact (if_pos (by simp [hlive, hst])).trans (if_neg huse)
  · refine exec_quiet (t := s.failedTimeout n) rfl hlink ?_ hcalm
    exact if_pos (by simp [hlive, hst])
  · refine exec_quiet (t := s.equalizeDone n) rfl hlink ?_ hcalm
    exact (if_neg (by simp [hst])).trans (if_pos (by simp [hlive, hst, hphase]))
  · refine exec_quiet (t := s.alignDone n lanes polInv swap) rfl (by simp [Instr.wf, hlink, hlanes, hpol]) ?_ hcalm
    exact (if_neg (by simp [hst])).trans (if_pos (by simp [hlive, hst, hphase, hrx, huse]))

/-! ### FAILED (R84) -/

/-- A training that fails is recorded, counted and reported. -/
theorem State.trainFail_eq (s : State) (n cause : Nat) (hn : n < 128) (hcount : s.rget (linkKey n 0x11) + 1 < 2 ^ 32) :
    s.trainFail n cause = ((s.setLink n { s.link n with st := .failed, cause := cause }).rset (linkKey n 0x11)
      (s.rget (linkKey n 0x11) + 1)).report 0 n := by
  rw [State.trainFail, State.count_link _ n 0x11 1 hn (by decide) (by simpa using hcount)]
  rfl

/-- The limit of a state of training, by its cause of failure. -/
theorem State.trainingLimit_fails (s : State) (n cause : Nat) (hlive : s.linkLive n = true) (hidled : (s.link n).idled = false)
    (hst : ((s.link n).st = .equalize ∧ cause = 1) ∨ ((s.link n).st = .align ∧ cause = 2) ∨
      ((s.link n).st = .config ∧ s.admitted n = false ∧ cause = 3)) : s.trainingLimit n = s.trainFail n cause := by
  rcases hst with ⟨hst, rfl⟩ | ⟨hst, rfl⟩ | ⟨hst, hadmitted, rfl⟩
  · simp [State.trainingLimit, hlive, hidled, hst]
  · simp [State.trainingLimit, hlive, hidled, hst]
  · simp [State.trainingLimit, hlive, hidled, hst, hadmitted]

/-- Settles O3: every failure is `State.trainFail`. -/
theorem linkTrainingFails : Obligations.LinkTrainingFails := by
  intro s n hn hcalm hlive hmild hcount
  have hlink : isLink n = true := decide_eq_true hn
  have hfail (cause : Nat) := s.trainFail_eq n cause hn hcount
  have hquiet (l : Link) (v : Nat) : (((s.setLink n l).rset (linkKey n 0x11) v).report 0 n).calm = true := by
    rw [State.calm_linkCounter_report _ n 0x11 v 0 n hn (by decide) (by simpa using hmild), State.calm_setLink, hcalm]
  refine ⟨fun cause hidled hst => ?_, fun lanes polInv swap hlanes hpol hst hnone => ?_, fun lane hlane hst hbit => ?_⟩
  · refine exec_quiet (t := s.trainingLimit n) rfl hlink ?_ (hquiet ..)
    rw [s.trainingLimit_fails n cause hlive hidled hst, hfail]
  · refine exec_quiet (t := s.alignDone n lanes polInv swap) rfl (by simp [Instr.wf, hlink, hlanes, hpol]) ?_ (hquiet ..)
    exact ((if_pos (by simp [hlive, hst])).trans (if_pos hnone)).trans (hfail 7)
  · refine exec_quiet (t := s.laneWithoutLock n lane) rfl (by simp [Instr.wf, hlink, isLane, hlane]) ?_ ?_
    · rw [← hfail]
      exact if_pos (by simp [hlive, hst, nbit, hbit])
    · split
      · exact hquiet ..
      · exact hcalm

/-! ### ACTIVE (R83, R86, R94) -/

/-- Credits withheld from a link whose state has just been stored: they wait for the end of the drain, and are granted after
it (R26). -/
theorem State.grantLink_setLink (s : State) (n : Nat) (l : Link) (hst : l.st = .active) :
    (s.setLink n l).grantLink n = s.setLink n (if s.dict.draining then l else l.grantOwed) := by
  have hl : l ≠ {} := Link.ne_default_of_st l (by simp [hst])
  by_cases hdrain : s.dict.draining = true
  · simp [State.grantLink, hdrain]
  · simp [State.grantLink, hdrain, hst, State.modLink_setLink _ _ _ _ hl]

/-- Settles O4: what the link owes is granted unless a change of profile still drains. -/
theorem linkEntersActive : Obligations.LinkEntersActive := by
  intro s n hn hcalm hlive
  have hlink : isLink n = true := decide_eq_true hn
  constructor
  · intro hst hstep hkeep hcause hsent hadmitted hready hmap hlanes hcount
    refine exec_quiet (t := s.configComplete n) rfl hlink ?_ ?_
    · have hne : linkKey n 0x10 ≠ linkKey n 0x09 := linkKey_inj n _ _ (by decide)
      have hlanes' : s.txLanesFor n (s.link n).rx.partner.rxLanesOk ≠ 0 := hlanes
      simp only [State.configComplete]
      rw [if_pos (by simp [hlive, hst, hstep, hkeep, hcause, hsent, hadmitted, hready, hmap]), if_neg hlanes',
        State.grantLink_setLink _ _ _ rfl, State.count_link _ n 0x10 1 hn (by decide) (by simpa [hne] using hcount),
        State.rget_rset, if_neg hne, State.rget_setLink]
      congr 3
      cases s.dict.draining <;> simp [Link.grantOwed, qdatCredits, State.txLanesFor]
    · rw [State.calm_linkCounter _ _ _ _ hn (by decide), State.calm_linkCounter _ _ _ _ hn (by decide), State.calm_setLink, hcalm]
  · intro hst hstep hkeep hver hrole hsent hphase hcount hhost rxLanes txLanes hrx htx
    refine exec_quiet (t := s.recoverComplete n) rfl hlink ?_ ?_
    · have hrx' : s.rxOk n ≠ 0 := hrx
      have htx' : s.txLanesKept n (s.link n).rx.partner.rxLanesOk ≠ 0 := htx
      simp only [State.recoverComplete]
      rw [if_pos (by simp [hlive, hst, hstep, hkeep, hver, hrole, hsent, hphase, hrx', htx']),
        State.hostLanesLost, if_pos hhost, State.grantLink_setLink _ _ _ rfl,
        State.count_link _ n 0x12 1 hn (by decide) (by simpa using hcount), State.rget_setLink]
      congr 2
      cases s.dict.draining <;> simp [Link.grantOwed, rxLanes, txLanes, State.rxOk, State.txLanesKept, State.halfRate]
    · rw [State.calm_linkCounter _ _ _ _ hn (by decide), State.calm_setLink, hcalm]

end Sys2Proof.Machine
end

section
/-!
PROOFS. Slice0/Operating: what an operating link does about frames and lanes that are lost: the replay timer (R78, R86), a lane of
the receiver or of the transmitter out of use (R89–R91).
-/

namespace Sys2Proof.Machine

theorem Link.st_ne_detect {l : Link} (h : l.st = .active ∨ l.st = .laneSwitch) : l.st ≠ .detect := by
  rcases h with h | h <;> simp [h]

/-! ### The replay timer (R78, R86) -/

/-- Settles O6: the count decides between a replay and RECOVER, which keeps what is stored. -/
theorem replayTimerReplaysOrRecovers : Obligations.ReplayTimerReplaysOrRecovers := by
  intro s n f r hn hcalm hlive hst hstored
  refine exec_quiet (t := s.replayTimer n) rfl (decide_eq_true hn) ?_ hcalm
  have hcounted (tx : LinkTx) : ({ s.link n with tx := tx } : Link) ≠ {} := Link.ne_default_of_st _ (Link.st_ne_detect hst)
  simp only [State.replayTimer]
  rw [if_pos (by simp [hlive, hst, hstored]), State.enterRecover, State.modLink_setLink _ _ _ _ (hcounted _),
    State.modLink_setLink _ _ _ _ (hcounted _), apply_ite (s.setLink n)]
  simp only [LinkTx.replayFrom, LinkTx.oldest, hstored]
  rfl

/-! ### Lanes lost (R89–R91) -/

/-- Declaring a lane failed leaves a quiet stack quiet, where the mask of source 1 asks for no reset. -/
theorem State.calm_declareLane (s : State) (n lane : Nat) (hn : n < 128) (hst : (s.link n).st ≠ .detect)
    (hcount : s.rget (linkKey n 0x13) + 1 < 2 ^ 32) (hnak : s.rget (linkKey n 0x19) + 1 < 2 ^ 32) (hmild : s.mild 1 = true) :
    (s.declareLane n lane).calm = s.calm := by
  have hnakCounted (v : Nat) : (s.rset (linkKey n 0x19) v).mild 1 = true := by
    rw [s.mild_rset _ v 1 (linkKey_ne_mask n 0x19 1 hn (by decide)), hmild]
  rw [s.declareLane_eq n lane hn hst hcount hnak]
  refine (State.calm_linkCounter_report _ n 0x13 _ 1 n hn (by decide) ?_).trans ?_
  · rw [State.mild_modLink]
    split
    · exact hmild
    · exact hnakCounted _
  · rw [State.calm_modLink]
    split
    · rfl
    · exact s.calm_linkCounter n 0x19 _ hn (by decide)

/-- The lanes that a transmitter gives up are counted, where there is one. -/
theorem State.hostLanesLost_eq (s : State) (n lost : Nat) (hn : n < 128) (hlost : lost ≠ 0)
    (hcount : s.rget (linkKey n 0x13) + (b2n (nbit lost 0) + b2n (nbit lost 1)) < 2 ^ 32) : s.hostLanesLost n lost =
      (((s.modLink n (fun l => { l with txFailed := l.txFailed ||| lost })).rset (linkKey n 0x13)
        (s.rget (linkKey n 0x13) + (b2n (nbit lost 0) + b2n (nbit lost 1)))).report 1 n) := by
  simp only [State.hostLanesLost, if_neg hlost]
  rw [State.count_link _ n 0x13 _ hn (by decide) (by simpa using hcount), State.rget_modLink]

/-- What the transmitter's change of lanes does to its link: it goes over to the lanes left, or into RECOVER without any. -/
def Link.switchedTx (l : Link) (half : Bool) (lanes : Nat) : Link :=
  if lanes = 0 then { l with
    st := .recover, phase := if l.halfRate = half then 1 else 0,
    tx := { l.tx with step2 := 0, nulls := 0, replayHdr := none, replay := [] },
    rx := { l.rx with partner := { l.rx.partner with step := 0 }, locked := false, failStreak := 0, goodStreak := 0 } }
  else { l with
    txLanes := lanes, st := .laneSwitch, tx := { l.tx with nulls := 16, replayHdr := some l.tx.oldest, replay := [] } }

theorem State.switchTx_eq (s : State) (n lanes : Nat) :
    s.switchTx n lanes = s.modLink n (fun l => l.switchedTx s.halfRate lanes) := by
  unfold State.switchTx Link.switchedTx
  split <;> rfl

theorem Link.switchedTx_ne (l : Link) (half : Bool) (lanes : Nat) : l.switchedTx half lanes ≠ {} := by
  unfold Link.switchedTx
  split <;> exact Link.ne_default_of_st _ (by simp)

/-- Settles O7: for the receiver `State.declareLane`, for the transmitter `State.switchTx` with `State.hostLanesLost`. -/
theorem laneLossDropsToSingleLane : Obligations.LaneLossDropsToSingleLane := by
  constructor
  · intro s n hn hcalm hlive hmild hst hlanes hcount hnak lost
    have hlost (u : State) (lane : Nat) (hlink : (u.link n).st = (s.link n).st ∧ (u.link n).rx.nak = (s.link n).rx.nak)
        (hrget : ∀ k, u.rget k = s.rget k) (hu : u.calm = true ∧ u.mild 1 = true) :
        u.declareLane n lane = lost u lane ∧ (lost u lane).calm = true := by
      have hdetect : (u.link n).st ≠ .detect := hlink.1 ▸ Link.st_ne_detect hst
      rw [← hrget] at hcount hnak
      have heq : u.declareLane n lane = lost u lane := by
        rw [u.declareLane_eq n lane hn hdetect hcount hnak, hlink.2, hrget, hrget]
      rw [← heq, u.calm_declareLane n lane hn hdetect hcount hnak hu.2]
      exact ⟨rfl, hu.1⟩
    constructor
    · intro lane hlane
      obtain ⟨heq, hquiet⟩ := hlost s lane ⟨rfl, rfl⟩ (fun _ => rfl) ⟨hcalm, hmild⟩
      refine exec_quiet (t := s.laneSignalLoss n lane) rfl (by simp [Instr.wf, isLink, isLane, hn, hlane]) ?_ hquiet
      exact (if_pos (by simp [hlive, hst, hlanes])).trans heq
    · intro tailA tailB hlim u lim
      have hlink : (u.link n).st = (s.link n).st ∧ (u.link n).rx.nak = (s.link n).rx.nak := by simp [u]
      have hdeclare (lane : Nat) := hlost u lane hlink (s.rget_modLink n _) ⟨hcalm, hmild⟩
      refine exec_quiet (t := s.laneSerWindow n tailA tailB) rfl (decide_eq_true hn) ?_ ?_
      · rw [← (hdeclare 0).1, ← (hdeclare 1).1]
        exact if_pos (by simp [hlive, hst, hlanes, hlim])
      · split
        · exact (hdeclare 0).2
        · split
          · exact (hdeclare 1).2
          · exact hcalm
  · intro s n hn hcalm hlive hmild hst hleft hlanes lost k hcount
    have hle : (s.link n).txLanes &&& (s.link n).rx.hostLanes ≤ (s.link n).txLanes := Nat.and_le_left
    have hlost : lost ≠ 0 := by omega
    refine exec_quiet (t := s.txLaneSwitch n) rfl (decide_eq_true hn) ?_ ?_
    · have hswitch : s.txLaneSwitch n =
          (s.switchTx n ((s.link n).txLanes &&& (s.link n).rx.hostLanes)).hostLanesLost n lost :=
        if_pos (by simp [hlive, hst, hleft])
      rw [hswitch, State.switchTx_eq, State.hostLanesLost_eq _ n lost hn hlost (by rw [State.rget_modLink]; exact hcount),
        State.modLink_modLink _ _ _ _ (Link.switchedTx_ne _ _ _)]
      simp only [State.modLink, Link.switchedTx]
      split <;> rfl
    · rw [State.calm_linkCounter_report _ _ _ _ _ _ hn (by decide) (by simpa using hmild), State.calm_modLink, hcalm]

end Sys2Proof.Machine
end

section
/-!
PROOFS. Slice0/Transmit: the frame that the transmitter of a link puts on its lanes (R65, R66, R70, R76, R78, R79).
-/

namespace Sys2Proof.Machine

/-- A link is changed by what a function makes of it alone. -/
theorem State.modLink_congr (s : State) (n : Nat) {f g : Link → Link} (h : f (s.link n) = g (s.link n)) :
    s.modLink n f = s.modLink n g := by
  simp only [State.modLink, h]

/-! ### What a link transmits, by its state (Table 9) -/

theorem State.frameTransmit_silent (s : State) (n : Nat) (hst : (s.link n).st ∈ [.disabled, .reset, .idle, .failed]) :
    s.frameTransmit n = s.modLink n (fun l => { l with tx := { l.tx with pins := [] } }) := by
  simp only [State.frameTransmit]
  split
  · rfl
  · simp only [List.mem_cons, List.not_mem_nil, or_false] at hst
    rcases hst with hst | hst | hst | hst <;> simp only [hst]

theorem State.frameTransmit_active (s : State) (n : Nat) (hlive : s.linkLive n = true) (hst : (s.link n).st = .active)
    (hidle : (s.sendOperating n).idling = false) : s.frameTransmit n = s.sendOperating n := by
  simp only [State.frameTransmit, hlive, hst, Bool.not_true, Bool.false_eq_true, if_false, State.idleQuiet, hidle,
    Bool.false_and]

/-! ### The frames of an operating link -/

/-- The pins of a frame on lanes. -/
def Link.framed (l : Link) (control : Bool) (fs : List Flit) : List (Nat × List Level) :=
  framePins (mappingOf l.txLanes) (encodeFrame control (mappingOf l.txLanes) fs)

/-- The link with what is left of its message: with the last flit its tags go (R105). -/
def Link.withMsg (l : Link) (msg : List Flit) : Link :=
  { l with tx := { l.tx with msg := msg, msgTags := if msg = [] then [] else l.tx.msgTags } }

theorem Link.withMsg_withMsg (l : Link) {msg : List Flit} (h : msg ≠ []) (msg' : List Flit) :
    (l.withMsg msg).withMsg msg' = l.withMsg msg' := by
  simp only [Link.withMsg, if_neg h]

/-- The flits of a message fill the frame as far as they go. -/
theorem State.fillFlits_msg (n : Nat) (fs r : List Flit) (hfs : fs ≠ []) : ∀ s : State, (s.link n).st = .active →
    (s.link n).tx.msg = fs ++ r → s.fillFlits n fs.length = (fs, true, false, s.modLink n (·.withMsg r)) := by
  induction fs with
  | nil => exact absurd rfl hfs
  | cons f fs ih =>
    intro s hst hmsg
    have hnext : s.nextFlit n = (f, true, s.modLink n (·.withMsg (fs ++ r))) := s.nextFlit_msg n f _ hmsg
    by_cases hlast : fs = []
    · subst hlast
      simp only [List.length_cons, List.length_nil, State.fillFlits, hnext]
      rfl
    · have hrest : fs ++ r ≠ [] := by simp [hlast]
      have hne : (s.link n).withMsg (fs ++ r) ≠ {} := Link.ne_default_of_st _ (by simp [Link.withMsg, hst])
      have htwice : (s.modLink n (·.withMsg (fs ++ r))).modLink n (·.withMsg r) = s.modLink n (·.withMsg r) :=
        (s.modLink_modLink n (·.withMsg (fs ++ r)) _ hne).trans (s.modLink_congr n (Link.withMsg_withMsg _ hrest r))
      simp only [List.length_cons, State.fillFlits, hnext,
        ih hlast (s.modLink n (·.withMsg (fs ++ r))) (by simpa [Link.withMsg] using hst) (by simp [Link.withMsg]),
        htwice]
      rfl

section
variable {s : State} {n : Nat} (hst : (s.link n).st = .active)
include hst

theorem Link.ne_default_of_active (tx : LinkTx) : ({ s.link n with tx := tx } : Link) ≠ {} :=
  Link.ne_default_of_st _ (by simp [hst])

/-- A control frame carries the LCFs of the moment. -/
theorem State.sendControl_eq (kind seq : Nat) : s.sendControl n kind seq = s.modLink n (fun l => { l with tx := { l.tx with
    pins := l.framed true (s.controlFlits n kind seq), sinceLcf := 0, lcfDue := false } }) :=
  s.modLink_modLink n _ _ (Link.ne_default_of_active hst _)

/-- A NULL frame that is due (R65). -/
theorem State.sendOperating_null {k : Nat} (hnulls : (s.link n).tx.nulls = k + 1) :
    s.sendOperating n = s.modLink n (fun l => { l with tx := { l.tx with
      pins := l.framed true (s.controlFlits n 0 0), sinceLcf := 0, lcfDue := false, nulls := k } }) := by
  have hdue : 0 < (s.link n).tx.nulls := by omega
  simp only [State.sendOperating, if_pos hdue]
  rw [State.sendControl_eq hst, s.modLink_modLink n _ _ (Link.ne_default_of_active hst _)]
  exact s.modLink_congr n (by simp [hnulls])

variable (hnulls : (s.link n).tx.nulls = 0)
include hnulls

/-- A REPLAY that is due, with the frames that are to follow it (R76). -/
theorem State.sendOperating_replay (hn : n < 128) {q : Nat} (hhdr : (s.link n).tx.replayHdr = some q)
    (hcount : s.rget (linkKey n 0x1A) + 1 < 2 ^ 32) :
    s.sendOperating n = (s.modLink n (fun l => { l with tx := { l.tx with
      pins := l.framed true (s.controlFlits n 2 q), sinceLcf := 0, lcfDue := false, replayHdr := none,
      replay := storedFrom q l.tx.stored } })).rset (linkKey n 0x1A) (s.rget (linkKey n 0x1A) + 1) := by
  simp only [State.sendOperating, hnulls, Nat.lt_irrefl, if_false, hhdr, State.sendReplay]
  rw [State.sendControl_eq hst, s.modLink_modLink n _ _ (Link.ne_default_of_active hst _),
    State.count_link _ n 0x1A 1 hn (by decide) (by rw [State.rget_modLink]; exact hcount), State.rget_modLink]
  exact congrArg (State.rset · _ _) (s.modLink_congr n (by simp [hst]))

variable (hhdr : (s.link n).tx.replayHdr = none) (hlcf : (s.link n).lcfWanted = false)
include hhdr hlcf

/-- The next frame of a replay goes out as it is stored (R78). -/
theorem State.sendOperating_resend (hn : n < 128) {f : StoredFrame} {r : List StoredFrame} (hreplay : (s.link n).tx.replay = f :: r)
    (hinject : nfield (s.rget (ekey 0x1800 0x64)) 63 62 = 0) (hcount : s.rget (linkKey n 0x1B) + 1 < 2 ^ 64) :
    s.sendOperating n = (s.modLink n (fun l => { l with tx := { l.tx with
      pins := l.framed false f.flits, replay := r, sinceLcf := l.tx.sinceLcf + 1 } })).rset (linkKey n 0x1B)
        (s.rget (linkKey n 0x1B) + 1) := by
  simp only [State.sendOperating, hnulls, Nat.lt_irrefl, if_false, hhdr, hreplay, hlcf, Bool.false_eq_true, State.resend,
    s.inject_off 4 3 n hinject, ne_eq, not_true_eq_false, State.onLanes]
  rw [s.modLink_modLink n _ _ (Link.ne_default_of_active hst _),
    State.count_frames _ n 0x1B 1 hn (by decide) (by rw [State.rget_modLink]; exact hcount), State.rget_modLink]
  rfl

/-- Four flits of a message leave as a new sequenced frame, which is stored (R76). -/
theorem State.sendOperating_new (hn : n < 128) {f0 f1 f2 f3 : Flit} {r : List Flit} (hreplay : (s.link n).tx.replay = [])
    (hroom : (s.link n).tx.stored.length < 256) (hmsg : (s.link n).tx.msg = f0 :: f1 :: f2 :: f3 :: r)
    (hcount : s.rget (linkKey n 0x1E) + 1 < 2 ^ 64) :
    s.sendOperating n = (s.modLink n (fun l => { l with tx := { l.tx with
      pins := l.framed false [f0, f1, f2, f3], msg := r, msgTags := if r = [] then [] else l.tx.msgTags,
      stored := l.tx.stored ++ [{ seq := l.tx.nextSeq, flits := [f0, f1, f2, f3] }],
      nextSeq := (l.tx.nextSeq + 1) % 512, sinceLcf := l.tx.sinceLcf + 1 } })).rset (linkKey n 0x1E)
        (s.rget (linkKey n 0x1E) + 1) := by
  have hfull : ¬ 256 ≤ (s.link n).tx.stored.length := by omega
  have hdue : (s.link n).tx.lcfDue = false := by
    simp only [Link.lcfWanted, Bool.or_eq_false_iff] at hlcf
    exact hlcf.1
  have hfill : s.fillFlits n 4 = ([f0, f1, f2, f3], true, false, s.modLink n (·.withMsg r)) :=
    State.fillFlits_msg n [f0, f1, f2, f3] r (by simp) s hst hmsg
  simp only [State.sendOperating, hnulls, Nat.lt_irrefl, if_false, hhdr, hreplay, if_neg hfull, State.sendNew, hmsg, reduceCtorEq,
    false_and, hlcf, Bool.false_eq_true, hfill, State.onLanes, Bool.or_self]
  rw [s.modLink_modLink n _ _ (Link.ne_default_of_active hst _), s.modLink_modLink n _ _ (Link.ne_default_of_active hst _),
    State.count_frames _ n 0x1E 1 hn (by decide) (by rw [State.rget_modLink]; exact hcount), State.rget_modLink]
  exact congrArg (State.rset · _ _) (s.modLink_congr n (by simp [hdue, Link.framed, Link.withMsg]))

end

/-- Settles O8: what an operating link sends is `State.sendOperating`, and nothing follows it while no link is idled. -/
theorem transmitterSendsOneFrame : Obligations.TransmitterSendsOneFrame := by
  intro s n hn hcalm hidle pinned
  have hrow {u : State} (hsend : s.frameTransmit n = u) (hu : u.calm = true) : exec (.frameTransmit n) s = .next u :=
    exec_quiet (t := s.frameTransmit n) rfl (decide_eq_true hn) hsend hu
  refine ⟨fun hst => hrow (s.frameTransmit_silent n hst) hcalm, fun hlive hst => ?_⟩
  have hactive {u : State} (hsend : s.sendOperating n = u) (hu : u.idling = false) : s.frameTransmit n = u :=
    (s.frameTransmit_active n hlive hst (hsend ▸ hu)).trans hsend
  refine ⟨fun k hnulls => ?_, fun q hnulls hhdr hcount => ?_, fun f r hnulls hhdr hreplay hdue hsince hinject hcount => ?_,
    fun f0 f1 f2 f3 r hnulls hhdr hreplay hroom hdue hsince hmsg hcount => ?_⟩
  · exact hrow (hactive (State.sendOperating_null hst hnulls) hidle) hcalm
  · refine hrow (hactive (State.sendOperating_replay hst hnulls hn hhdr hcount) hidle) ?_
    rw [State.calm_linkCounter _ _ _ _ hn (by decide), State.calm_modLink, hcalm]
  · have hlcf : (s.link n).lcfWanted = false := by simp [Link.lcfWanted, hdue, hsince]
    refine hrow (hactive (State.sendOperating_resend hst hnulls hhdr hlcf hn hreplay hinject hcount) hidle) ?_
    rw [State.calm_linkCounter _ _ _ _ hn (by decide), State.calm_modLink, hcalm]
  · have hlcf : (s.link n).lcfWanted = false := by simp [Link.lcfWanted, hdue, hsince]
    refine hrow (hactive (State.sendOperating_new hst hnulls hhdr hlcf hn hreplay hroom hmsg hcount) hidle) ?_
    rw [State.calm_linkCounter _ _ _ _ hn (by decide), State.calm_modLink, hcalm]

end Sys2Proof.Machine
end

section
/-!
PROOFS. Slice0/Receive: how the receiver of an operating link classifies a frame, and what it takes of it (R64, R65, R77, R80).
-/

namespace Sys2Proof.Machine

/-! ### A frame reaches the receiver -/

section
variable {s : State} {n : Nat} (hlive : s.linkLive n = true) (hpower : s.power.st = 0) (hst : (s.link n).st = .active)
include hlive hpower hst

/-- In P0 no frame wakes the stack, and a link in ACTIVE receives. -/
theorem State.frameReceive_active (lane : Nat) (symbols : List Symbol) :
    s.frameReceive n lane symbols = (s.rxFrame n lane symbols).2.foldl (State.flitIn n) (s.rxFrame n lane symbols).1 := by
  simp [State.frameReceive, hpower, hlive, hst, LinkState.receives]

end

section
variable {s : State} {n lane : Nat} {symbols : List Symbol} (hst : (s.link n).st = .active)
  (hfec : nfield (s.rget (ekey 0x1800 0x60)) 63 62 = 0) (hcrc : nfield (s.rget (ekey 0x1800 0x61)) 63 62 = 0)
include hst hfec hcrc

/-- A frame that the FEC cannot correct, and one in another mapping than the receiver's, has failed. -/
theorem State.rxFrame_uncorrectable (h : receiveFrame lane 0 false symbols = .uncorrectable ∨
      (lane ≠ mappingOf (s.link n).rxLanes ∧ (receiveFrame lane 0 false symbols).train = none)) :
    s.rxFrame n lane symbols = (s.frameFailed n false 0x17, []) := by
  have hclass : (if (receiveFrame lane 0 false symbols).train.isSome = true ∨ lane = mappingOf (s.link n).rxLanes
      then receiveFrame lane 0 false symbols else .uncorrectable) = .uncorrectable := by
    rcases h with h | ⟨hlane, htrain⟩
    · rw [h, ite_self]
    · rw [htrain, if_neg (by simpa using hlane)]
  simp [State.rxFrame, hst, s.inject_off 0 n 0 hfec, s.inject_off 1 n 0 hcrc, hclass]

/-- A sequenced frame in the receiver's mapping, with lock declared. -/
theorem State.rxFrame_sequenced (hlock : (s.link n).rx.locked = true) {fs : List Flit}
    (h : receiveFrame lane 0 false symbols = .sequenced fs []) (hlane : lane = mappingOf (s.link n).rxLanes) :
    s.rxFrame n lane symbols = s.sequencedFrame n fs := by
  subst hlane
  simp [State.rxFrame, hst, s.inject_off 0 n 0 hfec, s.inject_off 1 n 0 hcrc, h, hlock, State.countFixed]

end

/-! ### A failed frame (R65, R77) -/

/-- A failed frame short of the fourth in a row keeps the lock, and starts discarding. -/
theorem State.failedFrame_locked (s : State) (n : Nat) (hn : n < 128) (hst : (s.link n).st = .active)
    (hlock : (s.link n).rx.locked = true) (hstreak : (s.link n).rx.failStreak + 1 < 4) (hnak : s.rget (linkKey n 0x19) + 1 < 2 ^ 32) :
    s.failedFrame n =
      if (s.link n).rx.discarding then s.modLink n (fun l => { l with rx := { l.rx with failStreak := l.rx.failStreak + 1 } })
      else if (s.link n).rx.nak then s.modLink n (fun l =>
        { l with rx := { l.rx with failStreak := l.rx.failStreak + 1, discarding := true } })
      else (s.rset (linkKey n 0x19) (s.rget (linkKey n 0x19) + 1)).modLink n (fun l =>
        { l with rx := { l.rx with failStreak := l.rx.failStreak + 1, discarding := true, nak := true },
                 tx := { l.tx with lcfDue := true } }) := by
  have hshort : ¬ 4 ≤ (s.link n).rx.failStreak + 1 := by omega
  have hne (rx : LinkRx) : ({ s.link n with rx := rx } : Link) ≠ {} := Link.ne_default_of_st _ (by simp [hst])
  have hlocked : ¬ (!(s.link n).rx.locked) = true := by simp [hlock]
  simp only [State.failedFrame, if_neg hlocked, if_neg hshort]
  split
  · rfl
  · rw [State.modLink_setLink _ _ _ _ (hne _), State.setNak_true _ n hn (by rw [State.rget_setLink]; exact hnak),
      State.link_setLink, if_pos rfl]
    split
    · rfl
    · exact State.modLink_setLink (s.rset _ _) n _ _ (hne _)

/-! ### A sequenced frame (R77) -/

/-- While it discards, a sequenced frame without a STATUS flit only ends the run of failures. -/
theorem State.sequencedFrame_discarded (s : State) (n : Nat) (fs : List Flit) (hst : (s.link n).st = .active)
    (hdiscarding : (s.link n).rx.discarding = true) (hstatus : fs.filter statusForm = []) :
    s.sequencedFrame n fs = (s.modLink n (fun l => { l with rx := { l.rx with failStreak := 0 } }), []) := by
  have hne (rx : LinkRx) : ({ s.link n with rx := rx } : Link) ≠ {} := Link.ne_default_of_st _ (by simp [hst])
  simp only [State.sequencedFrame, State.link_modLink, if_true, hdiscarding, true_or, hstatus, List.foldl_nil]
  rw [s.modLink_modLink n _ _ (hne _)]
  exact congrArg (·, []) (s.modLink_congr n (if_pos hdiscarding))

/-- A sequenced frame is accepted with `msg` as the message being received. -/
def State.accepted (s : State) (n : Nat) (msg : List Flit) : State :=
  (s.modLink n (fun l => { l with rx := { l.rx with
    failStreak := 0, lastAck := l.rx.expected, ackValid := true, expected := (l.rx.expected + 1) % 512, msg := msg } })).rset
      (linkKey n 0x1D) (s.rget (linkKey n 0x1D) + 1)

theorem State.sequencedFrame_accepted (s : State) (n : Nat) (hn : n < 128) (fs : List Flit) (hst : (s.link n).st = .active)
    (hdiscarding : (s.link n).rx.discarding = false) (hskip : (s.link n).rx.skip = 0) (hlcfs : lcfsOf (s.link n).rx.msg fs = [])
    (hcount : s.rget (linkKey n 0x1D) + 1 < 2 ^ 64) :
    s.sequencedFrame n fs = (s.accepted n (s.link n).rx.msg, fs) := by
  have hne (rx : LinkRx) : ({ s.link n with rx := rx } : Link) ≠ {} := Link.ne_default_of_st _ (by simp [hst])
  simp only [State.sequencedFrame, State.link_modLink, if_true, hdiscarding, Bool.false_eq_true, hskip, Nat.lt_irrefl, or_self,
    if_false, hlcfs, List.foldl_nil]
  rw [s.modLink_modLink n _ _ (hne _), State.count_frames _ n 0x1D 1 hn (by decide) (by rw [State.rget_modLink]; exact hcount),
    State.rget_modLink]
  rfl

@[simp] theorem State.link_rset (s : State) (k v n : Nat) : (s.rset k v).link n = s.link n := rfl

theorem State.accepted_msg (s : State) (n : Nat) (msg : List Flit) : ((s.accepted n msg).link n).rx.msg = msg := by
  simp only [State.accepted, State.link_rset, State.link_modLink, if_true]

theorem State.accepted_st (s : State) (n : Nat) (msg : List Flit) : ((s.accepted n msg).link n).st = (s.link n).st := by
  simp only [State.accepted, State.link_rset, State.link_modLink, if_true]

theorem State.accepted_setMsg (s : State) (n : Nat) (hst : (s.link n).st = .active) (msg msg' : List Flit) :
    (s.accepted n msg).setMsg n msg' = s.accepted n msg' := by
  have hne (rx : LinkRx) : ({ s.link n with rx := rx } : Link) ≠ {} := Link.ne_default_of_st _ (by simp [hst])
  rw [State.accepted, State.setMsg, State.rset_modLink, State.modLink_modLink _ _ _ _ (hne _)]
  rfl

/-- Data flits join the message being received, as long as it goes on after them. -/
theorem State.accepted_flitIn (s : State) (n : Nat) (hlive : s.linkLive n = true) (hst : (s.link n).st = .active)
    {h : Flit} {k : Nat} (henq : opcOf h.s0 ≠ 0x40) (hk : messageFlits h = some k) (fs : List Flit) :
    ∀ t : List Flit, t.length + 1 + fs.length < k → fs.filter statusForm = [] → fs.foldl (State.flitIn n) (s.accepted n (h :: t)) = s.accepted n (h :: t ++ fs) := by
  induction fs with
  | nil => intro t _ _; simp
  | cons f fs ih =>
    intro t hlen hstatus
    obtain ⟨hf, hfs⟩ : statusForm f = false ∧ fs.filter statusForm = [] := by
      simpa [List.filter_eq_nil_iff] using hstatus
    have hmore : ¬ messageFlits h = some (t.length + 1 + 1) := by
      simp only [hk, Option.some.injEq, List.length_cons] at hlen ⊢
      omega
    have htaken : (s.accepted n (h :: t)).takesRequests n = true := by
      have hlive' : (s.accepted n (h :: t)).linkLive n = true := hlive
      simp [State.takesRequests, hlive', State.accepted_st, hst]
    have hstep : State.flitIn n (s.accepted n (h :: t)) f = s.accepted n (h :: (t ++ [f])) := by
      simp only [State.flitIn, htaken, Bool.not_true, Bool.false_eq_true, if_false, State.accepted_msg, hf, State.dataIn,
        List.headD_cons, henq, List.length_cons, hmore, decide_false, List.cons_append, s.accepted_setMsg n hst]
    rw [List.foldl_cons, hstep, ih (t ++ [f]) (by simp at hlen ⊢; omega) hfs]
    simp

/-- Settles O10: a failed frame is `State.failedFrame`, any other `State.sequencedFrame`, whose flits `State.flitIn` takes. -/
theorem receiverClassifiesFrames : Obligations.ReceiverClassifiesFrames := by
  intro s n lane symbols hn hlane hlen hcalm hlive hpower hst hlock hfec hcrc r
  have hwf : (Instr.frameReceive n lane symbols).wf = true := by simp [Instr.wf, isLink, hn, hlane, hlen]
  have hframe := State.frameReceive_active hlive hpower hst lane symbols
  constructor
  · intro hfailed _ hstreak hcount hnak
    refine exec_quiet (t := s.frameReceive n lane symbols) rfl hwf ?_ ?_
    · rw [hframe, State.rxFrame_uncorrectable hst hfec hcrc hfailed, List.foldl_nil]
      simp only [State.frameFailed, Bool.false_eq_true, if_false]
      have hnak' (v : Nat) : (s.rset (linkKey n 0x17) v).rget (linkKey n 0x19) = s.rget (linkKey n 0x19) := by
        rw [State.rget_rset, if_neg (linkKey_inj n 0x19 0x17 (by decide))]
      rw [State.count_frames _ n 0x17 1 hn (by decide) hcount,
        State.failedFrame_locked (s.rset (linkKey n 0x17) _) n hn hst hlock hstreak (by rw [hnak']; exact hnak), hnak']
      rfl
    · have hcounted (v : Nat) : (s.rset (linkKey n 0x17) v).calm = true := by
        rw [s.calm_linkCounter n 0x17 v hn (by decide), hcalm]
      split
      · exact hcounted _
      · split
        · exact hcounted _
        · rw [State.calm_modLink, State.calm_linkCounter _ n 0x19 _ hn (by decide), hcounted]
  · intro fs hr hmapping
    have hseq := State.rxFrame_sequenced hst hfec hcrc hlock hr hmapping
    refine ⟨fun hdiscarding hstatus => ?_, fun hdiscarding hskip hlcfs hcount => ⟨?_, fun h t k hmsg henq hk hgoes hstatus => ?_⟩⟩
    · refine exec_quiet (t := s.frameReceive n lane symbols) rfl hwf ?_ hcalm
      rw [hframe, hseq, s.sequencedFrame_discarded n fs hst hdiscarding hstatus]
      rfl
    · have hexec : exec (.frameReceive n lane symbols) s = finish _ (s.frameReceive n lane symbols) := rfl
      rw [hexec, finish_wf hwf, hframe, hseq, s.sequencedFrame_accepted n hn fs hst hdiscarding hskip hlcfs hcount]
      rfl
    · refine exec_quiet (t := s.frameReceive n lane symbols) rfl hwf ?_ ?_
      · rw [hframe, hseq, s.sequencedFrame_accepted n hn fs hst hdiscarding hskip hlcfs hcount, hmsg,
          s.accepted_flitIn n hlive hst henq hk fs t hgoes hstatus]
        rfl
      · rw [State.calm_linkCounter _ _ _ _ hn (by decide), State.calm_modLink, hcalm]

end Sys2Proof.Machine
end

section
/-!
PROOFS. Slice0/Settling: every well-formed command answers the effect of its row and what follows from it, and on a quiet stack
nothing follows.
-/

namespace Sys2Proof.Machine

/-- A row whose meaning is an effect runs it where its operands name something on the stack. -/
theorem exec_runs {i : Instr} {effect : State → State} (hrow : ∀ s, exec i s = finish i.wf (effect s)) (hwf : i.wf = true)
    (s : State) : exec i s = .next (effect s).settle := by
  rw [hrow, finish_wf hwf]

/-- Settles O15: the meaning of each row is its effect, finished in the one way. -/
theorem quietStackSettles : Obligations.QuietStackSettles := by
  unfold Obligations.QuietStackSettles
  intro runs
  have hruns (i : Instr) (effect : State → State) (hrow : ∀ s, exec i s = finish i.wf (effect s)) : runs i effect :=
    exec_runs hrow
  refine ⟨State.settle_calm, State.report_calm, exec_badOperand, ?_⟩
  and_intros
  all_goals
    intros
    exact hruns _ _ (fun _ => rfl)

end Sys2Proof.Machine
end

section
/-!
PROOFS. Slice0/QueueCommands: QUEUE_CMD_PASS executes the oldest queue command of a port: QLEN, PEEK and a DEQ of an empty queue
(R75, R117, R243, R245).
-/

namespace Sys2Proof.Machine

/-- The oldest queue command of port `n` leaves it, with its credit, and the lock of its queue passes. -/
def State.passed (s : State) (n : Nat) (c : QCmd) (rest : List QCmd) : State :=
  ((s.modPort n (fun p => { p with qcmds := rest })).returnReq n 1).locked n c.queue 0

/-- The queue of the command is what it was, but for the lock. -/
theorem State.queue_passed (s : State) (n : Nat) (c : QCmd) (rest : List QCmd) :
    (s.passed n c rest).queue c.queue = { s.queue c.queue with lockPtr := (n + 1) % 128 } := by
  have hlink (t : State) (f : Link → Link) (q : Nat) : (t.modLink n f).queue q = t.queue q := rfl
  have hport (t : State) (f : Port → Port) (q : Nat) : (t.modPort n f).queue q = t.queue q := rfl
  rw [State.passed, State.locked, hlink, State.modQueue, State.queue_setQueue, if_pos rfl, State.returnReq, hlink, hport]

/-- The last request of its flit returns the credit of the flit (R101). -/
theorem State.closeGroup_last (s : State) (n grp : Nat) (hheld : ∀ h ∈ (s.port n).held, h.grp ≠ grp)
    (hcmds : ∀ x ∈ (s.port n).qcmds, x.grp ≠ grp) : s.closeGroup n grp = s.returnReq n 1 := by
  have hnone : ((s.port n).held.any (fun h => h.engine.isNone && decide (h.grp = grp)) ||
      (s.port n).qcmds.any (fun q => decide (q.grp = grp))) = false := by
    simp only [Bool.or_eq_false_iff, List.any_eq_false, Bool.and_eq_true, decide_eq_true_eq, not_and]
    exact ⟨fun h hh _ => hheld h hh, hcmds⟩
  simp only [State.closeGroup, hnone, Bool.false_eq_true, if_false]

/-! ### The command passes (R75, R117, R245) -/

/-- What the engine does with a queue command that has passed to it, in the state that bringing its link blocks left. -/
def Eng.answerCmd (x : Eng) (n : Nat) (c : QCmd) : State :=
  if c.opc = 0x18 then (x.deq n c.tag c.queue).s
  else if c.opc = 0x19 then (x.peek n c.tag c.queue).s
  else x.s.pushResp n { tag := c.tag, opc := 0x99, entered := x.s.now
                        packets := (x.s.queue c.queue).packets, cells := (x.s.queue c.queue).cells }

theorem Eng.peek_empty (s : State) (env : ChanEnv) (n tag q : Nat) (h : (s.queue q).packets = 0) :
    (({ s := s, env := env } : Eng).peek n tag q).s =
      s.pushResp n { tag := tag, opc := 0x98, status := 8, entered := s.now } := by
  simp only [Eng.peek, if_pos h]

theorem Eng.deq_empty (s : State) (env : ChanEnv) (n tag q : Nat) (h : (s.queue q).packets = 0) :
    (({ s := s, env := env } : Eng).deq n tag q).s = s.deqEmpty n tag q := by
  simp only [Eng.deq, if_pos h]

/-! ### PEEK with its head entry in the cache (R243, R246) -/

/-- The local cell at the head of a queue. -/
def State.headCell (s : State) (q : Nat) : Nat := (s.queue q).head - s.sliceOf q * s.poolK

/-- The address of its link block. -/
def State.headBlock (s : State) (q : Nat) : Nat := s.linkBlock (s.sliceOf q) (s.headCell q)

/-- The link entry at the head of a queue lies in the cached block `b`, and can be trusted. -/
structure State.HeadCached (s : State) (q : Nat) (b : LinkBlk) : Prop where
  find : (s.slice (s.sliceOf q)).blocks.find? (fun y => decide (y.addr = s.headBlock q)) = some b
  sound : b.poisoned = false
  kept : s.blockLost (s.headBlock q) = false

/-- The block of the head comes to the front of the cache. -/
def State.headFirst (s : State) (q : Nat) (b : LinkBlk) : State := s.blockFirst (s.sliceOf q) (s.headBlock q) b

theorem State.HeadCached.getEntry {s : State} {q : Nat} {b : LinkBlk} (h : s.HeadCached q b) (env : ChanEnv) :
    ({ s := s, env := env } : Eng).getEntry (s.sliceOf q) (s.headCell q) =
      (b.entries.getD (s.headCell q % 8) 0, true, { s := s.headFirst q b, env := env }) :=
  s.getEntry_cached env _ _ b h.find h.sound h.kept

/-- PEEK of a packet whose head entry is cached answers its label and length (R243). -/
theorem State.HeadCached.peek {s : State} {q : Nat} {b : LinkBlk} (h : s.HeadCached q b) (hsome : (s.queue q).packets ≠ 0)
    (env : ChanEnv) (n tag : Nat) : (({ s := s, env := env } : Eng).peek n tag q).s =
      (s.headFirst q b).pushResp n { tag := tag, opc := 0x98, entered := s.now
                                     value := BitVec.ofNat 32 (leLabel (b.entries.getD (s.headCell q % 8) 0) * 2 ^ 16 +
                                       leLen (b.entries.getD (s.headCell q % 8) 0)) } := by
  have hentry := h.getEntry env
  simp only [State.headCell] at hentry ⊢
  simp only [Eng.peek, if_neg hsome, hentry, if_true]
  rfl

/-- What PEEK needs of the cache is brought there by moving its block to the front. -/
theorem State.HeadCached.prefetch {s : State} {c : QCmd} {b : LinkBlk} (h : s.HeadCached c.queue b)
    (hsome : (s.queue c.queue).packets ≠ 0) (hopc : c.opc = 0x19) (env : ChanEnv) :
    ({ s := s, env := env } : Eng).prefetch c = { s := s.headFirst c.queue b, env := env } := by
  have hneeds : ¬ ((s.queue c.queue).packets = 0 ∨ c.opc = 0x1A) := by simp [hsome, hopc]
  have hentry := h.getEntry env
  simp only [State.headCell] at hentry
  simp only [Eng.prefetch, if_neg hneeds, hentry]
  simp [hopc]

/-- A block that is first in the cache stays so when it is used again. -/
theorem State.blockFirst_blockFirst (s : State) (i addr : Nat) (b : LinkBlk) (haddr : b.addr = addr) :
    (s.blockFirst i addr b).blockFirst i addr b = s.blockFirst i addr b := by
  have hne : ({ s.slice i with blocks := b :: (s.slice i).blocks.filter (fun z => decide (z.addr ≠ addr)) } : QSlice) ≠ {} :=
    fun h => by simpa using congrArg QSlice.blocks h
  rw [State.blockFirst, State.blockFirst, State.modSlice_modSlice _ _ _ _ hne]
  simp [haddr, List.filter_filter]

section
variable (s : State) (n : Nat) (c : QCmd) (rest : List QCmd)

/-! ### The passing of a command changes ports, links and the lock of its queue alone -/

@[simp] theorem State.passed_map : (s.passed n c rest).map = s.map := by
  simp [State.passed, State.locked, State.modQueue, State.returnReq]
@[simp] theorem State.passed_chans : (s.passed n c rest).chans = s.chans := by
  simp [State.passed, State.locked, State.modQueue, State.returnReq]
@[simp] theorem State.passed_variant : (s.passed n c rest).variant = s.variant := by
  simp [State.passed, State.locked, State.modQueue, State.returnReq]
@[simp] theorem State.passed_regs : (s.passed n c rest).regs = s.regs := by
  simp [State.passed, State.locked, State.modQueue, State.returnReq]
@[simp] theorem State.passed_dict : (s.passed n c rest).dict = s.dict := by
  simp [State.passed, State.locked, State.modQueue, State.returnReq]
@[simp] theorem State.passed_now : (s.passed n c rest).now = s.now := by
  simp [State.passed, State.locked, State.modQueue, State.returnReq]
@[simp] theorem State.passed_failed : (s.passed n c rest).qe.failed = s.qe.failed := by
  simp [State.passed, State.locked, State.modQueue, State.setQueue, State.returnReq]

@[simp] theorem State.passed_slices : (s.passed n c rest).qe.slices = s.qe.slices := by
  simp [State.passed, State.locked, State.modQueue, State.setQueue, State.returnReq]

theorem State.slice_passed (i : Nat) : (s.passed n c rest).slice i = s.slice i := by
  simp only [State.slice, State.passed_slices]

theorem State.qeSet_passed (i : Nat) : (s.passed n c rest).qeSet i = s.qeSet i := by
  simp [State.qeSet, State.blockSetting, State.rget]

theorem State.sliceOf_passed (q : Nat) : (s.passed n c rest).sliceOf q = s.sliceOf q := by
  simp [State.sliceOf]

theorem State.poolK_passed : (s.passed n c rest).poolK = s.poolK := by
  simp [State.poolK, State.qeSet_passed]

theorem State.linkBlock_passed (i l : Nat) : (s.passed n c rest).linkBlock i l = s.linkBlock i l := by
  simp [State.linkBlock, State.subPool, State.qeSet_passed, State.poolK_passed]

theorem State.retired_passed (m : Nat) : (s.passed n c rest).retired m = s.retired m := by
  have hchan : (s.passed n c rest).chan m = s.chan m := by simp only [State.chan, State.passed_chans]
  rw [State.retired, hchan, State.retired]

theorem State.blockLost_passed (addr : Nat) : (s.passed n c rest).blockLost addr = s.blockLost addr := by
  simp only [State.blockLost, State.retired_passed, State.passed_map]

theorem State.headCell_passed : (s.passed n c rest).headCell c.queue = s.headCell c.queue := by
  simp only [State.headCell, State.queue_passed, State.sliceOf_passed, State.poolK_passed]

theorem State.headBlock_passed : (s.passed n c rest).headBlock c.queue = s.headBlock c.queue := by
  simp only [State.headBlock, State.headCell_passed, State.linkBlock_passed, State.sliceOf_passed]

theorem State.passed_blockFirst (i addr : Nat) (b : LinkBlk) :
    (s.blockFirst i addr b).passed n c rest = (s.passed n c rest).blockFirst i addr b := by
  have hport (f : QSlice → QSlice) (g : Port → Port) : (s.modSlice i f).modPort n g = (s.modPort n g).modSlice i f := rfl
  have hcredit (t : State) (f : QSlice → QSlice) : (t.modSlice i f).returnReq n 1 = (t.returnReq n 1).modSlice i f := rfl
  have hlock (t : State) (f : QSlice → QSlice) : (t.modSlice i f).locked n c.queue 0 = (t.locked n c.queue 0).modSlice i f := rfl
  rw [State.blockFirst, State.passed, hport, hcredit, hlock, ← State.passed, State.blockFirst]

end

/-! ### The head of a queue stays in the cache -/

section
variable {s : State} {c : QCmd} {b : LinkBlk} (h : s.HeadCached c.queue b) (n : Nat) (rest : List QCmd)
include h

theorem State.HeadCached.addr : b.addr = s.headBlock c.queue := by
  simpa using List.find?_some h.find

omit h in
/-- The command passes as it would with the block where it was. -/
theorem State.passed_headFirst : (s.headFirst c.queue b).passed n c rest =
    (s.passed n c rest).blockFirst (s.sliceOf c.queue) (s.headBlock c.queue) b :=
  s.passed_blockFirst n c rest _ _ b

/-- A cached head entry is first in the cache after its block has been used and the command has passed. -/
theorem State.HeadCached.passed : ((s.headFirst c.queue b).passed n c rest).HeadCached c.queue b := by
  have hblock : ((s.headFirst c.queue b).passed n c rest).headBlock c.queue = s.headBlock c.queue :=
    State.headBlock_passed _ n c rest
  refine ⟨?_, h.sound, ?_⟩
  · have hslice : ((s.headFirst c.queue b).slice (s.sliceOf c.queue)).blocks = b :: (s.slice (s.sliceOf c.queue)).blocks.filter
        (fun z => decide (z.addr ≠ s.headBlock c.queue)) := by
      rw [State.headFirst, State.blockFirst, State.slice_modSlice, if_pos rfl]
    have hwhere : (s.headFirst c.queue b).sliceOf c.queue = s.sliceOf c.queue := rfl
    rw [hblock, State.sliceOf_passed, State.slice_passed, hwhere, hslice]
    exact List.find?_cons_of_pos (by simp [h.addr])
  · rw [hblock, State.blockLost_passed]
    exact h.kept

/-- Using the block again changes nothing. -/
theorem State.HeadCached.passed_again : ((s.headFirst c.queue b).passed n c rest).headFirst c.queue b =
    (s.passed n c rest).blockFirst (s.sliceOf c.queue) (s.headBlock c.queue) b := by
  have hblock : ((s.headFirst c.queue b).passed n c rest).headBlock c.queue = s.headBlock c.queue :=
    State.headBlock_passed _ n c rest
  have hwhere : ((s.headFirst c.queue b).passed n c rest).sliceOf c.queue = s.sliceOf c.queue := State.sliceOf_passed _ n c rest _
  rw [State.headFirst, hblock, hwhere, State.passed_headFirst, State.blockFirst_blockFirst _ _ _ _ h.addr]

end

section
variable {s : State} {n : Nat} {env : ChanEnv} {c : QCmd} {rest : List QCmd} (hbad : env.sramBad = false)
  (hcmds : (s.port n).qcmds = c :: rest) (hheld : ∀ h ∈ (s.port n).held, h.grp ≠ c.grp)
  (hrest : ∀ x ∈ rest, x.grp ≠ c.grp)
  (hrun : s.engineRuns = true) (hroom : c.opc = 0x18 → (s.link n).qdatUsed + 513 ≤ 1024) (hlock : s.winsLock n c.queue 0 = true)
  (hinject : nfield (s.rget (ekey 0x1800 0x64)) 63 62 = 0)
include hbad hcmds hheld hrest hrun hroom hlock hinject

/-- The oldest command of a port passes, once its link blocks are in the cache. -/
theorem State.queuePass_passes {u : State} (hport : u.port n = s.port n)
    (hpre : ({ s := s, env := env } : Eng).prefetch c = { s := u, env := env }) :
    s.queuePass n env = ({ s := u.passed n c rest, env := env } : Eng).answerCmd n c := by
  have hpassable : s.passable n = some c := by
    have hfree : ¬ (c.opc = 0x18 ∧ 1024 < (s.link n).qdatUsed + 513) := fun ⟨h1, h2⟩ => by have := hroom h1; omega
    simp only [State.passable, hcmds, if_neg hfree]
  have hread : s.readQueue c.queue env.sramBad = (false, s) := by
    simp [State.readQueue, s.inject_off 4 6 _ hinject, hbad]
  have htail : u.modPort n (fun p => { p with qcmds := p.qcmds.tail }) = u.modPort n (fun p => { p with qcmds := rest }) := by
    simp only [State.modPort, hport, hcmds, List.tail_cons]
  have hclose := (u.modPort n (fun p => { p with qcmds := rest })).closeGroup_last n c.grp
    (by simpa [hport] using hheld) (by simpa using hrest)
  simp only [State.queuePass, hpassable, hrun, hlock, Bool.not_true, Bool.or_self, Bool.false_eq_true, if_false, hread, hpre, htail,
    hclose, Eng.answerCmd, State.passed]
  split
  · rfl
  · split <;> rfl

/-- A QLEN and a command on an empty queue need no link block. -/
theorem State.queuePass_at_once (h : (s.queue c.queue).packets = 0 ∨ c.opc = 0x1A) :
    s.queuePass n env = ({ s := s.passed n c rest, env := env } : Eng).answerCmd n c := by
  refine State.queuePass_passes hbad hcmds hheld hrest hrun hroom hlock hinject rfl ?_
  simp only [Eng.prefetch, if_pos h]

end

/-- Settles O26: the command passes at once, or, a PEEK, with the block of its head entry first in the cache. -/
theorem queueCommandIsExecuted : Obligations.QueueCommandIsExecuted := by
  intro s n env c rest hn henv hbad hcmds hheld hrest hrun hroom hlock hinject q t answer
  have hexec {u : State} (hu : s.queuePass n env = u) : exec (.queueCmdPass n env) s = .next u.settle := by
    have hrow : exec (.queueCmdPass n env) s = finish (Instr.queueCmdPass n env).wf (s.queuePass n env) := rfl
    rw [hrow, finish_wf (by simp [Instr.wf, isLink, hn, henv]), hu]
  have hnow := State.queuePass_at_once hbad hcmds hheld hrest hrun hroom hlock hinject
  have hpackets : ((s.passed n c rest).queue c.queue).packets = (s.queue q).packets := by rw [State.queue_passed]
  refine ⟨fun hopc => hexec ?_, fun hopc hempty => hexec ?_, fun hopc hempty => hexec ?_, ?_⟩
  · rw [hnow (.inr hopc), Eng.answerCmd, if_neg (by simp [hopc]), if_neg (by simp [hopc])]
    simp only [State.queue_passed, State.passed_now]
    rfl
  · rw [hnow (.inl hempty), Eng.answerCmd, if_neg (by simp [hopc]), if_pos hopc, Eng.peek_empty _ _ _ _ _ (hpackets.trans hempty),
      State.passed_now]
    rfl
  · rw [hnow (.inl hempty), Eng.answerCmd, if_pos hopc, Eng.deq_empty _ _ _ _ _ (hpackets.trans hempty)]
    rfl
  · intro b hopc hsome i cell addr hfind hpoison hlost e
    have hhead : s.HeadCached q b := ⟨hfind, hpoison, hlost⟩
    have hsome' : (((s.headFirst q b).passed n c rest).queue c.queue).packets ≠ 0 := by rw [State.queue_passed]; exact hsome
    have hcell : ((s.headFirst q b).passed n c rest).headCell c.queue = cell := State.headCell_passed _ n c rest
    refine hexec ?_
    rw [State.queuePass_passes (u := s.headFirst q b) hbad hcmds hheld hrest hrun hroom hlock hinject rfl
        (hhead.prefetch hsome hopc env), Eng.answerCmd, if_neg (by simp [hopc]), if_pos hopc, (hhead.passed n rest).peek hsome',
      hhead.passed_again, hcell, State.passed_now]
    rfl

end Sys2Proof.Machine
end

section
/-!
PROOFS. Slice0/RequestRows: the message of a request row reads back as its operands, so that the row and the arrival of the
message are the same (R97–R100, R112).
-/

namespace Sys2Proof.Machine

/-! ### A request flit that carries one request (R98) -/

/-- A header flit that carries the request `r` and nothing else. -/
structure CarriesOne (h : Flit) (r : ReqSlot) : Prop where
  parse : parseReqs (Flit.slots h) = some [r]
  head : r.head = h.s0
  opc : 0x10 ≤ opcOf h.s0 ∧ opcOf h.s0 ≤ 0x3F

theorem CarriesOne.oneSlot {x : Slot} (hx : x ≠ 0) (hslots : reqSlots (opcOf x) = some 1)
    (hopc : 0x10 ≤ opcOf x ∧ opcOf x ≤ 0x3F) : CarriesOne { s0 := x } { head := x } := by
  refine ⟨?_, rfl, hopc⟩
  have hrest : parseReqs [(0 : Slot), 0, 0] = some [] := by decide
  rw [Flit.slots, parseReqs, if_neg hx, hslots, hrest]
  rfl

theorem CarriesOne.twoSlots {x y : Slot} (hx : x ≠ 0) (hslots : reqSlots (opcOf x) = some 2)
    (hopc : 0x10 ≤ opcOf x ∧ opcOf x ≤ 0x3F) : CarriesOne { s0 := x, s1 := y } { head := x, second := y } := by
  refine ⟨?_, rfl, hopc⟩
  have hrest : parseReqs [(0 : Slot), 0] = some [] := by decide
  rw [Flit.slots, parseReqs, if_neg hx, hslots]
  simp only [hrest, Option.map_some]

/-- Its message has the data flits of its one request. -/
theorem CarriesOne.messageFlits {h : Flit} {r : ReqSlot} (c : CarriesOne h r) :
    messageFlits h = some (1 + reqData (opcOf h.s0)) := by
  obtain ⟨hparse, hhead, hlo, hhi⟩ := c
  rw [Machine.messageFlits, if_neg (by omega), if_pos ⟨hlo, hhi⟩, hparse]
  simp [hhead]

/-- The arrival of its message: the tag decides between a protocol error and the receipt of the one request. -/
theorem CarriesOne.message {h : Flit} {r : ReqSlot} (c : CarriesOne h r) (s : State) (n : Nat) (d : List Flit) :
    s.message n (h :: d) =
      if s.tagOk n (tagOf h.s0) then s.newGroup.2.receiveReqs n s.newGroup.1 [r] d else s.protocolError n := by
  obtain ⟨hparse, hhead, hlo, hhi⟩ := c
  simp only [State.message, List.headD_cons, if_neg (show ¬ opcOf h.s0 ≤ 0x0F by omega), State.reqMessage, hparse]
  simp [hhead]

/-- A message of one memory request is that request. -/
theorem CarriesOne.memRequest {h : Flit} {r : ReqSlot} (c : CarriesOne h r) (hmem : opcOf h.s0 < 0x18) (s : State) (n : Nat)
    (d : List Flit) (x : Held) (htag : x.tag = tagOf h.s0)
    (hx : ∀ g, s.newGroup.2.heldOf r (d.take (reqData (opcOf h.s0))) g = { x with grp := g }) :
    s.memRequest n x = if s.takesRequests n then s.message n (h :: d) else s := by
  have hmem' : ¬ 0x18 ≤ opcOf h.s0 := by omega
  rw [c.message, State.memRequest]
  simp only [State.receiveReqs, c.head, if_neg hmem', hx, htag]

/-- A message of one queue command is that command. -/
theorem CarriesOne.queueRequest {h : Flit} {r : ReqSlot} (c : CarriesOne h r) (hcmd : 0x18 ≤ opcOf h.s0) (s : State) (n : Nat) :
    s.queueRequest n (tagOf h.s0) (opcOf h.s0) (slotField h.s0 15 0) = if s.takesRequests n then s.message n [h] else s := by
  rw [c.message, State.queueRequest]
  simp only [State.receiveReqs, c.head, if_pos hcmd]

/-! ### Headers (Tables 2, 4 and 5) -/

section
variable {opc tag label word block queue len : Nat} {psn : Bool}

/-- What the header slot of a memory request holds. -/
theorem memoryHead_read (hopc : opc < 256) (htag : tag < 512) (hlabel : label < 256) (hword : word < 16)
    (hblock : block < 1073741824) :
    let x := requestHead opc tag (memoryFields label psn word block)
    opcOf x = opc ∧ tagOf x = tag ∧ labelOf x = label ∧ nbit x.toNat 38 = psn ∧ slotField x 37 34 = word ∧ slotField x 29 0 = block := by
  intro x
  obtain ⟨hlow, h1, h2, h3, h4⟩ := memoryFields_read (p := psn) hlabel hword hblock
  have hfield := requestHead_field hopc htag hlow
  exact ⟨requestHead_opc hopc htag hlow, requestHead_tag hopc htag hlow, (hfield 46 39 (by decide) (by decide)).trans h1,
    (requestHead_bit hopc htag hlow 38 (by decide)).trans h2, (hfield 37 34 (by decide) (by decide)).trans h3,
    (hfield 29 0 (by decide) (by decide)).trans h4⟩

/-- What the header slot of a queue command holds. -/
theorem queueHead_read (hopc : opc < 256) (htag : tag < 512) (hqueue : queue < 65536) :
    let x := requestHead opc tag queue
    opcOf x = opc ∧ tagOf x = tag ∧ slotField x 15 0 = queue := by
  intro x
  have hlow : queue < 2 ^ 47 := by omega
  refine ⟨requestHead_opc hopc htag hlow, requestHead_tag hopc htag hlow,
    (requestHead_field hopc htag hlow 15 0 (by decide) (by decide)).trans ?_⟩
  simp only [nfield]; omega

/-- What the header slot of an ENQ holds. -/
theorem enqHead_read (htag : tag < 512) (hlabel : label < 256) (hlen : len < 32768) (hqueue : queue < 65536) :
    let x := requestHead 0x40 tag (label * 2 ^ 39 + len * 2 ^ 24 + b2n psn * 2 ^ 23 + queue)
    opcOf x = 0x40 ∧ tagOf x = tag ∧ labelOf x = label ∧ slotField x 38 24 = len ∧ nbit x.toNat 23 = psn ∧ slotField x 15 0 = queue := by
  intro x
  have hpsn : b2n psn < 2 := by cases psn <;> decide
  have hlow : label * 2 ^ 39 + len * 2 ^ 24 + b2n psn * 2 ^ 23 + queue < 2 ^ 47 := by omega
  have hfield := requestHead_field (o := 0x40) (by decide) htag hlow
  refine ⟨requestHead_opc (by decide) htag hlow, requestHead_tag (by decide) htag hlow,
    (hfield 46 39 (by decide) (by decide)).trans ?_, (hfield 38 24 (by decide) (by decide)).trans ?_,
    (requestHead_bit (by decide) htag hlow 23 (by decide)).trans ?_, (hfield 15 0 (by decide) (by decide)).trans ?_⟩
  · simp only [nfield]; omega
  · simp only [nfield]; omega
  · cases psn <;> simp only [b2n, nbit, Nat.testBit_eq_decide_div_mod_eq, if_true, if_false, Bool.false_eq_true,
      decide_eq_true_eq, decide_eq_false_iff_not] <;> omega
  · simp only [nfield]; omega

end

theorem flitsBlock_blockFlits (d : BitVec 512) :
    flitsBlock ((blockFlits d).getD 0 {}) ((blockFlits d).getD 1 {}) = d := by
  simp only [blockFlits, flitsBlock, flitBits, List.getD_cons_zero, List.getD_cons_succ]
  ext i hi
  simp only [BitVec.getElem_append, BitVec.getElem_extractLsb']
  simp only [← BitVec.getLsbD_eq_getElem]
  grind

/-! ### The row of a message -/

/-- The request row whose message on link `n` has these flits. -/
def messageRow (n : Nat) (fs : List Flit) : Option Instr :=
  let x := (fs.headD {}).s0
  let y := (fs.headD {}).s1
  let data := flitsBlock (fs.tail.getD 0 {}) (fs.tail.getD 1 {})
  match opcOf x with
  | 0x10 => some (.rd64 n (tagOf x) (labelOf x) (slotField x 29 0))
  | 0x11 => some (.rd128 n (tagOf x) (labelOf x) (slotField x 29 0))
  | 0x12 => some (.wr64 n (tagOf x) (labelOf x) (slotField x 29 0) (nbit x.toNat 38) data)
  | 0x13 => some (.wrm n (tagOf x) (labelOf x) (slotField x 29 0) (nbit x.toNat 38) y data)
  | 0x14 => some (.fadd32 n (tagOf x) (labelOf x) (slotField x 29 0) (slotField x 37 34) (y.setWidth 32))
  | 0x15 => some (.swap32 n (tagOf x) (labelOf x) (slotField x 29 0) (slotField x 37 34) (y.setWidth 32))
  | 0x18 => some (.deq n (tagOf x) (slotField x 15 0))
  | 0x19 => some (.peek n (tagOf x) (slotField x 15 0))
  | 0x1A => some (.qlen n (tagOf x) (slotField x 15 0))
  | 0x40 => some (.enq n (tagOf x) (labelOf x) (slotField x 38 24) (slotField x 15 0) (nbit x.toNat 23) fs.tail)
  | _ => none

/-- A row is the arrival of the message with header flit `h` and data flits `d`, which announces its length and gives the row
back. -/
structure RowIsMessage (i : Instr) (n : Nat) (h : Flit) (d : List Flit) : Prop where
  opc : opcOf h.s0 ≠ 0x40
  effect : ∀ s : State, exec i s = .next (State.settle (if s.takesRequests n then s.message n (h :: d) else s))
  length : messageFlits h = some (h :: d).length
  row : messageRow n (h :: d) = some i

/-- The OPC of a memory request decides how many slots it takes, how many data flits follow, and which of PSN and WORD it has. -/
def OpcShapes (opc : Nat) (psn : Bool) (word : Nat) (y : Slot) (d : List Flit) : Prop :=
  (0x10 ≤ opc ∧ opc < 0x18) ∧ (reqSlots opc = some 2 ∨ reqSlots opc = some 1 ∧ y = 0) ∧ d.length = reqData opc ∧
    (opc = 0x12 ∨ opc = 0x13 ∨ psn = false) ∧ (opc = 0x14 ∨ opc = 0x15 ∨ word = 0)

/-- A memory row is the message of its one request. -/
theorem memoryRow_isMessage {i : Instr} {n opc tag label word block : Nat} {psn : Bool} {y : Slot} {d : List Flit} {data : BitVec 512}
    (hwf : i.wf = true) (hfit : (isLink n && isTag tag && isLabel label && isBlock block) = true) (hword' : word < 16)
    (hshape : OpcShapes opc psn word y d) (hdata : flitsBlock (d.getD 0 {}) (d.getD 1 {}) = data)
    (hexec : ∀ s : State, exec i s = finish i.wf (s.memRequest n
      { tag := tag, opc := opc, cls := s.labelSet label, block := block, psn := psn, word := word, mask := if opc = 0x13 then y else 0
        operand := if opc = 0x14 ∨ opc = 0x15 then y.setWidth 32 else 0, data := data }))
    (hrow : ∀ x, opcOf x = opc → tagOf x = tag → labelOf x = label → nbit x.toNat 38 = psn → slotField x 37 34 = word →
      slotField x 29 0 = block → messageRow n ({ s0 := x, s1 := y } :: d) = some i) :
    RowIsMessage i n { s0 := requestHead opc tag (memoryFields label psn word block), s1 := y } d := by
  obtain ⟨⟨⟨_, htag⟩, hlabel⟩, hblock⟩ : ((_ ∧ tag < 512) ∧ label < 256) ∧ block < 1073741824 := by
    simpa only [isLink, isTag, isLabel, isBlock, Bool.and_eq_true, decide_eq_true_eq] using hfit
  obtain ⟨hopc, hslots, hlen, hpsn, hword⟩ := hshape
  have hhead := memoryHead_read (opc := opc) (psn := psn) (by omega) htag hlabel hword' hblock
  have hne := requestHead_ne (o := opc) (by omega) (by omega) htag (memoryFields_read (p := psn) hlabel hword' hblock).1
  generalize requestHead opc tag (memoryFields label psn word block) = x at hhead hne
  obtain ⟨rfl, htag', hlabel', hpsn', hword', hblock'⟩ := hhead
  have c : CarriesOne { s0 := x, s1 := y } { head := x, second := y } := by
    have hrange : 0x10 ≤ opcOf x ∧ opcOf x ≤ 0x3F := by omega
    rcases hslots with htwo | ⟨hone, rfl⟩
    · exact .twoSlots hne htwo hrange
    · exact .oneSlot hne hone hrange
  refine ⟨show opcOf x ≠ 0x40 by omega, fun s => ?_, ?_, hrow x rfl htag' hlabel' hpsn' hword' hblock'⟩
  · rw [hexec, finish_wf hwf, c.memRequest hopc.2 s n d _ htag'.symm]
    intro g
    have hclass : s.newGroup.2.labelSet label = s.labelSet label := rfl
    have hall : d.take (reqData (opcOf x)) = d := List.take_of_length_le hlen.le
    have hpsn'' : (decide (opcOf x = 0x12 ∨ opcOf x = 0x13) && psn) = psn := by
      rcases hpsn with h | h | h <;> simp [h]
    have hword'' : (if opcOf x = 0x14 ∨ opcOf x = 0x15 then word else 0) = word := by
      rcases hword with h | h | h <;> simp [h]
    simp only [State.heldOf, hall, hdata, htag', hlabel', hblock', hpsn', hword', hclass, hpsn'', hword'']
  · rw [c.messageFlits, List.length_cons, hlen, Nat.add_comm]

/-- A row of a queue command is the message of that command. -/
theorem commandRow_isMessage {i : Instr} {n opc tag queue : Nat} (hwf : i.wf = true)
    (hfit : (isLink n && isTag tag && isQueue queue) = true)
    (hopc : opc ∈ [0x18, 0x19, 0x1A]) (hexec : ∀ s : State, exec i s = finish i.wf (s.queueRequest n tag opc queue))
    (hrow : ∀ x, opcOf x = opc → tagOf x = tag → slotField x 15 0 = queue → messageRow n [{ s0 := x }] = some i) :
    RowIsMessage i n { s0 := requestHead opc tag queue } [] := by
  obtain ⟨⟨_, htag⟩, hqueue⟩ : (_ ∧ tag < 512) ∧ queue < 65536 := by
    simpa only [isLink, isTag, isQueue, Bool.and_eq_true, decide_eq_true_eq] using hfit
  obtain ⟨hlo, hhi⟩ : 0x18 ≤ opc ∧ opc ≤ 0x1A := by simp at hopc; omega
  have hslots : reqSlots opc = some 1 := by rcases (by simpa using hopc) with rfl | rfl | rfl <;> decide
  have hhead := queueHead_read (opc := opc) (by omega) htag hqueue
  have hne := requestHead_ne (o := opc) (by omega) (by omega) htag (show queue < 2 ^ 47 by omega)
  generalize requestHead opc tag queue = x at hhead hne
  obtain ⟨rfl, htag', hqueue'⟩ := hhead
  have c : CarriesOne { s0 := x } { head := x } := .oneSlot hne hslots (by omega)
  have hnone : reqData (opcOf x) = 0 := by rw [reqData, if_neg (by omega)]
  refine ⟨show opcOf x ≠ 0x40 by omega, fun s => ?_, by rw [c.messageFlits, hnone]; rfl, hrow x rfl htag' hqueue'⟩
  rw [hexec, finish_wf hwf, ← c.queueRequest hlo s n, htag', hqueue']

/-- The row of an ENQ is its header, its data flits and its end, where the header is valid (R99, R100). -/
theorem enqRow_isMessage {n tag label len queue : Nat} {psn : Bool} {data : List Flit}
    (hwf : (Instr.enq n tag label len queue psn data).wf = true) :
    let h : Flit := { s0 := requestHead 0x40 tag (label * 2 ^ 39 + len * 2 ^ 24 + b2n psn * 2 ^ 23 + queue) }
    opcOf h.s0 = 0x40 ∧
    (∀ s : State, (s.link n).enqIn = none → exec (.enq n tag label len queue psn data) s = .next (State.settle
      (if s.takesRequests n = false then s
       else if s.headerOk n h && (messageFlits h).isSome then
         (data.foldl (fun u f => u.enqFlit n f) (s.enqHeader n h)).enqEnd n
       else s.protocolError n))) ∧
    (0 < len ∧ len ≤ 16384 → messageFlits h = some (h :: data).length) ∧ (len = 0 ∨ 16384 < len → messageFlits h = none) ∧
    messageRow n (h :: data) = some (.enq n tag label len queue psn data) := by
  intro h
  obtain ⟨⟨⟨⟨⟨_, htag⟩, hlabel⟩, hlen⟩, hqueue⟩, hdata⟩ : ((((_ ∧ tag < 512) ∧ label < 256) ∧ len < 32768) ∧ queue < 65536) ∧
      (len = 0 ∨ 16384 < len ∨ data.length = (len + 31) / 32) := by
    simpa [Instr.wf, isLink, isTag, isLabel, isQueue] using hwf
  obtain ⟨hopc, htag', hlabel', hlen', hpsn', hqueue'⟩ := enqHead_read (psn := psn) htag hlabel hlen hqueue
  change opcOf h.s0 = _ at hopc
  change tagOf h.s0 = _ at htag'
  change labelOf h.s0 = _ at hlabel'
  change slotField h.s0 38 24 = _ at hlen'
  change nbit h.s0.toNat 23 = _ at hpsn'
  change slotField h.s0 15 0 = _ at hqueue'
  have hflits : messageFlits h = if len = 0 ∨ 16384 < len then none else some (1 + packetFlits len) := by
    simp [messageFlits, hopc, hlen']
  have hheader (s : State) : s.headerOk n h = s.tagOk n tag := by simp [State.headerOk, hopc, htag']
  refine ⟨hopc, fun s hnone => ?_, fun hgood => ?_, fun hbad => by rw [hflits, if_pos hbad], ?_⟩
  · have hexec : exec (.enq n tag label len queue psn data) s = finish _ (s.enq n tag label len queue psn data) := rfl
    rw [hexec, finish_wf hwf, hheader, hflits]
    simp only [State.enq, State.enqHeader, hnone, htag', hlabel', hlen', hpsn', hqueue']
    by_cases htakes : s.takesRequests n = true
    · by_cases htagOk : s.tagOk n tag = true <;> by_cases hbad : len = 0 ∨ 16384 < len <;> simp [htakes, htagOk, hbad]
    · simp [htakes]
  · have hpacket : data.length = packetFlits len := by rw [packetFlits]; omega
    rw [hflits, if_neg (by omega), List.length_cons, hpacket, Nat.add_comm]
  · simp [messageRow, hopc, htag', hlabel', hlen', hpsn', hqueue']

/-! ### Every request row -/

/-- The rows that `requestFlits` knows are those of an ENQ and nine others, each of which is its message. -/
theorem requestFlits_isMessage {i : Instr} {n : Nat} {fs : List Flit} (hwf : i.wf = true) (hfs : requestFlits i = some (n, fs)) :
    (∃ tag label len queue psn data, i = .enq n tag label len queue psn data) ∨ ∃ h d, fs = h :: d ∧ RowIsMessage i n h d := by
  have hnone : flitsBlock (([] : List Flit).getD 0 {}) (([] : List Flit).getD 1 {}) = 0#512 := by simp [flitsBlock, flitBits]
  have hop (op : BitVec 32) : (op.setWidth 64).setWidth 32 = op := by ext; simp
  cases i with
  | enq => cases hfs; exact .inl ⟨_, _, _, _, _, _, rfl⟩
  | rd64 | rd128 =>
    cases hfs
    refine .inr ⟨_, _, rfl, memoryRow_isMessage hwf hwf (by decide) (by simp [OpcShapes, reqSlots, reqData]) hnone (fun _ => rfl) ?_⟩
    intro x hopc htag hlabel _ _ hblock
    simp only [messageRow, List.headD_cons, hopc, htag, hlabel, hblock]
  | wr64 | wrm =>
    cases hfs
    refine .inr ⟨_, _, rfl, memoryRow_isMessage hwf hwf (by decide) (by simp [OpcShapes, reqSlots, reqData, blockFlits])
      (flitsBlock_blockFlits _) (fun _ => rfl) ?_⟩
    intro x hopc htag hlabel hpsn _ hblock
    simp only [messageRow, List.headD_cons, List.tail_cons, hopc, htag, hlabel, hpsn, hblock, flitsBlock_blockFlits]
  | fadd32 | swap32 =>
    cases hfs
    obtain ⟨hfit, hword⟩ := Bool.and_eq_true_iff.mp (show (_ && decide (_ < 16)) = true from hwf)
    refine .inr ⟨_, _, rfl, memoryRow_isMessage hwf hfit (of_decide_eq_true hword) (by simp [OpcShapes, reqSlots, reqData]) hnone
      (fun s => by simp only [hop]; rfl) ?_⟩
    intro x hopc htag hlabel _ hword hblock
    simp only [messageRow, List.headD_cons, hopc, htag, hlabel, hword, hblock, hop]
  | deq | peek | qlen =>
    cases hfs
    refine .inr ⟨_, _, rfl, commandRow_isMessage hwf hwf (by decide) (fun _ => rfl) ?_⟩
    intro x hopc htag hqueue
    simp only [messageRow, List.headD_cons, hopc, htag, hqueue]
  | _ => cases hfs

theorem messageRow_requestFlits {i : Instr} {n : Nat} {fs : List Flit} (hwf : i.wf = true) (hfs : requestFlits i = some (n, fs)) :
    messageRow n fs = some i := by
  rcases requestFlits_isMessage hwf hfs with ⟨tag, label, len, queue, psn, data, rfl⟩ | ⟨h, d, rfl, hmsg⟩
  · obtain ⟨-, -, -, -, hrow⟩ := enqRow_isMessage hwf
    cases hfs
    exact hrow
  · exact hmsg.row

/-- Settles O25: `messageRow` gives the row of a message back, and an ENQ is the only row that is not received whole. -/
theorem requestRowsAreMessages : Obligations.RequestRowsAreMessages := by
  unfold Obligations.RequestRowsAreMessages
  refine ⟨fun s i n fs hwf hfs => ?_, fun i j x hi hj hix hjx => ?_⟩
  · rcases requestFlits_isMessage hwf hfs with ⟨tag, label, len, queue, psn, data, rfl⟩ | ⟨h, d, rfl, hmsg⟩
    · obtain ⟨hopc, heffect, hlength, hbad, -⟩ := enqRow_isMessage hwf
      cases hfs
      refine ⟨fun hother => absurd hopc hother, fun _ hnone => heffect s hnone, fun hlen => hlength (hlen _ _ _ _ _ _ rfl), ?_⟩
      rintro _ _ _ _ _ _ ⟨⟩ hlen
      exact hbad hlen
    · refine ⟨fun _ => hmsg.effect s, fun henq => absurd henq hmsg.opc, fun _ => hmsg.length, ?_⟩
      rintro tag label len queue psn data rfl
      cases hfs
      exact absurd (enqRow_isMessage hwf).1 hmsg.opc
  · have hback := messageRow_requestFlits hi hix
    rw [messageRow_requestFlits hj hjx] at hback
    exact (Option.some.inj hback).symm

end Sys2Proof.Machine
end

section
/-!
PROOFS. Slice0/EnqArrival: an ENQ that arrives whole is taken by its slice, dropped, or refused, and the credits of its flits
return (R74, R99, R118, R241).
-/

namespace Sys2Proof.Machine

/-! ### Changes of one link that do not meet -/

/-- Two changes of an operating link that can be made in either order. -/
theorem State.modLink_comm (s : State) (n : Nat) (f g : Link → Link) (hf : (f (s.link n)).st ≠ .detect)
    (hg : (g (s.link n)).st ≠ .detect) (h : f (g (s.link n)) = g (f (s.link n))) :
    (s.modLink n f).modLink n g = (s.modLink n g).modLink n f := by
  rw [s.modLink_modLink n f g (Link.ne_default_of_st _ hf), s.modLink_modLink n g f (Link.ne_default_of_st _ hg)]
  exact (s.modLink_congr n h).symm

theorem State.count_modLink (s : State) (n k v : Nat) (f : Link → Link) :
    (s.modLink n f).count k v = (s.count k v).modLink n f := by
  have htick (u : State) : (u.modLink n f).tick = u.tick.modLink n f := rfl
  simp only [State.count, State.rget_modLink, State.modLink_free, State.rset_modLink, htick]
  by_cases hsmall : s.rget k + v < 256
  · simp only [if_pos hsmall]
  · simp only [if_neg hsmall]
    exact (apply_ite (fun u : State => u.modLink n f) _ _ _).symm

/-! ### QDAT credits (R74) -/

/-- A link to which `k` QDAT credits return; while a change of profile drains they are owed (R26). -/
def Link.gainQdat (l : Link) (drain : Bool) (k : Nat) : Link :=
  { l with rx :=
    if drain then { l.rx with owedQdat := l.rx.owedQdat + k }
    else { l.rx with retQdat := l.rx.retQdat + BitVec.ofNat 16 k } }

theorem State.returnQdat_eq (s : State) (n k : Nat) : s.returnQdat n k = s.modLink n (fun l => l.gainQdat s.dict.draining k) := rfl

theorem Link.gainQdat_gainQdat (l : Link) (drain : Bool) (j k : Nat) : (l.gainQdat drain j).gainQdat drain k = l.gainQdat drain (j + k) := by
  cases drain <;> simp [Link.gainQdat, Nat.add_assoc, BitVec.add_assoc, BitVec.ofNat_add]

theorem State.returnQdat_add (s : State) (n j k : Nat) (hlink : (s.link n).st ≠ .detect) :
    (s.returnQdat n j).returnQdat n k = s.returnQdat n (j + k) := by
  rw [State.returnQdat_eq, State.returnQdat_eq, State.modLink_modLink _ _ _ _ (Link.ne_default_of_st _ hlink)]
  exact s.modLink_congr n (Link.gainQdat_gainQdat _ _ j k)

theorem State.returnQdat_st (s : State) (n k : Nat) : ((s.returnQdat n k).link n).st = (s.link n).st := by
  rw [State.returnQdat_eq, State.link_modLink, if_pos rfl, Link.gainQdat]

theorem State.returnQdat_enqIn (s : State) (n k : Nat) : ((s.returnQdat n k).link n).enqIn = (s.link n).enqIn := by
  rw [State.returnQdat_eq, State.link_modLink, if_pos rfl, Link.gainQdat]

theorem State.returnQdat_pushResp (s : State) (n k : Nat) (r : Resp) (hlink : (s.link n).st ≠ .detect) :
    (s.returnQdat n k).pushResp n r = (s.pushResp n r).returnQdat n k :=
  s.modLink_comm n _ _ hlink hlink rfl

theorem State.count_returnQdat (s : State) (n k c v : Nat) : (s.returnQdat n k).count c v = (s.count c v).returnQdat n k := by
  rw [State.returnQdat_eq, State.count_modLink, State.returnQdat_eq, State.count_dict]

/-! ### An ENQ that is received to be discarded (R241) -/

/-- Link `n` is receiving the ENQ `e`. -/
def State.receiving (s : State) (n : Nat) (e : EnqIn) : State := s.modLink n (fun l => { l with enqIn := some e })

theorem State.receiving_enqIn (s : State) (n : Nat) (e : EnqIn) : ((s.receiving n e).link n).enqIn = some e := by
  rw [State.receiving, State.link_modLink, if_pos rfl]

theorem State.returnQdat_receiving (s : State) (n k : Nat) (e : EnqIn) (hlink : (s.link n).st ≠ .detect) :
    (s.receiving n e).returnQdat n k = (s.returnQdat n k).receiving n e :=
  s.modLink_comm n _ _ hlink hlink rfl

/-- Once it is answered, nothing of the ENQ is left at its link. -/
theorem State.receiving_answered (s : State) (n : Nat) (e : EnqIn) (r : Resp) (hlink : (s.link n).st ≠ .detect)
    (hnone : (s.link n).enqIn = none) :
    ((s.receiving n e).modLink n (fun l => { l with enqIn := none })).pushResp n r = s.pushResp n r := by
  have hne (x : Option EnqIn) : ({ s.link n with enqIn := x } : Link) ≠ {} := Link.ne_default_of_st _ hlink
  rw [State.receiving, State.modLink_modLink _ _ _ _ (hne _), State.pushResp, State.modLink_modLink _ _ _ _ (hne _), State.pushResp]
  refine s.modLink_congr n ?_
  simp [← hnone]

section
variable (n : Nat) (e : EnqIn) (he : e.job = none)
include he

/-- Every data flit of an ENQ without a job is discarded, and its credit returns. -/
theorem State.enqFlits_discarded (data : List Flit) : ∀ s : State, (s.link n).st ≠ .detect → s.variant ≠ .axd3200 →
    data.foldl (fun v f => v.enqFlit n f) ((s.receiving n e).returnQdat n 1) = (s.returnQdat n (1 + data.length)).receiving n e := by
  induction data with
  | nil => intro s hlink _; exact s.returnQdat_receiving n 1 e hlink
  | cons f data ih =>
    intro s hlink hvariant
    have hlink' : ((s.returnQdat n 1).link n).st ≠ .detect := by rw [State.returnQdat_st]; exact hlink
    have hflit : ((s.receiving n e).returnQdat n 1).enqFlit n f = ((s.returnQdat n 1).receiving n e).returnQdat n 1 := by
      have hvariant' : ((s.returnQdat n 1).receiving n e).variant ≠ .axd3200 := hvariant
      rw [s.returnQdat_receiving n 1 e hlink, State.enqFlit, State.receiving_enqIn]
      simp only [he, if_neg hvariant']
    rw [List.foldl_cons, hflit, ih _ hlink' hvariant, State.returnQdat_add _ _ _ _ hlink, List.length_cons, Nat.add_comm data.length]

/-- Without an engine there are no QDAT credits to return (R31). -/
theorem State.enqFlits_noEngine (data : List Flit) (s : State) (hvariant : s.variant = .axd3200) :
    data.foldl (fun v f => v.enqFlit n f) (s.receiving n e) = s.receiving n e := by
  induction data with
  | nil => rfl
  | cons f data ih =>
    have hvariant' : (s.receiving n e).variant = .axd3200 := hvariant
    have hflit : (s.receiving n e).enqFlit n f = s.receiving n e := by
      rw [State.enqFlit, State.receiving_enqIn]
      simp only [he, if_pos hvariant']
    rw [List.foldl_cons, hflit, ih]

/-- The end of an ENQ without a job is its answer. -/
theorem State.enqEnd_answer (s : State) (hlink : (s.link n).st ≠ .detect) (hnone : (s.link n).enqIn = none) :
    (s.receiving n e).enqEnd n =
      if e.refused then s.noExec n e.tag 0x40 e.status
      else (s.qcount (if e.status = 6 then 0x91 else 0x92) 1).pushResp n
        { tag := e.tag, opc := 0x9A, status := e.status, entered := s.now } := by
  rw [State.enqEnd, State.receiving_enqIn]
  simp only [he]
  split
  · exact s.receiving_answered n e _ hlink hnone
  · have hcount (sub : Nat) : ((s.receiving n e).modLink n (fun l => { l with enqIn := none })).qcount sub 1 =
        ((s.qcount sub 1).receiving n e).modLink n (fun l => { l with enqIn := none }) := by
      rw [State.qcount, State.count_modLink, State.receiving, State.count_modLink]
      rfl
    have hsame (sub : Nat) : (s.qcount sub 1).link n = s.link n := by rw [State.link, State.qcount, State.count_links]; rfl
    rw [hcount]
    exact State.receiving_answered _ n e _ (by rw [hsame]; exact hlink) (by rw [hsame]; exact hnone)

end

/-! ### Its header (R107, R241) -/

section
variable {s : State} {n tag label len q : Nat} {psn : Bool}

/-- A header that queue commands refuse. -/
theorem State.enqHead_refused {st : Nat} (h : s.refuseQueue = some st) : s.enqHead n tag label len q psn =
    if s.variant = .axd3200 then s.receiving n { tag := tag, status := st, refused := true }
    else (s.receiving n { tag := tag, status := st, refused := true }).returnQdat n 1 := by
  simp only [State.enqHead, h]
  rfl

theorem State.variant_of_refuseQueue (h : s.refuseQueue = none) : s.variant ≠ .axd3200 := by
  intro hvariant
  simp [State.refuseQueue, hvariant] at h

/-- The passing of the lock decides nothing of the fate of an ENQ. -/
theorem State.enqFate_locked (side : Nat) : (s.locked n q side).enqFate q len = s.enqFate q len := by
  have hqueue : (s.locked n q side).queue q = { s.queue q with lockPtr := (n + 1) % 128 } := by
    have hlink (t : State) (f : Link → Link) : (t.modLink n f).queue q = t.queue q := rfl
    rw [State.locked, hlink, State.modQueue, State.queue_setQueue, if_pos rfl]
  simp only [State.enqFate, hqueue]
  rfl

variable (hserved : s.refuseQueue = none) (hinject : nfield (s.rget (ekey 0x1800 0x64)) 63 62 = 0)
include hserved hinject

/-- A header that is dropped. -/
theorem State.enqHead_dropped {st : Nat} (hfate : s.enqFate q len = some st) : s.enqHead n tag label len q psn =
    ((s.locked n q 1).receiving n { tag := tag, status := st }).returnQdat n 1 := by
  have hread : (s.locked n q 1).readQueue q false = (false, s.locked n q 1) := by
    simp [State.readQueue, State.inject_off (s.locked n q 1) 4 6 _ hinject]
  have hvariant : ((s.locked n q 1).modLink n (fun l => { l with enqIn := some { tag := tag, status := st } })).variant ≠ .axd3200 :=
    State.variant_of_refuseQueue hserved
  simp only [State.enqHead, hserved, hread, State.enqFate_locked, hfate, if_neg hvariant]
  rfl

/-- A header that is accepted: its cells are reserved. -/
theorem State.enqHead_accepted (hfate : s.enqFate q len = none) : s.enqHead n tag label len q psn =
    State.returnQdat (State.receiving (((s.locked n q 1).newGroup.2.modQueue q (fun x => { x with
        reserved := x.reserved + packetCells len })).modSlice (s.sliceOf q) (fun y => { y with
          reserved := y.reserved + packetCells len }) |>.modLink n (fun l => { l with enqs := l.enqs ++
            [{ tag := tag, label := label, len := len, queue := q, cells := [], writesLeft := 0, psn := psn, id := s.reg.nextGrp,
               toCome := packetFlits len }] })) n { tag := tag, job := some s.reg.nextGrp }) n 1 := by
  have hread : (s.locked n q 1).readQueue q false = (false, s.locked n q 1) := by
    simp [State.readQueue, State.inject_off (s.locked n q 1) 4 6 _ hinject]
  have hcredit (v : State) (hv : v.variant = s.variant) : (if v.variant = .axd3200 then v else v.returnQdat n 1) = v.returnQdat n 1 :=
    if_neg (hv ▸ State.variant_of_refuseQueue hserved)
  have hslice : (s.locked n q 1).newGroup.2.sliceOf q = s.sliceOf q := rfl
  have hid : (s.locked n q 1).newGroup.1 = s.reg.nextGrp := rfl
  simp only [State.enqHead, hserved, hread, State.enqFate_locked, hfate, hslice, hid]
  rw [hcredit, State.receiving]
  simp [State.modSlice, State.modQueue, State.newGroup, State.locked]

end

/-- Settles O24: the header decides; an ENQ without a job then only gives its credits back and is answered. -/
theorem enqIsTakenDroppedOrRefused : Obligations.EnqIsTakenDroppedOrRefused := by
  intro s n tag label len q psn data hn hlabel hq htakes htag hlen hlen' hdata hnone hinject u
  have hlink : (s.link n).st ≠ .detect := by
    simp only [State.takesRequests, Bool.and_eq_true, decide_eq_true_eq] at htakes
    exact Link.st_ne_detect htakes.2
  have hexec : exec (.enq n tag label len q psn data) s =
      .next (State.settle ((data.foldl (fun v f => v.enqFlit n f) (s.enqHead n tag label len q psn)).enqEnd n)) := by
    have htag' : tag < 384 := by simp only [State.tagOk, Bool.and_eq_true, decide_eq_true_eq] at htag; exact htag.1
    have hwf : (Instr.enq n tag label len q psn data).wf = true := by
      simp only [Instr.wf, isLink, isTag, isLabel, isQueue, Bool.and_eq_true, decide_eq_true_eq]
      exact ⟨⟨⟨⟨⟨hn, by omega⟩, hlabel⟩, by omega⟩, hq⟩, .inr (.inr hdata)⟩
    have hrow : exec (.enq n tag label len q psn data) s = finish _ (s.enq n tag label len q psn data) := rfl
    have hgood : ¬ (len = 0 ∨ 16384 < len) := by omega
    rw [hrow, finish_wf hwf, State.enq]
    simp [htakes, hnone, htag, hgood]
  have hulink : (u.link n).st ≠ .detect := by
    simp only [u, State.locked, State.link_modLink, if_true]
    exact hlink
  have hunone : (u.link n).enqIn = none := by
    simp only [u, State.locked, State.link_modLink, if_true]
    exact hnone
  refine ⟨fun hserved hfate => ?_, fun st hserved hfate => ?_, fun st hrefused => ?_⟩
  · rw [hexec, State.enqHead_accepted hserved hinject hfate]
    rfl
  · have hcount (c : Nat) : (u.count c 1).link n = u.link n := by rw [State.link, State.count_links]; rfl
    rw [hexec, State.enqHead_dropped hserved hinject hfate, State.enqFlits_discarded n _ rfl data _ hulink
      (State.variant_of_refuseQueue hserved), hdata, State.enqEnd_answer n _ rfl _ (by rw [State.returnQdat_st]; exact hulink)
      (by rw [State.returnQdat_enqIn]; exact hunone), if_neg Bool.false_ne_true, State.qcount, State.count_returnQdat,
      State.returnQdat_pushResp _ _ _ _ (by rw [hcount]; exact hulink)]
    rfl
  · rw [hexec, State.enqHead_refused hrefused]
    by_cases hvariant : s.variant = .axd3200
    · simp only [if_pos hvariant]
      rw [State.enqFlits_noEngine n _ rfl data s hvariant, State.enqEnd_answer n _ rfl s hlink hnone, if_pos rfl]
      rfl
    · simp only [if_neg hvariant]
      rw [State.enqFlits_discarded n _ rfl data s hlink hvariant, hdata, State.enqEnd_answer n _ rfl _
        (by rw [State.returnQdat_st]; exact hlink) (by rw [State.returnQdat_enqIn]; exact hnone), if_pos rfl, State.noExec,
        State.returnQdat_pushResp _ _ _ _ hlink]
      rfl

end Sys2Proof.Machine
end

section
/-!
PROOFS. Slice0/EnqLinking: ENQ_LINK of a packet of one cell to an empty queue (R242, R246, R249).
-/

namespace Sys2Proof.Machine

/-! ### The link entry of the cell (R242, R246) -/

theorem QSlice.front_front (y : QSlice) (b b' : LinkBlk) (h : b'.addr = b.addr) : (y.front b).front b' = y.front b' := by
  simp [QSlice.front, h, List.filter_filter]

/-- An entry is written into its cached block without an access. -/
theorem State.setEntry_cached (s : State) (env : ChanEnv) (i l : Nat) (e : BitVec 64) (b : LinkBlk)
    (hfind : (s.slice i).blocks.find? (fun y => decide (y.addr = s.linkBlock i l)) = some b) :
    ({ s := s, env := env } : Eng).setEntry i l e = { s := s.modSlice i (fun y => y.front (b.put l e)), env := env } := by
  have hne : (s.slice i).front b ≠ {} := fun h => by simpa [QSlice.front] using congrArg QSlice.blocks h
  have hput : (b.put l e).addr = b.addr := rfl
  simp only [Eng.setEntry, Eng.fetch, QSlice.block, hfind, Bool.false_eq_true, if_false]
  rw [State.modSlice_modSlice _ _ _ _ hne]
  simp only [QSlice.front_front _ b _ hput]

/-- The jobs of a link after the entry of one has been written. -/
theorem State.job_chained (s : State) (n : Nat) (j : EnqJob) (f : EnqJob → EnqJob) (hf : ∀ x, (f x).id = x.id)
    (hjob : s.job n j.id = some j) : (s.modJob n j.id f).job n j.id = some (f j) := by
  rw [State.job, State.modJob, State.link_modLink, if_pos rfl, List.find?_map]
  have hname : ((fun x : EnqJob => decide (x.id = j.id)) ∘ fun x => if x.id = j.id then f x else x) = fun x => decide (x.id = j.id) := by
    funext x
    by_cases hx : x.id = j.id <;> simp [hx, hf]
  rw [State.job] at hjob
  rw [hname, hjob, Option.map_some, if_pos rfl]

theorem Eng.chain_done (x : Eng) (n : Nat) (j : EnqJob) (k : Nat) (hjob : x.s.job n j.id = some j)
    (hdone : j.cells.length ≤ j.chained) : x.chain n j.id k = x := by
  cases k with
  | zero => rfl
  | succ k => simp only [Eng.chain, hjob, if_pos hdone]

/-- The state with the link entry of a job's one cell written, where it is not yet. -/
def State.entered (s : State) (n : Nat) (j : EnqJob) (cell : Nat) (b : LinkBlk) : State :=
  if j.chained = 0 then
    (s.modSlice (s.sliceOf j.queue) (fun y => y.front (b.put cell (linkEntry 0 true true j.label j.len)))).modJob n j.id
      (fun x => { x with chained := x.chained + 1 })
  else s

section
variable {s : State} {n : Nat} {j : EnqJob} {cell : Nat} {b : LinkBlk}

/-- Chaining a packet of one cell writes its entry. -/
theorem State.chain_oneCell (env : ChanEnv) (hjob : s.job n j.id = some j) (hcells : j.cells = [cell]) (hone : packetCells j.len = 1)
    (hchained : j.chained ≤ 1) (hfind : j.chained = 0 →
      (s.slice (s.sliceOf j.queue)).blocks.find? (fun y => decide (y.addr = s.linkBlock (s.sliceOf j.queue) cell)) = some b) :
    ({ s := s, env := env } : Eng).chain n j.id 64 = { s := s.entered n j cell b, env := env } := by
  have hlen : j.cells.length = 1 := by simp [hcells]
  rw [State.entered]
  split
  case isFalse h => exact Eng.chain_done _ n j 64 hjob (by omega)
  case isTrue h =>
    have hentry : j.entry (s.sliceOf j.queue * s.poolK) 0 = linkEntry 0 true true j.label j.len := by simp [EnqJob.entry, hone]
    have hmore : ¬ j.cells.length ≤ 0 := by omega
    have hcell : j.cells.getD 0 0 = cell := by simp [hcells]
    have hset := s.setEntry_cached env (s.sliceOf j.queue) cell (linkEntry 0 true true j.label j.len) b (hfind h)
    have hjob' : (s.modSlice (s.sliceOf j.queue) (fun y => y.front (b.put cell (linkEntry 0 true true j.label j.len)))).job n j.id =
        some j := hjob
    have hnext := State.job_chained _ n j (fun x => { x with chained := x.chained + 1 }) (fun _ => rfl) hjob'
    rw [Eng.chain]
    simp only [hjob, h, if_neg hmore, hcell, hentry, hset, Bool.false_eq_true, if_false]
    exact Eng.chain_done _ n { j with chained := j.chained + 1 } 63 hnext (by simp [hlen])

end

/-! ### Linking at the tail (R242) -/

/-- The packet of a job of one cell becomes the head and tail of its empty queue. -/
def State.linkFirst (s : State) (j : EnqJob) (cell : Nat) : State :=
  ((s.modQueue j.queue (fun q => { q with
    head := s.sliceOf j.queue * s.poolK + cell, tail := s.sliceOf j.queue * s.poolK + cell,
    cells := q.cells + 1, packets := 1, reserved := q.reserved - 1 })).modSlice (s.sliceOf j.queue)
      (fun y => { y with reserved := y.reserved - 1, linked := y.linked + 1 })).qcount 0x90 1

theorem State.linkPacket_empty (s : State) (env : ChanEnv) (j : EnqJob) (cell : Nat) (hcells : j.cells = [cell])
    (hone : packetCells j.len = 1) (hempty : (s.queue j.queue).packets = 0) :
    ({ s := s, env := env } : Eng).linkPacket j = { s := s.linkFirst j cell, env := env } := by
  simp only [Eng.linkPacket, hempty, if_true, Bool.false_eq_true, if_false, hone, hcells, List.headD_cons, List.getLast?_singleton,
    Option.getD_some, State.linkFirst, State.modQueue]

/-! ### ENQ_LINK (R242, R245) -/

/-- The job leaves its link, answered unless its link has been reset (R93). -/
def State.enqAnswered (s : State) (n : Nat) (j : EnqJob) : State :=
  let t := (s.locked n j.queue 1).modLink n (fun l => { l with enqs := l.enqs.filter (fun y => decide (y.id ≠ j.id)) })
  if j.silent then t else t.pushResp n { tag := j.tag, opc := 0x9A, entered := t.now }

section
variable {s : State} {n : Nat} {j : EnqJob} {cell : Nat} {b : LinkBlk}

theorem State.enqLink_oneCell (env : ChanEnv) (hbad : env.sramBad = false) (hrun : s.engineRuns = true)
    (hinject : nfield (s.rget (ekey 0x1800 0x64)) 63 62 = 0) (hnext : nextJob [] (s.link n).enqs = some j)
    (hturn : s.linkTurn j = true) (hwins : s.winsLock n j.queue 1 = true)
    (hjob : (s.link n).enqs.find? (fun x => decide (x.id = j.id)) = some j) (hcells : j.cells = [cell]) (hchained : j.chained ≤ 1)
    (hone : packetCells j.len = 1) (hempty : (s.queue j.queue).packets = 0) (hfind : j.chained = 0 →
      (s.slice (s.sliceOf j.queue)).blocks.find? (fun y => decide (y.addr = s.linkBlock (s.sliceOf j.queue) cell)) = some b) :
    s.enqLink n env = ((s.entered n j cell b).linkFirst j cell).enqAnswered n j := by
  have hlinkable : s.linkable n = some j := by simp only [State.linkable, hnext, hturn, if_true]
  have hread : s.readQueue j.queue env.sramBad = (false, s) := by simp [State.readQueue, s.inject_off 4 6 _ hinject, hbad]
  have hempty' : ((s.entered n j cell b).queue j.queue).packets = 0 := by
    rw [State.entered]; split <;> exact hempty
  have hchain := State.chain_oneCell env hjob hcells hone hchained hfind
  simp only [State.enqLink, hlinkable, hrun, hwins, Bool.not_true, Bool.or_self, Bool.false_eq_true, if_false, hread, hchain,
    State.linkPacket_empty _ env j cell hcells hone hempty', State.enqAnswered]

end

/-! ### What it changes, and what it leaves -/

/-- Links, registers, queues and slices apart, `t` is `s`. -/
def LinkingFrame (s t : State) : Prop := ∃ links regs free queues slices,
  t = { s with links := links, regs := regs, free := free, qe := { s.qe with queues := queues, slices := slices } }

theorem LinkingFrame.trans {s t u : State} (h : LinkingFrame s t) (h' : LinkingFrame t u) : LinkingFrame s u := by
  obtain ⟨_, _, _, _, _, rfl⟩ := h
  obtain ⟨_, _, _, _, _, rfl⟩ := h'
  exact ⟨_, _, _, _, _, rfl⟩

theorem LinkingFrame.eq {s t : State} (h : LinkingFrame s t) : { s with
    links := t.links, regs := t.regs, free := t.free, qe := { s.qe with queues := t.qe.queues, slices := t.qe.slices } } = t := by
  obtain ⟨_, _, _, _, _, rfl⟩ := h
  rfl

theorem LinkingFrame.refl (s : State) : LinkingFrame s s := ⟨_, _, _, _, _, rfl⟩
theorem LinkingFrame.modLink (s : State) (n : Nat) (f : Link → Link) : LinkingFrame s (s.modLink n f) := ⟨_, _, _, _, _, rfl⟩
theorem LinkingFrame.setQueue (s : State) (q : Nat) (x : Queue) : LinkingFrame s (s.setQueue q x) := ⟨_, _, _, _, _, rfl⟩
theorem LinkingFrame.modSlice (s : State) (i : Nat) (f : QSlice → QSlice) : LinkingFrame s (s.modSlice i f) := ⟨_, _, _, _, _, rfl⟩

theorem LinkingFrame.count (s : State) (k v : Nat) : LinkingFrame s (s.count k v) := by
  simp only [State.count]
  (repeat' split) <;> exact ⟨_, _, _, _, _, rfl⟩

section
variable (s : State) (n : Nat) (j : EnqJob) (cell : Nat) (b : LinkBlk)

theorem State.link_entered (k : Nat) : (s.entered n j cell b).link k =
    if k = n ∧ j.chained = 0 then { s.link n with
      enqs := (s.link n).enqs.map (fun x => if x.id = j.id then { x with chained := x.chained + 1 } else x) } else s.link k := by
  have hlinks (f : QSlice → QSlice) (k : Nat) : (s.modSlice (s.sliceOf j.queue) f).link k = s.link k := rfl
  rw [State.entered]
  by_cases h : j.chained = 0
  · rw [if_pos h, State.modJob, State.link_modLink, hlinks, hlinks]
    by_cases hk : k = n <;> simp [h, hk]
  · rw [if_neg h, if_neg (fun hk => h hk.2)]

theorem State.slice_entered (i : Nat) : (s.entered n j cell b).slice i =
    if i = s.sliceOf j.queue ∧ j.chained = 0 then
      (s.slice i).front (b.put cell (linkEntry 0 true true j.label j.len)) else s.slice i := by
  have hlink (t : State) (f : EnqJob → EnqJob) : (t.modJob n j.id f).slice i = t.slice i := rfl
  rw [State.entered]
  by_cases h : j.chained = 0
  · rw [if_pos h, hlink, State.slice_modSlice]
    by_cases hi : i = s.sliceOf j.queue <;> simp [h, hi]
  · rw [if_neg h, if_neg (fun hi => h hi.2)]

theorem State.queue_entered (q : Nat) : (s.entered n j cell b).queue q = s.queue q := by
  rw [State.entered]; split <;> rfl

theorem State.rget_entered (k : Nat) : (s.entered n j cell b).rget k = s.rget k := by
  rw [State.entered]; split <;> rfl

theorem State.entered_frame : LinkingFrame s (s.entered n j cell b) := by
  rw [State.entered]
  split
  · exact (LinkingFrame.modSlice _ _ _).trans (.modLink _ _ _)
  · exact .refl s

theorem State.link_linkFirst (k : Nat) : (s.linkFirst j cell).link k = s.link k := by
  rw [State.link, State.linkFirst, State.qcount, State.count_links]; rfl

theorem State.queue_linkFirst (q : Nat) : (s.linkFirst j cell).queue q = if q = j.queue then { s.queue q with
    head := s.sliceOf j.queue * s.poolK + cell, tail := s.sliceOf j.queue * s.poolK + cell,
    cells := (s.queue q).cells + 1, packets := 1, reserved := (s.queue q).reserved - 1 } else s.queue q := by
  have hslice (t : State) (i : Nat) (f : QSlice → QSlice) : mget {} (t.modSlice i f).qe.queues q = t.queue q := rfl
  rw [State.queue, State.linkFirst, State.qcount, State.count_qe, hslice, State.modQueue, State.queue_setQueue]
  by_cases hq : q = j.queue <;> simp [hq]

theorem State.slice_linkFirst (i : Nat) : (s.linkFirst j cell).slice i = if i = s.sliceOf j.queue then { s.slice i with
    reserved := (s.slice i).reserved - 1, linked := (s.slice i).linked + 1 } else s.slice i := by
  have hslice (t : State) : mget {} t.qe.slices i = t.slice i := rfl
  have hqueue (f : Queue → Queue) (i : Nat) : (s.modQueue j.queue f).slice i = s.slice i := rfl
  rw [State.slice, State.linkFirst, State.qcount, State.count_qe, hslice, State.slice_modSlice, hqueue, hqueue]
  by_cases hi : i = s.sliceOf j.queue <;> simp [hi]

theorem State.rget_linkFirst {k : Nat} (h : k ≠ ekey 0x3000 0x90) : (s.linkFirst j cell).rget k = s.rget k := by
  rw [State.linkFirst, State.qcount, State.count_rget_other _ _ _ _ h]; rfl

theorem State.linkFirst_frame : LinkingFrame s (s.linkFirst j cell) := by
  exact ((LinkingFrame.setQueue _ _ _).trans (.modSlice _ _ _)).trans (.count _ _ _)

theorem State.link_enqAnswered (k : Nat) : (s.enqAnswered n j).link k = if k = n then { s.link n with
    sidePtr := 0, enqs := (s.link n).enqs.filter (fun y => decide (y.id ≠ j.id))
    resp := (s.link n).resp ++ if j.silent then [] else [{ tag := j.tag, opc := 0x9A, entered := s.now }] } else s.link k := by
  have hlocked (k : Nat) : (s.locked n j.queue 1).link k = if k = n then { s.link n with sidePtr := 0 } else s.link k := by
    rw [State.locked, State.link_modLink]; rfl
  rw [State.enqAnswered]
  by_cases hk : k = n
  · split
    · simp only [hk, State.link_modLink, if_true, hlocked, List.append_nil]
    · simp only [hk, State.pushResp, State.link_modLink, if_true, hlocked]; rfl
  · split <;> simp only [State.pushResp, State.link_modLink, if_neg hk, hlocked]

theorem State.queue_enqAnswered (q : Nat) : (s.enqAnswered n j).queue q =
    if q = j.queue then { s.queue q with lockPtr := (n + 1) % 128 } else s.queue q := by
  have hlink (t : State) (f : Link → Link) : (t.modLink n f).queue q = t.queue q := rfl
  have hlocked : (s.locked n j.queue 1).queue q = if q = j.queue then { s.queue q with lockPtr := (n + 1) % 128 } else s.queue q := by
    rw [State.locked, hlink, State.modQueue, State.queue_setQueue]
    by_cases hq : q = j.queue <;> simp [hq]
  rw [State.enqAnswered]
  split
  · rw [hlink, hlocked]
  · rw [State.pushResp, hlink, hlink, hlocked]

theorem State.slice_enqAnswered (i : Nat) : (s.enqAnswered n j).slice i = s.slice i := by
  have hlink (t : State) (f : Link → Link) : (t.modLink n f).slice i = t.slice i := rfl
  have hlocked : (s.locked n j.queue 1).slice i = s.slice i := rfl
  rw [State.enqAnswered]
  split
  · rw [hlink, hlocked]
  · rw [State.pushResp, hlink, hlink, hlocked]

theorem State.rget_enqAnswered (k : Nat) : (s.enqAnswered n j).rget k = s.rget k := by
  have hlocked : (s.locked n j.queue 1).rget k = s.rget k := rfl
  rw [State.enqAnswered]
  split
  · rw [State.rget_modLink, hlocked]
  · rw [State.pushResp, State.rget_modLink, State.rget_modLink, hlocked]

theorem State.enqAnswered_frame : LinkingFrame s (s.enqAnswered n j) := by
  have hleft : LinkingFrame s ((s.locked n j.queue 1).modLink n
      (fun l => { l with enqs := l.enqs.filter (fun y => decide (y.id ≠ j.id)) })) :=
    ((LinkingFrame.setQueue _ _ _).trans (.modLink _ _ _)).trans (.modLink _ _ _)
  rw [State.enqAnswered]
  split
  · exact hleft
  · exact hleft.trans (.modLink _ _ _)

end

/-- The jobs of other names are what they were before a job was changed. -/
theorem filter_unnamed (js : List EnqJob) (id : Nat) :
    (js.map (fun x => if x.id = id then { x with chained := x.chained + 1 } else x)).filter (fun y => decide (y.id ≠ id)) =
      js.filter (fun y => decide (y.id ≠ id)) := by
  induction js with
  | nil => rfl
  | cons x js ih => by_cases hx : x.id = id <;> simp [hx] <;> simpa using ih

/-- Settles O27: the entry is written where it is not yet, the packet linked to its empty queue, and the job answered. -/
theorem enqLinkPutsThePacketAtTheTail : Obligations.EnqLinkPutsThePacketAtTheTail := by
  intro s n env j cell b hn henv hbad hrun hinject hnext hturn hwins hjob hcells hchained hone hempty i addr hfind entry b'
  have hexec : exec (.enqLink n env) s = finish (Instr.enqLink n env).wf (s.enqLink n env) := rfl
  have hsame : (s.entered n j cell b).sliceOf j.queue = i ∧ (s.entered n j cell b).poolK = s.poolK := by
    rw [State.entered]; split <;> exact ⟨rfl, rfl⟩
  obtain ⟨hslice, hpool⟩ := hsame
  have hblock : linkEntry 0 true true j.label j.len = entry := by simp [linkEntry, b2n, entry]
  refine ⟨((s.entered n j cell b).linkFirst j cell).enqAnswered n j, ?_, ?_, ?_, ?_, ?_, ?_, ?_, ?_, ?_⟩
  · rw [hexec, finish_wf (by simp [Instr.wf, isLink, hn, henv]),
      State.enqLink_oneCell env hbad hrun hinject hnext hturn hwins hjob hcells hchained hone hempty hfind]
  · rw [State.slice_enqAnswered, State.slice_linkFirst, hslice, if_pos rfl, State.slice_entered]
    by_cases h : j.chained = 0
    · have haddr : b.addr = addr := by simpa using List.find?_some (hfind h)
      simp [h, hblock, QSlice.front, LinkBlk.put, haddr, b', i]
    · simp [h]
  · intro i' hi'
    rw [State.slice_enqAnswered, State.slice_linkFirst, hslice, if_neg hi', State.slice_entered, if_neg (fun h => hi' h.1)]
  · rw [State.queue_enqAnswered, if_pos rfl, State.queue_linkFirst, if_pos rfl, hslice, hpool, State.queue_entered]
  · intro q' hq'
    rw [State.queue_enqAnswered, if_neg hq', State.queue_linkFirst, if_neg hq', State.queue_entered]
  · rw [State.link_enqAnswered, if_pos rfl, State.link_linkFirst, State.link_entered]
    have hnow : ((s.entered n j cell b).linkFirst j cell).now = s.now := by
      have hentered : (s.entered n j cell b).now = s.now := by rw [State.entered]; split <;> rfl
      rw [State.linkFirst, State.qcount, State.count_now]
      exact hentered
    rw [hnow]
    by_cases h : j.chained = 0
    · simp only [h, and_self, if_true, filter_unnamed]
    · simp only [true_and, if_neg h]
  · intro m hm
    rw [State.link_enqAnswered, if_neg hm, State.link_linkFirst, State.link_entered, if_neg (fun h => hm h.1)]
  · intro k hk
    rw [State.rget_enqAnswered, State.rget_linkFirst _ _ _ hk, State.rget_entered]
  · exact (((s.entered_frame n j cell b).trans (State.linkFirst_frame _ j cell)).trans (State.enqAnswered_frame _ n j)).eq

end Sys2Proof.Machine
end

section
/-!
PROOFS. Slice0/ChannelEntries: what an entry of a channel that nothing disturbs does besides its access of the memory, and what
a block read returns (R161–R163, R213, R217).
-/

namespace Sys2Proof.Machine

/-! ### Counters of a channel -/

/-- ZERO_READS of a channel counts below its end. -/
theorem State.count_zeroReads (s : State) (m : Nat) (hm : m < 128) (h : s.rget (chanKey m 0x64) + 1 < 2 ^ 64) :
    s.count (chanKey m 0x64) 1 = s.rset (chanKey m 0x64) (s.rget (chanKey m 0x64) + 1) := by
  have all : ∀ m < 128, (entryRow (chanKey m 0x64)).map EntryRow.ty = some .u64 := by decide +kernel
  have htype := all m hm
  cases hrow : entryRow (chanKey m 0x64) with
  | none => simp [hrow] at htype
  | some r =>
    simp only [hrow, Option.map_some, Option.some.injEq] at htype
    exact s.count_eq _ 1 r hrow (by simpa [htype, ETy.bits] using h)

theorem chanKey_ne_integrity (m sub i : Nat) (hm : m < 128) (hsub : sub < 256) (hi : i < 256) : ekey 0x1800 i ≠ chanKey m sub := by
  simp only [chanKey, ekey]; omega

/-! ### What the row commands and counters of an entry leave alone -/

/-- From `s` to `t` nothing has changed but open rows and activate tables of channel `m` and counters other than ZERO_READS. -/
structure RowFrame (m : Nat) (s t : State) : Prop where
  links : t.links = s.links
  chan : ∃ rows ref, t.chan m = { s.chan m with openRows := rows, ref := ref }
  others : ∀ k, k ≠ m → t.chan k = s.chan k
  control : ∀ i, i < 256 → t.rget (ekey 0x1800 i) = s.rget (ekey 0x1800 i)
  zeroReads : t.rget (chanKey m 0x64) = s.rget (chanKey m 0x64)

namespace RowFrame
variable {m : Nat} {s t u : State}

theorem refl (s : State) : RowFrame m s s := ⟨rfl, ⟨_, _, rfl⟩, fun _ _ => rfl, fun _ _ => rfl, rfl⟩

theorem trans (h : RowFrame m s t) (h' : RowFrame m t u) : RowFrame m s u := by
  refine ⟨h'.links.trans h.links, ?_, fun k hk => (h'.others k hk).trans (h.others k hk),
    fun i hi => (h'.control i hi).trans (h.control i hi), h'.zeroReads.trans h.zeroReads⟩
  obtain ⟨_, _, hs⟩ := h.chan
  obtain ⟨rows, ref, ht⟩ := h'.chan
  exact ⟨rows, ref, by rw [ht, hs]⟩

theorem ite {c : Prop} [Decidable c] (ht : RowFrame m s t) (hu : RowFrame m s u) : RowFrame m s (if c then t else u) := by
  split
  · exact ht
  · exact hu

/-- Links, channels and registers are all that matters. -/
theorem congr (h : RowFrame m s t) (hl : u.links = t.links) (hc : u.chans = t.chans) (hr : u.regs = t.regs) : RowFrame m s u := by
  have hchan (k : Nat) : u.chan k = t.chan k := by rw [State.chan, hc]; rfl
  have hreg (k : Nat) : u.rget k = t.rget k := by rw [State.rget, hr]; rfl
  exact h.trans ⟨hl, ⟨_, _, hchan m⟩, fun k _ => hchan k, fun i _ => hreg _, hreg _⟩

/-- A counter of the channel other than ZERO_READS. -/
theorem count (h : RowFrame m s t) (hm : m < 128) {sub : Nat} (hsub : sub < 256) (hne : sub ≠ 0x64) (n : Nat) :
    RowFrame m s (t.count (chanKey m sub) n) := by
  have hchan (k : Nat) : (t.count (chanKey m sub) n).chan k = t.chan k := by rw [State.chan, State.count_chans]; rfl
  have hzero : chanKey m 0x64 ≠ chanKey m sub := by simp only [chanKey, ekey]; omega
  exact h.trans ⟨State.count_links _ _ _, ⟨_, _, hchan m⟩, fun k _ => hchan k,
    fun i hi => State.count_rget_other _ _ _ _ (chanKey_ne_integrity m sub i hm hsub hi), State.count_rget_other _ _ _ _ hzero⟩

theorem peak (h : RowFrame m s t) (hm : m < 128) {sub : Nat} (hsub : sub < 256) (hne : sub ≠ 0x64) (v top : Nat) :
    RowFrame m s (t.peak (chanKey m sub) v top) := by
  have hzero : chanKey m 0x64 ≠ chanKey m sub := by simp only [chanKey, ekey]; omega
  refine h.trans ⟨rfl, ⟨_, _, rfl⟩, fun k _ => rfl, fun i hi => ?_, ?_⟩
  · rw [State.peak, State.rget_rset, if_neg (chanKey_ne_integrity m sub i hm hsub hi)]
  · rw [State.peak, State.rget_rset, if_neg hzero]

/-- A change of the open rows and the tables. -/
theorem setChan (h : RowFrame m s t) (rows : SMap Nat) (ref : ChanRef) :
    RowFrame m s (t.setChan m { t.chan m with openRows := rows, ref := ref }) := by
  refine h.trans ⟨rfl, ⟨rows, ref, ?_⟩, fun k hk => ?_, fun i _ => rfl, rfl⟩
  · rw [State.chan_setChan, if_pos rfl]
  · rw [State.chan_setChan, if_neg hk]

theorem activate (h : RowFrame m s t) (hm : m < 128) (k w : Nat) : RowFrame m s (t.activate m k w) := by
  unfold State.activate
  extract_lets acts c
  split
  next tab n evicted _ =>
    extract_lets marks pend force chans evict mark storm
    have hacts : RowFrame m s acts := h.congr rfl rfl rfl
    have hchans : RowFrame m s chans := hacts.setChan _ _
    have hevict : RowFrame m s evict := .ite (hchans.count hm (by decide) (by decide) 1) hchans
    have hmark : RowFrame m s mark := .ite (hevict.count hm (by decide) (by decide) 1) hevict
    have hstorm : RowFrame m s storm := .ite (hmark.count hm (by decide) (by decide) 1) hmark
    exact hstorm.peak hm (by decide) (by decide) _ _

theorem openRow (h : RowFrame m s t) (hm : m < 128) (a : Nat) : RowFrame m s (t.openRow m a) := by
  unfold State.openRow
  exact .ite h ((h.activate hm _ _).setChan _ _)

theorem columnAccess (h : RowFrame m s t) (hm : m < 128) (a : Nat) (last : Bool) : RowFrame m s (t.columnAccess m a last) := by
  unfold State.columnAccess
  extract_lets sub opened
  have hsub : sub = 0x61 ∨ sub = 0x62 ∨ sub = 0x63 := by
      simp only [sub]
      split
      · split <;> decide
      · decide
  have hopened : RowFrame m s opened := (h.count hm (by omega) (by omega) 1).openRow hm a
  exact .ite (hopened.setChan _ _) hopened

theorem caCount (h : RowFrame m s t) (hm : m < 128) (env : ChanEnv) : RowFrame m s (t.caCount m env) :=
  (h.count hm (by decide) (by decide) _).count hm (by decide) (by decide) _

theorem link (h : RowFrame m s t) (n : Nat) : t.link n = s.link n := by rw [State.link, h.links]; rfl

theorem mem (h : RowFrame m s t) : (t.chan m).mem = (s.chan m).mem := by obtain ⟨_, _, h⟩ := h.chan; rw [h]

theorem arrayWord (h : RowFrame m s t) (a : Nat) : t.arrayWord m a = s.arrayWord m a := by
  rw [State.arrayWord, h.mem, State.arrayWord]

end RowFrame

/-! ### An entry that nothing disturbs -/

theorem weightGo_zero (k : Nat) : weightGo k 0 = 0 := by
  induction k with
  | zero => rfl
  | succ k ih => simpa [weightGo] using ih

theorem decodeMeta_clean (n w : Nat) : decodeMeta n w 0 = .clean w := by
  unfold decodeMeta
  split
  case h_1 => rfl
  all_goals simp_all [weightGo_zero]

/-- Nothing is injected, no region of channel `m` waits for a fill, no coil is erased, and nothing forces its self-refresh. -/
structure Undisturbed (m : Nat) (s : State) : Prop where
  inject : ∀ k, k < 7 → nfield (s.rget (ekey 0x1800 (0x60 + k))) 63 62 = 0
  fills : (s.chan m).mem.fills = []
  erased : (s.chan m).erased = none
  forced : (s.chan m).forced = false

theorem RowFrame.undisturbed {m : Nat} {s t : State} (h : RowFrame m s t) (hs : Undisturbed m s) : Undisturbed m t := by
  obtain ⟨rows, ref, hchan⟩ := h.chan
  refine ⟨fun k hk => ?_, by rw [hchan]; exact hs.fills, by rw [hchan]; exact hs.erased, by rw [hchan]; exact hs.forced⟩
  rw [h.control _ (by omega)]
  exact hs.inject k hk

namespace Undisturbed
variable {m : Nat} {s : State} (hs : Undisturbed m s)
include hs

theorem injectNone {k : Nat} (hk : k < 7) (inst addr : Nat) : s.inject k inst addr = (0, s) := s.inject_off k inst addr (hs.inject k hk)

/-- The region look-up answers the region bit (R213). -/
theorem lookupRegion (r : Nat) : s.lookupRegion m r false = (mget false (s.chan m).mem.rmap r, s) := by
  simp [State.lookupRegion, hs.injectNone, hs.fills]

/-- The metadata words are read as they are stored (R209). -/
theorem readMeta (h : Nat) :
    s.readMeta m h 0 0 = (mget 0 (s.chan m).mem.valid (h / 64), mget 0 (s.chan m).mem.poison (h / 64), s) := by
  unfold State.readMeta
  extract_lets i one put fail
  have hone (plane : Nat) : one s plane 0 = (.clean (mget 0 (if plane = 0 then (s.chan m).mem.valid else (s.chan m).mem.poison) i), s) := by
    have hpat : (if nfield (s.rget (ekey 0x1800 0x63)) 52 52 = plane then s.inject 3 m h else (0, s)) = (0, s) := by
      rw [hs.injectNone (by decide), ite_self]
    simp only [one]
    rw [hpat]
    have hnone : (0 ^^^ if 0 % 4 = 1 then 2 ^ 64 else if 0 % 4 = 2 then 2 ^ 64 + 2 ^ 65 else 0) = 0 := rfl
    simp only [hnone]
    rw [decodeMeta_clean, if_pos trivial]
  simp only [hone, if_true, one_ne_zero, if_false]
  rfl

/-- A stored codeword decodes to its data (R204, R217). -/
theorem decodeWord (h : Nat) (hword : isCodeword (s.arrayWord m h) = true) :
    s.decodeWord m h 0 = (.clean (s.arrayWord m h % 2 ^ 512), s) := by
  have hsame (xs : List Nat) : diffPositions xs xs = [] := by
    rw [diffPositions, List.filterMap_eq_nil_iff]
    intro e he
    have hpair : e.2 ∈ xs.zip xs := (List.of_mem_zip he).2
    rw [List.zip, List.zipWith_self] at hpair
    obtain ⟨x, -, hx⟩ := List.mem_map.mp hpair
    simp [← hx]
  have hflip : 0 ^^^ (2 ^ (8 * 0) - 1) * 2 ^ 512 = 0 := by rw [Nat.mul_zero, pow_zero, Nat.sub_self, Nat.zero_mul, Nat.xor_self]
  have hclean (n mode : Nat) (coil : Option Nat) :
      decodeBlock n mode coil (s.arrayWord m h) 0 = .clean (s.arrayWord m h % 2 ^ 512) := by
    simp only [decodeBlock, hword, if_true, Nat.xor_zero, hsame, List.filter_nil, List.length_nil]
  simp only [State.decodeWord, hs.injectNone (show 2 < 7 by decide), hflip, hclean, if_true]

/-- What a read gets of a block, and what it counts (Table 2 of the integrity chapter). -/
theorem readBlock (h : Nat)
    (hword : mget false (s.chan m).mem.rmap (regionOf h) = true → nbit (mget 0 (s.chan m).mem.valid (h / 64)) (h % 64) = true →
      isCodeword (s.arrayWord m h) = true) :
    s.readBlock m h 0 {} =
      if mget false (s.chan m).mem.rmap (regionOf h) = false then ({}, false, s)
      else if nbit (mget 0 (s.chan m).mem.valid (h / 64)) (h % 64) = false then ({}, true, s)
      else if nbit (mget 0 (s.chan m).mem.poison (h / 64)) (h % 64) = true then
        ({ data := s.arrayWord m h % 2 ^ 512, poisoned := true, valid := true }, true, s.count (chanKey m 0xA3) 1)
      else ({ data := s.arrayWord m h % 2 ^ 512, valid := true }, true, s) := by
  rw [State.readBlock, hs.lookupRegion]
  cases hwritten : mget false (s.chan m).mem.rmap (regionOf h) with
  | false => rfl
  | true =>
    simp only [State.readColumn, hs.readMeta, State.readValid]
    cases hvalid : nbit (mget 0 (s.chan m).mem.valid (h / 64)) (h % 64) with
    | false => rfl
    | true =>
      rw [hs.decodeWord h (hword hwritten hvalid)]
      cases nbit (mget 0 (s.chan m).mem.poison (h / 64)) (h % 64) <;> rfl

end Undisturbed

/-! ### The whole entry (R161) -/

/-- From `s` to `t` nothing has changed that the rest of an entry of channel `m` depends on, the registers apart. -/
structure EntryFrame (m : Nat) (s t : State) : Prop where
  links : t.links = s.links
  queue : (t.chan m).queue = (s.chan m).queue
  mem : (t.chan m).mem = (s.chan m).mem
  forced : (t.chan m).forced = (s.chan m).forced
  others : ∀ k, k ≠ m → t.chan k = s.chan k

theorem RowFrame.entry {m : Nat} {s t : State} (h : RowFrame m s t) : EntryFrame m s t := by
  obtain ⟨rows, ref, hchan⟩ := h.chan
  exact ⟨h.links, by rw [hchan], by rw [hchan], by rw [hchan], h.others⟩

theorem EntryFrame.trans {m : Nat} {s t u : State} (h : EntryFrame m s t) (h' : EntryFrame m t u) : EntryFrame m s u :=
  ⟨h'.links.trans h.links, h'.queue.trans h.queue, h'.mem.trans h.mem, h'.forced.trans h.forced,
    fun k hk => (h'.others k hk).trans (h.others k hk)⟩

theorem EntryFrame.count (m : Nat) (s : State) (k n : Nat) : EntryFrame m s (s.count k n) := by
  have hchan (j : Nat) : (s.count k n).chan j = s.chan j := by rw [State.chan, State.count_chans]; rfl
  exact ⟨State.count_links _ _ _, by rw [hchan], by rw [hchan], by rw [hchan], fun j _ => hchan j⟩

section
variable {m : Nat} {s : State} {e : QEntry}

/-- An entry that may run is one of a channel in service. -/
theorem State.entryRuns_inService (h : s.entryRuns m e = true) : s.retired m = false := by
  simp only [State.entryRuns, State.chanRuns, Bool.and_eq_true, Bool.or_eq_true, decide_eq_true_eq] at h
  obtain ⟨-, h⟩ := h
  have hst : (s.chan m).st = .serving ∨ (s.chan m).st = .inSr := by
    rcases h with ⟨⟨⟨⟨⟨⟨⟨-, h⟩, -⟩, -⟩, -⟩, -⟩, -⟩, -⟩ | ⟨⟨-, h⟩, -⟩
    · exact .inl h
    · exact .inr h
  rcases hst with h | h <;> simp [State.retired, h]

/-- An undisturbed entry counts its commands, runs its request and leaves the queue. -/
theorem State.entryExecute_quiet (hm : m < enabled s.variant) (hs : Undisturbed m s) {rest : List QEntry}
    (hqueue : (s.chan m).queue = e :: rest) (hruns : s.entryRuns m e = true) :
    s.entryExecute m {} = ((s.caCount m {}).execRequest m e {}).leaveQueue m e := by
  have hm' : m < 128 := lt_of_lt_of_le hm (enabled_le _)
  have hframe : RowFrame m s (s.caCount m {}) := (RowFrame.refl s).caCount hm' {}
  have hs' := hframe.undisturbed hs
  have hretired : (s.caCount m {}).retired m = false := by
    obtain ⟨_, _, hchan⟩ := hframe.chan
    rw [State.retired, hchan]
    exact s.entryRuns_inService hruns
  have hparity : s.entryParity m {} = (false, s) := by simp [State.entryParity, hs.injectNone]
  have hmaint : s.maintCheck m {} = s.caCount m {} := by simp [State.maintCheck, hs'.injectNone]
  simp only [State.entryExecute, hqueue, hm, hruns, decide_true, Bool.and_self, Bool.not_true, Bool.false_eq_true, if_false, hparity,
    hmaint, hretired, List.take_zero, List.filter_nil, List.flatMap_nil, State.prepare, ite_self]

/-- What leaving the queue changes. -/
theorem State.leaveQueue_frame (hm : m < 128) (hforced : (s.chan m).forced = false) :
    (s.leaveQueue m e).links = s.links ∧ ((s.leaveQueue m e).chan m).queue = (s.chan m).queue.drop 1 ∧
      ((s.leaveQueue m e).chan m).mem = (s.chan m).mem ∧ (∀ k, k ≠ m → (s.leaveQueue m e).chan k = s.chan k) ∧
      (s.leaveQueue m e).rget (chanKey m 0x64) = s.rget (chanKey m 0x64) := by
  unfold State.leaveQueue
  extract_lets left counted
  have hleft : left.chan m = { s.chan m with
      queue := (s.chan m).queue.drop 1, sinceMaint := Nat.min ((s.chan m).sinceMaint + 1) 7 } := by
    simp only [left, State.chan_modChan, if_true]
  have hcounted : RowFrame m left counted := ((RowFrame.refl left).count hm (by decide) (by decide) 1).peak hm (by decide) (by decide) _ _
  obtain ⟨rows, ref, hchan⟩ := hcounted.chan
  have hstay : counted.forceNow m = counted := by
    simp only [State.forceNow, hchan, hleft, hforced, Bool.false_and, Bool.false_eq_true, if_false]
  rw [hstay]
  refine ⟨hcounted.links, by rw [hchan, hleft], by rw [hchan, hleft], fun k hk => ?_, hcounted.zeroReads⟩
  rw [hcounted.others k hk, State.chan_modChan, if_neg hk]

/-- The answer of a block read, to the slot that waits for it. -/
def Resp.blockRead (r : Resp) (held poison : Bool) (w : Nat) : Resp :=
  if held then r.done 0 (if poison then 1 else 0) (if poison then 3 else 0) 0 (blockFlits (BitVec.ofNat 512 (w % 2 ^ 512)))
  else r.done 0 0 0 0 (blockFlits 0)

/-- A read of one block answers what the block holds (R108, R163, R217). -/
theorem State.execRead_answers (hm : m < 128) (hs : Undisturbed m s) (hengine : e.req.engine = none) (hone : e.h2 = none)
    (hhalf : e.half = 0)
    (hword : mget false (s.chan m).mem.rmap (regionOf e.h) = true → nbit (mget 0 (s.chan m).mem.valid (e.h / 64)) (e.h % 64) = true →
      isCodeword (s.arrayWord m e.h) = true) :
    ∃ v : State, EntryFrame m s v ∧ (mget false (s.chan m).mem.rmap (regionOf e.h) = false → v = s.count (chanKey m 0x64) 1) ∧
      s.execRead m e {} = v.modResp e.port e.req.tag (fun r => r.blockRead
        (mget false (s.chan m).mem.rmap (regionOf e.h) && nbit (mget 0 (s.chan m).mem.valid (e.h / 64)) (e.h % 64))
        (nbit (mget 0 (s.chan m).mem.poison (e.h / 64)) (e.h % 64)) (s.arrayWord m e.h)) := by
  have hread := hs.readBlock e.h hword
  have hrow : EntryFrame m s (s.columnAccess m e.h true) := ((RowFrame.refl s).columnAccess hm e.h true).entry
  simp only [State.execRead, State.readOne, hone, Option.any_none, Bool.not_false, State.answerEntry, hengine, hhalf, hread, -Nat.reducePow]
  cases hwritten : mget false (s.chan m).mem.rmap (regionOf e.h) with
  | false => exact ⟨_, .count m s _ _, fun _ => rfl, rfl⟩
  | true =>
    cases hvalid : nbit (mget 0 (s.chan m).mem.valid (e.h / 64)) (e.h % 64) with
    | false => exact ⟨_, hrow, by simp, rfl⟩
    | true =>
      cases hpoison : nbit (mget 0 (s.chan m).mem.poison (e.h / 64)) (e.h % 64) with
      | false => exact ⟨_, hrow, by simp, rfl⟩
      | true =>
        have hcounted : EntryFrame m s ((s.count (chanKey m 0xA3) 1).columnAccess m e.h true) :=
          (EntryFrame.count m s _ _).trans ((RowFrame.refl _).columnAccess hm e.h true).entry
        refine ⟨_, hcounted, by simp, ?_⟩
        simp only [reduceCtorEq, if_true, if_false, Resp.blockRead, Bool.and_self, b2n, ReadOut.flits, -Nat.reducePow]

end

/-- The row of an undisturbed entry of one block whose request answers its link, in the state that its accesses leave. -/
theorem exec_entry {m : Nat} {s : State} {e : QEntry} {rest : List QEntry} (hm : m < enabled s.variant) (hs : Undisturbed m s)
    (hqueue : (s.chan m).queue = e :: rest) (hruns : s.entryRuns m e = true) :
    exec (.channelEntryExecute m {}) s = .next (State.settle (((s.caCount m {}).execRequest m e {}).leaveQueue m e)) := by
  have hm' : m < 128 := lt_of_lt_of_le hm (enabled_le _)
  have hexec : exec (.channelEntryExecute m {}) s = finish (Instr.channelEntryExecute m {}).wf (s.entryExecute m {}) := rfl
  have hwf : (Instr.channelEntryExecute m {}).wf = true := by
    have henv : ({} : ChanEnv).wf = true := by decide +kernel
    simp [Instr.wf, isChan, hm', henv]
  rw [hexec, finish_wf hwf, State.entryExecute_quiet hm hs hqueue hruns]

/-- What is left of an entry whose accesses have led to `v` and whose request is then answered. -/
structure EntryDone (m : Nat) (e : QEntry) (v t : State) (answer : Resp → Resp) : Prop where
  queue : (t.chan m).queue = (v.chan m).queue.drop 1
  mem : (t.chan m).mem = (v.chan m).mem
  others : ∀ k, k ≠ m → t.chan k = v.chan k
  links : ∀ n, n ≠ e.port → t.link n = v.link n
  resp : (t.link e.port).resp = (v.link e.port).resp.map (fun r => if r.tag = e.req.tag then answer r else r)
  zeroReads : t.rget (chanKey m 0x64) = v.rget (chanKey m 0x64)

theorem State.leaveQueue_done {m : Nat} (e : QEntry) {v : State} (hm : m < 128) (hforced : (v.chan m).forced = false)
    (answer : Resp → Resp) : EntryDone m e v ((v.modResp e.port e.req.tag answer).leaveQueue m e) answer := by
  obtain ⟨hlinks, hqueue, hmem, hothers, hzero⟩ := State.leaveQueue_frame (s := v.modResp e.port e.req.tag answer) (e := e) hm hforced
  have hlink (n : Nat) : ((v.modResp e.port e.req.tag answer).leaveQueue m e).link n = (v.modResp e.port e.req.tag answer).link n := by
    rw [State.link, hlinks]; rfl
  refine ⟨hqueue, hmem, hothers, fun n hn => ?_, ?_, hzero⟩
  · rw [hlink, State.modResp, State.link_modLink, if_neg hn]
  · rw [hlink, State.modResp, State.link_modLink, if_pos rfl]

/-- Settles O37: the accesses lead to the state of `State.execRead_answers`, and the entry leaves its queue. -/
theorem channelReadsWhatItHolds : Obligations.ChannelReadsWhatItHolds := by
  intro s m e rest hm hqueue hruns hopc hengine hone hhalf hh hinject hfills herased hforced mem written valid poison w hword
  have hm' : m < 128 := lt_of_lt_of_le hm (enabled_le _)
  have hs : Undisturbed m s := ⟨hinject, hfills, herased, hforced⟩
  have hca : RowFrame m s (s.caCount m {}) := (RowFrame.refl s).caCount hm' {}
  obtain ⟨v, hv, hzero, hread⟩ := State.execRead_answers (e := e) hm' (hca.undisturbed hs) hengine hone hhalf
    (by rw [hca.mem, hca.arrayWord]; exact hword)
  rw [hca.mem, hca.arrayWord] at hread
  rw [hca.mem] at hzero
  have hframe : EntryFrame m s v := hca.entry.trans hv
  have hdone := State.leaveQueue_done e (v := v) hm' (by rw [hframe.forced]; exact hforced)
    (fun r => r.blockRead (written && valid) poison w)
  have hlink (n : Nat) : v.link n = s.link n := by rw [State.link, hframe.links]; rfl
  have hexec : exec (.channelEntryExecute m {}) s =
      .next (State.settle ((v.modResp e.port e.req.tag (fun r => r.blockRead (written && valid) poison w)).leaveQueue m e)) := by
    have hrequest : (s.caCount m {}).execRequest m e {} = (s.caCount m {}).execRead m e {} := if_pos (.inl hopc)
    rw [exec_entry hm hs hqueue hruns, hrequest, hread]
  refine ⟨_, hexec, ?_, ?_, fun k hk => ?_, fun n hn => ?_, ?_, fun hunwritten hcount => ?_⟩
  · rw [hdone.queue, hframe.queue, hqueue]; rfl
  · rw [hdone.mem, hframe.mem]
  · rw [hdone.others k hk, hframe.others k hk]
  · rw [hdone.links n hn, hlink]
  · rw [hdone.resp, hlink]
    simp only [Resp.blockRead, Bool.and_eq_true]
  · have hcounts : (s.caCount m {}).rget (chanKey m 0x64) + 1 < 2 ^ 64 := by rw [hca.zeroReads]; omega
    rw [hdone.zeroReads, hzero hunwritten, State.count_zeroReads _ m hm' hcounts, State.rget_rset, if_pos rfl, hca.zeroReads]

end Sys2Proof.Machine
end

section
/-!
PROOFS. Slice0/ChannelWrites: what a write leaves in the memory of a channel: the stored word, its two bits, and the bits of an
unwritten region (R109, R111, R202, R214, R218).
-/

namespace Sys2Proof.Machine

/-! ### Bits and sets of words -/

/-- A bit after one that was 1 has been taken away. -/
theorem testBit_sub_two_pow {w i : Nat} (h : w.testBit i = true) (j : Nat) :
    (w - 2 ^ i).testBit j = if j = i then false else w.testBit j := by
  obtain ⟨c, hc⟩ : ∃ c, w / 2 ^ i = 2 * c + 1 := by
    rw [Nat.testBit_eq_decide_div_mod_eq, decide_eq_true_eq] at h
    exact ⟨w / 2 ^ i / 2, by omega⟩
  have hlow : w % 2 ^ i < 2 ^ i := Nat.mod_lt _ (Nat.two_pow_pos i)
  have hw : w = 2 ^ i * (2 * c + 1) + w % 2 ^ i := by rw [← hc, Nat.div_add_mod]
  have hless : w - 2 ^ i = 2 ^ i * (2 * c) + w % 2 ^ i := by rw [Nat.mul_add] at hw; omega
  have hbit := Nat.testBit_two_pow_mul_add (2 * c + 1) hlow j
  rw [← hw] at hbit
  rw [hless, Nat.testBit_two_pow_mul_add _ hlow, hbit]
  by_cases hj : j < i
  · rw [if_pos hj, if_neg (by omega), if_pos hj]
  · obtain ⟨k, rfl⟩ : ∃ k, j = i + k := ⟨j - i, by omega⟩
    rw [if_neg hj, if_neg hj, Nat.add_sub_cancel_left]
    cases k with
    | zero => simp [Nat.testBit_zero]
    | succ k =>
      have heven : 2 * c / 2 = c := by omega
      have hodd : (2 * c + 1) / 2 = c := by omega
      rw [if_neg (by omega), Nat.testBit_succ, Nat.testBit_succ, heven, hodd]

/-- A bit after one has been set. -/
theorem nbit_nset (w i j : Nat) (b : Bool) : nbit (nset w i b) j = if j = i then b else nbit w j := by
  simp only [nbit, nset]
  cases b with
  | true =>
    rw [if_pos rfl, Nat.testBit_or, Nat.one_shiftLeft, Nat.testBit_two_pow]
    by_cases h : j = i
    · simp [h]
    · simp [h, Ne.symm h]
  | false =>
    rw [if_neg Bool.false_ne_true, Nat.one_shiftLeft]
    by_cases hset : w.testBit i = true
    · rw [if_pos hset, testBit_sub_two_pow hset]
    · rw [if_neg hset]
      by_cases h : j = i
      · simpa [h] using hset
      · rw [if_neg h]

theorem mget_setWords (plane : SMap Nat) (w v k : Nat) :
    mget 0 (setWords plane w v) k = if w ≤ k ∧ k < w + 16 then v else mget 0 plane k := by
  have hfold (n : Nat) : mget 0 ((List.range n).foldl (fun p i => mset 0 p (w + i) v) plane) k =
      if w ≤ k ∧ k < w + n then v else mget 0 plane k := by
    induction n with
    | zero => rw [if_neg (by omega)]; rfl
    | succ n ih =>
      rw [List.range_succ, List.foldl_append, List.foldl_cons, List.foldl_nil, mget_mset, ih]
      by_cases hk : k = w + n
      · rw [if_pos hk, if_pos (by omega)]
      · rw [if_neg hk]
        exact if_congr (by omega) rfl rfl
  exact hfold 16

/-- The words of a region are sixteen in a row (R127, R209). -/
theorem wordOf_region (h r : Nat) (hh : h < 2 ^ 23) : (16 * r ≤ h / 64 ∧ h / 64 < 16 * r + 16) ↔ regionOf h = r := by
  simp only [regionOf, nfield]; omega

/-! ### The memory of a channel after a write -/

/-- From `s` to `t` nothing has changed that the rest of an entry of channel `m` depends on, memory and registers apart. -/
structure MemFrame (m : Nat) (s t : State) : Prop where
  links : t.links = s.links
  queue : (t.chan m).queue = (s.chan m).queue
  forced : (t.chan m).forced = (s.chan m).forced
  others : ∀ k, k ≠ m → t.chan k = s.chan k

theorem EntryFrame.memFrame {m : Nat} {s t : State} (h : EntryFrame m s t) : MemFrame m s t := ⟨h.links, h.queue, h.forced, h.others⟩

theorem MemFrame.trans {m : Nat} {s t u : State} (h : MemFrame m s t) (h' : MemFrame m t u) : MemFrame m s u :=
  ⟨h'.links.trans h.links, h'.queue.trans h.queue, h'.forced.trans h.forced, fun k hk => (h'.others k hk).trans (h.others k hk)⟩

theorem MemFrame.modChan {m : Nat} (s : State) {f : Chan → Chan} (hqueue : (f (s.chan m)).queue = (s.chan m).queue)
    (hforced : (f (s.chan m)).forced = (s.chan m).forced) : MemFrame m s (s.modChan m f) := by
  have hchan : (s.modChan m f).chan m = f (s.chan m) := by rw [State.chan_modChan, if_pos rfl]
  exact ⟨rfl, by rw [hchan, hqueue], by rw [hchan, hforced], fun k hk => by rw [State.chan_modChan, if_neg hk]⟩

/-- A region with its bit set; one that was unwritten has no valid block (R214). -/
def ChanMem.opened (c : ChanMem) (r : Nat) (written : Bool) : ChanMem :=
  if written then c else { c with valid := setWords c.valid (16 * r) 0, rmap := mset false c.rmap r true }

/-- The word `w` stored at `h` with valid bit 1 and a poison bit; `both` while an evacuation writes to both layers. -/
def ChanMem.store (c : ChanMem) (h w : Nat) (poison both : Bool) : ChanMem :=
  { c with
    arr := mset 0 c.arr h w, lost := mdel c.lost h, arrT := if both then mset 0 c.arrT h w else c.arrT
    valid := mset 0 c.valid (h / 64) (nset (mget 0 c.valid (h / 64)) (h % 64) true)
    poison := mset 0 c.poison (h / 64) (nset (mget 0 c.poison (h / 64)) (h % 64) poison) }

section
variable (m : Nat) (s : State) (h w : Nat) (poison written : Bool)

theorem State.initRegion_mem (r : Nat) : MemFrame m s (s.initRegion m r written) ∧
    ((s.initRegion m r written).chan m).mem = (s.chan m).mem.opened r written := by
  cases written with
  | true => exact ⟨⟨rfl, rfl, rfl, fun _ _ => rfl⟩, rfl⟩
  | false =>
    have hcount (t : State) (k : Nat) : MemFrame m t (t.count k 1) := (EntryFrame.count m t k 1).memFrame
    refine ⟨(MemFrame.modChan s rfl rfl).trans (hcount _ _), ?_⟩
    rw [State.initRegion, if_neg Bool.false_ne_true, (EntryFrame.count m _ _ 1).mem, State.modMem, State.chan_modChan, if_pos rfl]
    rfl

/-- What a write of a word changes in the memory. -/
theorem State.writeWord_mem : MemFrame m s (s.writeWord m h w true poison written) ∧ ∃ both,
    ((s.writeWord m h w true poison written).chan m).mem = ((s.chan m).mem.opened (regionOf h) written).store h w poison both := by
  obtain ⟨hinit, hmem⟩ := s.initRegion_mem m written (regionOf h)
  unfold State.writeWord
  extract_lets opened stored
  have hword : MemFrame m opened (opened.storeWord m h w) := .modChan opened rfl rfl
  have hbits (t : State) : MemFrame m t (t.setMeta m h true poison) := by
    unfold State.setMeta State.modMem
    exact .modChan t rfl rfl
  have hstored : MemFrame m opened stored := hword.trans (hbits _)
  have hstoredMem : (stored.chan m).mem = (opened.chan m).mem.store h w poison (decide ((opened.chan m).rep.evac = 2)) := by
    simp only [stored, State.setMeta, State.modMem, State.storeWord, State.chan_modChan, if_true, ChanMem.store, decide_eq_true_eq]
  have hcount : EntryFrame m stored (if poison = true then stored.count (chanKey m 0xA4) 1 else stored) := by
    split
    · exact EntryFrame.count m _ _ _
    · exact (RowFrame.refl stored).entry
  refine ⟨(hinit.trans hstored).trans hcount.memFrame, decide ((opened.chan m).rep.evac = 2), ?_⟩
  rw [hcount.mem, hstoredMem, hmem]

end

/-! ### Its words and bits -/

namespace ChanMem
variable (c : ChanMem) (h w : Nat) (poison both written : Bool)

/-- The bit of a block in a plane of the metadata (R208). -/
def planeBit (plane : SMap Nat) (k : Nat) : Bool := nbit (mget 0 plane (k / 64)) (k % 64)

theorem planeBit_set (plane : SMap Nat) (b : Bool) (k : Nat) :
    planeBit (mset 0 plane (h / 64) (nset (mget 0 plane (h / 64)) (h % 64) b)) k = if k = h then b else planeBit plane k := by
  rw [planeBit, mget_mset]
  by_cases hword : k / 64 = h / 64
  · rw [if_pos hword, nbit_nset, planeBit, hword]
    exact if_congr (by omega) rfl rfl
  · rw [if_neg hword, if_neg (by omega), planeBit]

theorem planeBit_opened {k : Nat} (r : Nat) (hk : k < 2 ^ 23) :
    planeBit (c.opened r written).valid k = (planeBit c.valid k && (written || decide (regionOf k ≠ r))) := by
  cases written with
  | true => simp [opened]
  | false =>
    simp only [opened, Bool.false_eq_true, if_false, planeBit, mget_setWords, wordOf_region k r hk]
    by_cases hr : regionOf k = r
    · simp [hr, nbit]
    · simp [hr]

theorem rmap_opened (r : Nat) (hwritten : written = mget false c.rmap r) : mget false (c.opened r written).rmap r = true := by
  cases written with
  | true => exact hwritten.symm
  | false => exact mget_mset_same false c.rmap r true

theorem arr_opened (r : Nat) : (c.opened r written).arr = c.arr := by
  unfold opened; split <;> rfl

theorem lost_opened (r : Nat) : (c.opened r written).lost = c.lost := by
  unfold opened; split <;> rfl

theorem poison_opened (r : Nat) : (c.opened r written).poison = c.poison := by
  unfold opened; split <;> rfl

end ChanMem

/-- What the array holds after a word has been stored. -/
theorem State.arrayWord_store {m : Nat} {s t : State} {h w : Nat} {r : Nat} {poison written both : Bool}
    (hmem : (t.chan m).mem = ((s.chan m).mem.opened r written).store h w poison both) (k : Nat) :
    t.arrayWord m k = if k = h then w else s.arrayWord m k := by
  simp only [State.arrayWord, hmem, ChanMem.store, ChanMem.arr_opened, ChanMem.lost_opened, mget_mset, mget_mdel]
  by_cases hk : k = h
  · simp only [hk, if_true, -Nat.reducePow]
  · simp only [if_neg hk]

/-! ### The requests that write -/

section
variable {m : Nat} {s : State} {e : QEntry}

/-- The memory after an entry that has stored `w` at its address with valid bit 1 and the poison bit. -/
structure EntryStored (m : Nat) (e : QEntry) (s v : State) (w : Nat) (poison : Bool) : Prop where
  frame : MemFrame m s v
  mem : ∃ both, (v.chan m).mem =
    ((s.chan m).mem.opened (regionOf e.h) (mget false (s.chan m).mem.rmap (regionOf e.h))).store e.h w poison both

/-- A write stores its data with PSN as the poison bit (R109, R218). -/
theorem State.execWrite_stores (hm : m < 128) (hs : Undisturbed m s) (hengine : e.req.engine = none) (hhalf : e.half = 0) :
    ∃ v, EntryStored m e s v (encodeBlock e.req.data.toNat) e.req.psn ∧
      s.execWrite m e {} = v.modResp e.port e.req.tag (fun r => r.done 0 0 0 0 []) := by
  have hrow : RowFrame m s (s.columnAccess m e.h true) := (RowFrame.refl s).columnAccess hm e.h true
  obtain ⟨hframe, both, hmem⟩ := (s.columnAccess m e.h true).writeWord_mem m e.h (encodeBlock e.req.data.toNat) e.req.psn
    (mget false (s.chan m).mem.rmap (regionOf e.h))
  rw [hrow.mem] at hmem
  refine ⟨_, ⟨hrow.entry.memFrame.trans hframe, both, hmem⟩, ?_⟩
  simp only [State.execWrite, hs.lookupRegion, State.answerEntry, hengine, hhalf, State.writeData]

/-- The word that an atomic puts in the place of the old one (R111). -/
def Held.newWord (x : Held) (old : Nat) : Nat := if x.opc = 0x14 then (old + x.operand.toNat) % 2 ^ 32 else x.operand.toNat

/-- An atomic on a valid, unpoisoned codeword stores the block with its new word, and answers the old one (R111). -/
theorem State.execAtomic_stores (hm : m < 128) (hs : Undisturbed m s) (hengine : e.req.engine = none) (hhalf : e.half = 0)
    (hwritten : mget false (s.chan m).mem.rmap (regionOf e.h) = true)
    (hvalid : nbit (mget 0 (s.chan m).mem.valid (e.h / 64)) (e.h % 64) = true)
    (hpoison : nbit (mget 0 (s.chan m).mem.poison (e.h / 64)) (e.h % 64) = false) (hword : isCodeword (s.arrayWord m e.h) = true) :
    let old := nfield (s.arrayWord m e.h % 2 ^ 512) (32 * e.req.word + 31) (32 * e.req.word)
    ∃ v, EntryStored m e s v (encodeBlock (setWord e.req.word (e.req.newWord old) (s.arrayWord m e.h % 2 ^ 512))) false ∧
      s.execAtomic m e {} = v.modResp e.port e.req.tag (fun r => r.done 0 0 0 (BitVec.ofNat 32 old) []) := by
  intro old
  have hread := hs.readBlock e.h (fun _ _ => hword)
  have hrow : RowFrame m s ((s.columnAccess m e.h false).columnAccess m e.h true) :=
    ((RowFrame.refl s).columnAccess hm e.h false).columnAccess hm e.h true
  obtain ⟨hframe, both, hmem⟩ := ((s.columnAccess m e.h false).columnAccess m e.h true).writeWord_mem m e.h
    (encodeBlock (setWord e.req.word (e.req.newWord old) (s.arrayWord m e.h % 2 ^ 512))) false true
  rw [hrow.mem] at hmem
  refine ⟨_, ⟨hrow.entry.memFrame.trans hframe, both, by rw [hwritten]; exact hmem⟩, ?_⟩
  simp only [State.execAtomic, State.readOne, hread, hwritten, hvalid, hpoison, Bool.true_eq_false, Bool.false_eq_true, if_true, if_false,
    State.answerEntry, hengine, hhalf, State.writeData, Held.newWord, old, -Nat.reducePow]

end

/-- A word of a codeword's data is that of the codeword. -/
theorem nfield_data (w k : Nat) (hk : k < 16) : nfield (w % 2 ^ 512) (32 * k + 31) (32 * k) = nfield w (32 * k + 31) (32 * k) := by
  have hpow : (2 : Nat) ^ 512 = 2 ^ (32 * k) * 2 ^ (512 - 32 * k) := by rw [← pow_add, Nat.add_sub_cancel' (by omega)]
  rw [nfield, hpow, Nat.mod_mul_right_div_self, Nat.mod_mod_of_dvd _ (pow_dvd_pow 2 (by omega)), nfield]

/-- The undisturbed entry of a request that stores a block and answers: `EntryStored` from the state in which its commands are
counted, then the answer and the queue. -/
theorem exec_entryStored {m : Nat} {s v : State} {e : QEntry} {rest : List QEntry} {w : Nat} {poison : Bool} (answer : Resp → Resp)
    (hm : m < enabled s.variant) (hs : Undisturbed m s) (hqueue : (s.chan m).queue = e :: rest) (hruns : s.entryRuns m e = true)
    (hv : EntryStored m e (s.caCount m {}) v w poison)
    (hrequest : (s.caCount m {}).execRequest m e {} = v.modResp e.port e.req.tag answer) :
    ∃ t : State, exec (.channelEntryExecute m {}) s = .next t.settle ∧ (t.chan m).queue = rest ∧
      (∃ both, (t.chan m).mem =
        ((s.chan m).mem.opened (regionOf e.h) (mget false (s.chan m).mem.rmap (regionOf e.h))).store e.h w poison both) ∧
      (∀ k, k ≠ m → t.chan k = s.chan k) ∧ (∀ n, n ≠ e.port → t.link n = s.link n) ∧
      (t.link e.port).resp = (s.link e.port).resp.map (fun r => if r.tag = e.req.tag then answer r else r) := by
  have hm' : m < 128 := lt_of_lt_of_le hm (enabled_le _)
  have hca : RowFrame m s (s.caCount m {}) := (RowFrame.refl s).caCount hm' {}
  have hframe : MemFrame m s v := hca.entry.memFrame.trans hv.frame
  have hdone := State.leaveQueue_done e (v := v) hm' (by rw [hframe.forced]; exact hs.forced) answer
  have hlink (n : Nat) : v.link n = s.link n := by rw [State.link, hframe.links]; rfl
  obtain ⟨both, hmem⟩ := hv.mem
  rw [hca.mem] at hmem
  refine ⟨_, by rw [exec_entry hm hs hqueue hruns, hrequest], ?_, ⟨both, ?_⟩, fun k hk => ?_, fun n hn => ?_, ?_⟩
  · rw [hdone.queue, hframe.queue, hqueue]; rfl
  · rw [hdone.mem, hmem]
  · rw [hdone.others k hk, hframe.others k hk]
  · rw [hdone.links n hn, hlink]
  · rw [hdone.resp, hlink]

/-- The requests of the statement, each with the block that it stores and its answer. -/
theorem State.execRequest_stores {m : Nat} {s : State} {e : QEntry} (hm : m < 128) (hs : Undisturbed m s) (hengine : e.req.engine = none)
    (hhalf : e.half = 0) {stored : Nat} {poison : Bool} {value : BitVec 32}
    (hcase : (e.req.opc = 0x12 ∧ stored = e.req.data.toNat ∧ poison = e.req.psn ∧ value = 0) ∨
      (mget false (s.chan m).mem.rmap (regionOf e.h) = true ∧ nbit (mget 0 (s.chan m).mem.valid (e.h / 64)) (e.h % 64) = true ∧
        nbit (mget 0 (s.chan m).mem.poison (e.h / 64)) (e.h % 64) = false ∧ isCodeword (s.arrayWord m e.h) = true ∧ poison = false ∧
        (e.req.opc = 0x14 ∨ e.req.opc = 0x15) ∧
        value = BitVec.ofNat 32 (nfield (s.arrayWord m e.h % 2 ^ 512) (32 * e.req.word + 31) (32 * e.req.word)) ∧
        stored = setWord e.req.word (e.req.newWord (nfield (s.arrayWord m e.h % 2 ^ 512) (32 * e.req.word + 31) (32 * e.req.word)))
          (s.arrayWord m e.h % 2 ^ 512))) :
    ∃ v, EntryStored m e s v (encodeBlock stored) poison ∧
      s.execRequest m e {} = v.modResp e.port e.req.tag (fun r => r.done 0 0 0 value []) := by
  rcases hcase with ⟨hopc, rfl, rfl, rfl⟩ | ⟨hwritten, hvalid, hpoison, hword, rfl, hopc, rfl, rfl⟩
  · have hwrite : s.execRequest m e {} = s.execWrite m e {} := by simp [State.execRequest, hopc]
    rw [hwrite]
    exact State.execWrite_stores hm hs hengine hhalf
  · have hatomic : s.execRequest m e {} = s.execAtomic m e {} := by
      rcases hopc with hopc | hopc <;> simp [State.execRequest, hopc]
    rw [hatomic]
    exact State.execAtomic_stores hm hs hengine hhalf hwritten hvalid hpoison hword

/-- Settles O38: the block of `State.execRequest_stores` is stored in the memory opened for it, and the entry leaves its queue. -/
theorem channelWritesWhatItIsGiven : Obligations.ChannelWritesWhatItIsGiven := by
  intro s m e rest hm hqueue hruns hengine _ hhalf hh hinject hfills herased hforced mem written bit w old stored poison value hcase
  have hm' : m < 128 := lt_of_lt_of_le hm (enabled_le _)
  have hs : Undisturbed m s := ⟨hinject, hfills, herased, hforced⟩
  have hca : RowFrame m s (s.caCount m {}) := (RowFrame.refl s).caCount hm' {}
  obtain ⟨v, hv, hrequest⟩ := State.execRequest_stores (e := e) (stored := stored) (poison := poison) (value := value) hm'
    (hca.undisturbed hs) hengine hhalf (by
      rw [hca.mem, hca.arrayWord]
      refine hcase.imp id fun ⟨hwritten, hvalid, hpoison, hword, hlane, hclear, hvalue, hstored⟩ => ?_
      rw [nfield_data _ _ hlane]
      refine ⟨hwritten, hvalid, hpoison, hword, hclear, hstored.imp And.left And.left, hvalue, ?_⟩
      rcases hstored with ⟨hopc, hstored⟩ | ⟨hopc, hstored⟩ <;> rw [hstored, Held.newWord, hopc] <;> rfl)
  obtain ⟨t, hexec, hrest, ⟨both, hmem⟩, hothers, hlinks, hresp⟩ := exec_entryStored _ hm hs hqueue hruns hv hrequest
  have hvalid (h : Nat) (hb : h < 2 ^ 23) : bit (t.chan m).mem.valid h =
      if h = e.h then true else (bit mem.valid h && (written || decide (regionOf h ≠ regionOf e.h))) := by
    rw [hmem]
    exact (ChanMem.planeBit_set e.h _ true h).trans (if_congr Iff.rfl rfl (mem.planeBit_opened written (regionOf e.h) hb))
  have hpoison (h : Nat) : bit (t.chan m).mem.poison h = if h = e.h then poison else bit mem.poison h := by
    rw [hmem, ← ChanMem.poison_opened mem written (regionOf e.h)]
    exact ChanMem.planeBit_set e.h _ poison h
  have hword (h : Nat) := State.arrayWord_store hmem h
  refine ⟨t, hexec, hrest, by rw [hword, if_pos rfl], ?_, by rw [hvalid _ hh, if_pos rfl], by rw [hpoison, if_pos rfl],
    fun h hne => by rw [hword, if_neg hne], fun h hb hne => ⟨by rw [hpoison, if_neg hne], by rw [hvalid h hb, if_neg hne]⟩, hothers,
    hlinks, hresp⟩
  rw [hmem]
  exact mem.rmap_opened written (regionOf e.h) rfl

end Sys2Proof.Machine
end

section
/-!
PROOFS. Slice0/AddressMap: blocks and pairs of a logical channel and a channel-local address correspond one to one, and locations turn
back (R122, R123, R124, R126, R129).
-/

namespace Sys2Proof.Machine

/-! ### Blocks and their places -/

/-- The logical channel of a block among `n` (R123). -/
def logicalOf (n b : Nat) : Nat := (b % n + foldOf (b / n)) % n

/-- The block at a channel-local address of a logical channel among `n` (R129). -/
def blockAt (n l h : Nat) : Nat := h * n + (l + n - foldOf h % n) % n

theorem logicalOf_lt {n : Nat} (hn : 0 < n) (b : Nat) : logicalOf n b < n := Nat.mod_lt _ hn

/-- Turning a residue back and forth: `l` is reached from `x` by the fold `f` exactly when `x` is `l` without it. -/
theorem rotate_eq_iff {n l x : Nat} (hl : l < n) (hx : x < n) (f : Nat) : (x + f) % n = l ↔ (l + n - f % n) % n = x := by
  have hf := Nat.mod_lt f (Nat.zero_lt_of_lt hl)
  rw [Nat.add_mod, Nat.mod_eq_of_lt hx]
  generalize f % n = r at hf
  rcases Nat.lt_or_ge (x + r) n with h | h <;> rcases Nat.lt_or_ge l r with h' | h'
  · rw [Nat.mod_eq_of_lt h, Nat.mod_eq_of_lt (by omega)]; omega
  · rw [Nat.mod_eq_of_lt h, show l + n - r = l - r + n by omega, Nat.add_mod_right, Nat.mod_eq_of_lt (by omega)]; omega
  · rw [Nat.mod_eq_sub_mod h, Nat.mod_eq_of_lt (by omega), Nat.mod_eq_of_lt (by omega)]; omega
  · rw [Nat.mod_eq_sub_mod h, Nat.mod_eq_of_lt (by omega), show l + n - r = l - r + n by omega, Nat.add_mod_right,
      Nat.mod_eq_of_lt (by omega)]
    omega

/-- The place of a block names the block, and no other has that place. -/
theorem place_eq_iff {n l : Nat} (hl : l < n) (b h : Nat) : (logicalOf n b = l ∧ b / n = h) ↔ b = blockAt n l h := by
  have hn : 0 < n := Nat.zero_lt_of_lt hl
  have hx := Nat.mod_lt (l + n - foldOf h % n) hn
  constructor
  · rintro ⟨hlog, rfl⟩
    rw [blockAt, (rotate_eq_iff hl (Nat.mod_lt b hn) _).mp hlog, Nat.mul_comm, Nat.div_add_mod]
  · rintro rfl
    have hdiv : blockAt n l h / n = h := by
      rw [blockAt, Nat.mul_comm, Nat.mul_add_div hn, Nat.div_eq_of_lt hx, Nat.add_zero]
    have hmod : blockAt n l h % n = (l + n - foldOf h % n) % n := by
      rw [blockAt, Nat.mul_comm, Nat.mul_add_mod, Nat.mod_mod]
    exact ⟨by rw [logicalOf, hdiv, hmod, (rotate_eq_iff hl hx _).mpr rfl], hdiv⟩

theorem blockAt_lt {n l h : Nat} (hn : 0 < n) (hh : h < 2 ^ 23) : blockAt n l h < n * 2 ^ 23 := by
  have hx := Nat.mod_lt (l + n - foldOf h % n) hn
  calc blockAt n l h < h * n + n := Nat.add_lt_add_left hx _
    _ = (h + 1) * n := (Nat.succ_mul h n).symm
    _ ≤ 2 ^ 23 * n := Nat.mul_le_mul_right n hh
    _ = n * 2 ^ 23 := Nat.mul_comm ..

theorem logicalOf_succ {n b : Nat} (h : b / n = (b + 1) / n) : logicalOf n (b + 1) = (logicalOf n b + 1) % n := by
  have hmod : (b + 1) % n = b % n + 1 := by
    have h1 := Nat.div_add_mod b n
    have h2 := Nat.div_add_mod (b + 1) n
    rw [← h] at h2
    omega
  rw [logicalOf, logicalOf, ← h, hmod, Nat.mod_add_mod, Nat.add_right_comm]

/-! ### The decode -/

section
variable {map : List Nat} {b l h : Nat}

theorem decodeAddr_valid (hb : b < map.length * 2 ^ 23) :
    decodeAddr map b = map[logicalOf map.length b]?.map (fun p => (p, b / map.length)) := by
  rw [decodeAddr, if_neg (Nat.not_le.mpr hb)]; rfl

theorem decodeAddr_beyond (hb : map.length * 2 ^ 23 ≤ b) : decodeAddr map b = none := if_pos hb

theorem decodeAddr_blockAt (hl : l < map.length) (hh : h < 2 ^ 23) :
    decodeAddr map (blockAt map.length l h) = map[l]?.map (fun p => (p, h)) := by
  obtain ⟨hlog, hdiv⟩ := (place_eq_iff hl _ _).mpr (rfl : blockAt map.length l h = _)
  rw [decodeAddr_valid (blockAt_lt (Nat.zero_lt_of_lt hl) hh), hlog, hdiv]

/-- In a map of different channels only one logical channel shows the physical channel of a decode. -/
theorem logicalOf_of_decodeAddr (hmap : map.Nodup) (hl : l < map.length) (hb : b < map.length * 2 ^ 23)
    (hp : (decodeAddr map b).map Prod.fst = map[l]?) : logicalOf map.length b = l := by
  have hlt := logicalOf_lt (Nat.zero_lt_of_lt hl) b
  rw [decodeAddr_valid hb, List.getElem?_eq_getElem hlt, List.getElem?_eq_getElem hl] at hp
  exact (hmap.getElem_inj_iff).mp (Option.some.inj hp)

/-- A valid address with a given decode is the block of that place. -/
theorem eq_blockAt_of_decodeAddr (hmap : map.Nodup) (hl : l < map.length) (hb : b < map.length * 2 ^ 23)
    (hd : decodeAddr map b = map[l]?.map (fun p => (p, h))) : b = blockAt map.length l h := by
  have hlog : logicalOf map.length b = l := by
    refine logicalOf_of_decodeAddr hmap hl hb ?_
    rw [hd, Option.map_map]
    exact Option.map_id'
  rw [decodeAddr_valid hb, hlog, List.getElem?_eq_getElem hl] at hd
  exact (place_eq_iff hl b h).mp ⟨hlog, congrArg Prod.snd (Option.some.inj hd)⟩

end

/-! ### Locations -/

theorem nfield_lt (w hi lo : Nat) : nfield w hi lo < 2 ^ (hi + 1 - lo) := Nat.mod_lt _ (Nat.two_pow_pos _)

/-- A channel-local address shows the row, bank and column that it is built from. -/
theorem location_localOf {k w c : Nat} (hk : k < 16) (hw : w < 32768) (hc : c < 16) :
    localOf k w c < 2 ^ 23 ∧ bankOf (localOf k w c) = k ∧ rowOf (localOf k w c) = w ∧ colOf (localOf k w c) = c := by
  have hx : k % 4 ^^^ nfield w 3 2 < 2 ^ 2 := Nat.xor_lt_two_pow (Nat.mod_lt k (by decide)) (nfield_lt w 3 2)
  have hy : k / 4 ^^^ nfield w 1 0 < 2 ^ 2 := Nat.xor_lt_two_pow (by omega) (nfield_lt w 1 0)
  have hhigh : (k % 4 ^^^ nfield w 3 2) ^^^ nfield w 3 2 = k % 4 := Nat.xor_xor_cancel_right ..
  have hlow : (k / 4 ^^^ nfield w 1 0) ^^^ nfield w 1 0 = k / 4 := Nat.xor_xor_cancel_right ..
  rw [localOf]
  generalize k % 4 ^^^ nfield w 3 2 = x at hx hhigh
  generalize k / 4 ^^^ nfield w 1 0 = y at hy hlow
  have hbank5 : nfield (w * 256 + x * 64 + y * 16 + c) 5 4 = y := by simp only [nfield]; omega
  have hbank7 : nfield (w * 256 + x * 64 + y * 16 + c) 7 6 = x := by simp only [nfield]; omega
  have hrow9 : nfield (w * 256 + x * 64 + y * 16 + c) 9 8 = nfield w 1 0 := by simp only [nfield]; omega
  have hrow11 : nfield (w * 256 + x * 64 + y * 16 + c) 11 10 = nfield w 3 2 := by simp only [nfield]; omega
  refine ⟨by omega, ?_, by simp only [rowOf, nfield]; omega, by simp only [colOf, nfield]; omega⟩
  rw [bankOf, hbank5, hbank7, hrow9, hrow11, hlow, hhigh]
  omega

theorem logicalIn_eq_idxOf? (map : List Nat) (m : Nat) : logicalIn map m = map.idxOf? m := by
  induction map with
  | nil => rfl
  | cons p r ih =>
    rw [logicalIn, List.idxOf?_cons, ih]
    simp only [beq_iff_eq]

theorem encodeAddr_of_mem {map : List Nat} {m : Nat} (hm : m ∈ map) (k w c : Nat) :
    ∃ l < map.length, map[l]? = some m ∧ encodeAddr map m k w c = some (blockAt map.length l (localOf k w c)) := by
  obtain ⟨l, hfound⟩ := Option.isSome_iff_exists.mp (List.isSome_idxOf?.mpr hm)
  obtain ⟨hl, hget, -⟩ := List.idxOf?_eq_some_iff.mp hfound
  refine ⟨l, hl, by rw [List.getElem?_eq_getElem hl, hget], ?_⟩
  rw [encodeAddr, logicalIn_eq_idxOf?, hfound]
  rfl

theorem encodeAddr_of_not_mem {map : List Nat} {m : Nat} (hm : m ∉ map) (k w c : Nat) : encodeAddr map m k w c = none := by
  rw [encodeAddr, logicalIn_eq_idxOf?, List.idxOf?_eq_none_iff.mpr hm]
  rfl

/-- Settles O1: `place_eq_iff` gives each place its one block, and in a map of different channels a decode names its place. -/
theorem addressMapIsOneToOne : Obligations.AddressMapIsOneToOne := by
  intro map hmap hne n
  have hn : 0 < n := List.length_pos_iff.mpr hne
  refine ⟨fun l hl h hh => ?_, fun b hb => ?_, fun b hb => decodeAddr_beyond hb, fun b hb hdiv => ?_, fun a ha l hl => ?_,
    fun m k w c hm hk hw hc => ?_, fun m k w c hm => encodeAddr_of_not_mem hm k w c⟩
  · exact ⟨blockAt n l h, ⟨blockAt_lt hn hh, decodeAddr_blockAt hl hh⟩, fun b ⟨hb, hd⟩ => eq_blockAt_of_decodeAddr hmap hl hb hd⟩
  · exact ⟨logicalOf n b, b / n, logicalOf_lt hn b, (Nat.div_lt_iff_lt_mul hn).mpr (by rwa [Nat.mul_comm]), decodeAddr_valid hb⟩
  · refine ⟨logicalOf n b, logicalOf_lt hn b, decodeAddr_valid (Nat.lt_of_succ_lt hb), ?_⟩
    rw [decodeAddr_valid hb, logicalOf_succ hdiv, hdiv]
  · have hlt : a < 2 ^ 23 := by rw [Nat.mul_comm n] at ha; exact Nat.le_of_mul_le_mul_right ha hn
    have hrun (b : Nat) : b / n = a ↔ a * n ≤ b ∧ b < (a + 1) * n := by rw [Nat.div_eq_iff hn, Nat.succ_mul]; omega
    have hfirst := decodeAddr_blockAt hl hlt
    refine ⟨blockAt n l a, ?_, fun b ⟨hlow, hhigh, hd⟩ => ?_⟩
    · obtain ⟨hlow, hhigh⟩ := (hrun _).mp ((place_eq_iff hl (blockAt n l a) a).mpr rfl).2
      refine ⟨hlow, hhigh, ?_⟩
      rw [hfirst, Option.map_map]
      exact Option.map_id'
    · exact (place_eq_iff hl b a).mp ⟨logicalOf_of_decodeAddr hmap hl (hhigh.trans_le ha) hd, (hrun b).mpr ⟨hlow, hhigh⟩⟩
  · obtain ⟨hlocal, hbank, hrow, hcol⟩ := location_localOf hk hw hc
    obtain ⟨l, hl, hget, hencode⟩ := encodeAddr_of_mem hm k w c
    refine ⟨_, localOf k w c, hencode, blockAt_lt hn hlocal, ?_, hbank, hrow, hcol⟩
    rw [decodeAddr_blockAt hl hlocal, hget]
    rfl

end Sys2Proof.Machine
end

section
/-!
PROOFS. Slice0/QuickTest: the phases of the quick test, its end and its limit (R130, R131, R298–R300; Tables 1 and 2 of the chapter of
self-test).
-/

namespace Sys2Proof.Machine

/-! ### What the retirement of a channel keeps -/

/-- What the quick test relies on while channels are retired: the phase and the variant, two of its own records, the failed engine,
and that a retired channel stays retired. -/
structure QuickFrame (s t : State) : Prop where
  boot : t.boot = s.boot
  variant : t.variant = s.variant
  rmapSram : t.qt.rmapSram = s.qt.rmapSram
  trainDone : t.qt.trainDone = s.qt.trainDone
  failed : t.qe.failed = s.qe.failed
  retired : ∀ m, s.retired m = true → t.retired m = true

theorem State.retired_modChan (s : State) (n m : Nat) (f : Chan → Chan)
    (hf : (s.chan n).st = .retired → (f (s.chan n)).st = .retired) (h : s.retired m = true) : (s.modChan n f).retired m = true := by
  simp only [State.retired, decide_eq_true_eq, State.chan_modChan] at h ⊢
  split
  · next hmn => subst hmn; exact hf h
  · exact h

namespace QuickFrame

variable {s t u : State}

theorem refl (s : State) : QuickFrame s s := ⟨rfl, rfl, rfl, rfl, rfl, fun _ h => h⟩

theorem trans (h : QuickFrame s t) (h' : QuickFrame t u) : QuickFrame s u :=
  ⟨h'.boot.trans h.boot, h'.variant.trans h.variant, h'.rmapSram.trans h.rmapSram, h'.trainDone.trans h.trainDone,
    h'.failed.trans h.failed, fun m hm => h'.retired m (h.retired m hm)⟩

theorem ite {c : Prop} [Decidable c] (ht : QuickFrame s t) (hu : QuickFrame s u) : QuickFrame s (if c then t else u) := by
  split
  · exact ht
  · exact hu

theorem foldl {α : Type} (h : QuickFrame s t) (xs : List α) {f : State → α → State}
    (hf : ∀ v x, QuickFrame s v → QuickFrame s (f v x)) : QuickFrame s (xs.foldl f t) :=
  List.foldlRecOn xs f h (fun v hv x _ => hf v x hv)

theorem each (h : QuickFrame s t) (ns : List Nat) {f : State → Nat → State} (hf : ∀ v n, QuickFrame s v → QuickFrame s (f v n)) :
    QuickFrame s (t.each ns f) := h.foldl ns hf

/-- Nothing else of the state matters. -/
theorem congr (h : QuickFrame s t) (hb : u.boot = t.boot) (hv : u.variant = t.variant) (hq : u.qt = t.qt) (he : u.qe = t.qe)
    (hc : u.chans = t.chans) : QuickFrame s u :=
  h.trans ⟨hb, hv, by rw [hq], by rw [hq], by rw [he], fun m hm => by rw [State.retired, State.chan, hc]; exact hm⟩

theorem modLink (h : QuickFrame s t) (n : Nat) (f : Link → Link) : QuickFrame s (t.modLink n f) := h.congr rfl rfl rfl rfl rfl
theorem modPort (h : QuickFrame s t) (n : Nat) (f : Port → Port) : QuickFrame s (t.modPort n f) := h.congr rfl rfl rfl rfl rfl
theorem modLayer (h : QuickFrame s t) (n : Nat) (f : Layer → Layer) : QuickFrame s (t.modLayer n f) := h.congr rfl rfl rfl rfl rfl
theorem rset (h : QuickFrame s t) (k v : Nat) : QuickFrame s (t.rset k v) := h.congr rfl rfl rfl rfl rfl
theorem withRepair (h : QuickFrame s t) (r : Repair) : QuickFrame s { t with repair := r } := h.congr rfl rfl rfl rfl rfl
theorem cmdEnd (h : QuickFrame s t) (k st : Nat) : QuickFrame s (t.cmdEnd k st) := h.congr rfl rfl rfl rfl rfl

theorem modChan (h : QuickFrame s t) (n : Nat) {f : Chan → Chan} (hf : (t.chan n).st = .retired → (f (t.chan n)).st = .retired) :
    QuickFrame s (t.modChan n f) := h.trans ⟨rfl, rfl, rfl, rfl, rfl, fun m => t.retired_modChan n m f hf⟩

theorem setChan (h : QuickFrame s t) (n : Nat) {c : Chan} (hc : (t.chan n).st = .retired → c.st = .retired) :
    QuickFrame s (t.setChan n c) := h.modChan n (f := fun _ => c) hc

theorem count (h : QuickFrame s t) (k n : Nat) : QuickFrame s (t.count k n) :=
  h.congr (t.count_boot k n) (t.count_variant k n) (t.count_qt k n) (t.count_qe k n) (t.count_chans k n)

theorem report (h : QuickFrame s t) (n i : Nat) : QuickFrame s (t.report n i) :=
  h.congr (t.report_boot n i) (t.report_variant n i) (t.report_qt n i) (t.report_qe n i) (t.report_chans n i)

/-! ### The engine and the ports -/

theorem giveCell (h : QuickFrame s t) (i l : Nat) : QuickFrame s (t.giveCell i l) :=
  h.trans ⟨rfl, rfl, rfl, rfl, rfl, fun _ hm => hm⟩

theorem finishDeq (h : QuickFrame s t) (n : Nat) (d : DeqJob) : QuickFrame s (t.finishDeq n d) :=
  have hdone := h.modLink n _
  .ite hdone (((hdone.count _ 1).count _ _).modLink n _)

theorem cellRead (h : QuickFrame s t) (n id j : Nat) (o : ReadOut) : QuickFrame s (t.cellRead n id j o) := by
  unfold State.cellRead
  split
  · exact h
  · have hgiven (c : Prop) [Decidable c] (i l : Nat) : QuickFrame s (if c then t.giveCell i l else t) := .ite (h.giveCell i l) h
    exact .ite ((hgiven _ _ _).finishDeq n _) ((hgiven _ _ _).modLink n _)

theorem engineDone (h : QuickFrame s t) (r : Held) (o : ReadOut) : QuickFrame s (t.engineDone r o) :=
  .ite (h.modLink _ _) (h.cellRead _ _ _ _)

theorem closeGroup (h : QuickFrame s t) (n grp : Nat) : QuickFrame s (t.closeGroup n grp) := .ite h (h.modLink n _)

theorem leftPort (h : QuickFrame s t) (p : Nat) (r : Held) : QuickFrame s (t.leftPort p r) := by
  unfold State.leftPort
  split
  · exact .ite (h.modLink _ _) h
  · exact (QuickFrame.ite h (h.modLink p _)).closeGroup p _

theorem refuseHeld (h : QuickFrame s t) (n status : Nat) (f : Held → Bool) : QuickFrame s (t.refuseHeld n status f) :=
  h.foldl _ (fun _ r hv => ((hv.modPort n _).modLink n _).leftPort n r)

theorem refuseQueued (h : QuickFrame s t) (m status : Nat) : QuickFrame s (t.refuseQueued m status) := by
  refine QuickFrame.foldl (h.setChan m ?_) _ (fun _ _ hv => hv.modLink _ _)
  exact id

theorem dropEngineWrites (h : QuickFrame s t) (m : Nat) : QuickFrame s (t.dropEngineWrites m) :=
  (QuickFrame.modChan (h.each _ (fun _ p hv => (hv.modPort p _).foldl _ (fun _ r hw => (hw.leftPort p r).engineDone r _))) m
    id).foldl _ (fun _ e hv => hv.engineDone e.req _)

/-! ### Evacuation and retirement -/

theorem evacStart (h : QuickFrame s t) (src dst : Nat) (answered : Bool) : QuickFrame s (t.evacStart src dst answered) :=
  QuickFrame.report (((((h.withRepair _).modLayer src _).modLayer dst _).each _ (fun _ m hv => hv.modChan m id))) 25 0

theorem startAssigned (h : QuickFrame s t) : QuickFrame s t.startAssigned := by
  unfold State.startAssigned
  extract_lets go
  have hgo (v : State) (src : Option Nat) (dst : Nat) (hv : QuickFrame s v) : QuickFrame s (go v src dst) := by
    unfold go
    split
    · exact .ite hv (hv.evacStart _ _ _)
    · exact hv
  exact hgo _ _ _ (hgo _ _ _ h)

theorem trimRepeaters (h : QuickFrame s t) : QuickFrame s t.trimRepeaters := h.each _ (fun _ k hv => hv.modLayer k _)

theorem evacEnd (h : QuickFrame s t) (st status : Nat) : QuickFrame s (t.evacEnd st status) :=
  .ite ((h.withRepair _).cmdEnd _ _) (h.withRepair _)

theorem noteNew (h : QuickFrame s t) (r : Nat) : QuickFrame s (t.noteNew r) := .ite h (h.withRepair _)

theorem evacCheck (h : QuickFrame s t) : QuickFrame s t.evacCheck :=
  .ite h (.ite (.ite (h.withRepair _) h) (.ite (((((h.modLayer _ _).trimRepeaters).evacEnd 6 0x0403).report 25 0).startAssigned)
    ((((((h.modLayer _ _).modLayer _ _).withRepair _).noteNew _).evacEnd 5 0).report 25 0).startAssigned))

theorem rateSettle (h : QuickFrame s t) : QuickFrame s t.rateSettle := by
  unfold State.rateSettle
  split
  · exact h
  · exact .ite ((h.rset _ _).count _ 1) h

end QuickFrame

/-- A channel that is retired is retired, and so is what was. -/
theorem State.retire_frame (s : State) (m cause : Nat) : QuickFrame s (s.retire m cause) ∧ (s.retire m cause).retired m = true := by
  unfold State.retire
  split
  · next h => exact ⟨.refl s, h⟩
  extract_lets refused dropped channel kept record recorded noted
  have hdropped : QuickFrame s dropped :=
    (((QuickFrame.refl s).each _ (fun _ n hv => hv.refuseHeld n 4 _)).refuseQueued m 4).dropEngineWrites m
  have hchannel : QuickFrame s channel := hdropped.modChan m (fun _ => rfl)
  have hretired : channel.retired m = true := by simp [State.retired, channel]
  have hnoted : QuickFrame channel noted :=
    have hrecorded : QuickFrame channel recorded := ((QuickFrame.refl channel).rset _ _).withRepair _
    .ite hrecorded (hrecorded.withRepair _)
  have hend := (hnoted.rateSettle.report 18 m).evacCheck
  exact ⟨hchannel.trans hend, hend.retired m hretired⟩

theorem QuickFrame.retire {s t : State} (h : QuickFrame s t) (m cause : Nat) : QuickFrame s (t.retire m cause) :=
  h.trans (t.retire_frame m cause).1

/-! ### Folds that reach what they ask for -/

/-- What a step brings about for its own element and every other step keeps holds for each element at the end. -/
theorem State.foldl_reaches {α : Type} (P : α → State → Prop) {f : State → α → State} (hset : ∀ t x, P x (f t x))
    (hkeep : ∀ t x y, P y t → P y (f t x)) (s : State) (xs : List α) {x : α} (hx : x ∈ xs) : P x (xs.foldl f s) := by
  induction xs generalizing s with
  | nil => cases hx
  | cons y ys ih =>
    rcases List.mem_cons.mp hx with rfl | hx
    · exact List.foldlRecOn ys f (hset s x) (fun t h y _ => hkeep t y x h)
    · exact ih _ hx

/-- The test retires a channel that there is, and records the loss. -/
def State.quickLose (s : State) (m : Nat) : State :=
  if m < enabled s.variant ∧ s.retired m = false then
    let t := s.retire m 4
    { t with qt := { t.qt with chanLost := vset t.qt.chanLost m true } }
  else s

theorem State.quickLose_frame (s : State) (m : Nat) : QuickFrame s (s.quickLose m) ∧
    (m < enabled s.variant → (s.quickLose m).retired m = true) := by
  obtain ⟨hframe, hretired⟩ := s.retire_frame m 4
  unfold State.quickLose
  split
  · exact ⟨hframe.trans ⟨rfl, rfl, rfl, rfl, rfl, fun _ h => h⟩, fun _ => hretired⟩
  · next hnot => exact ⟨.refl s, fun hm => by simpa [hm] using hnot⟩

theorem State.quickRetire_eq (s : State) (ms : List Nat) : s.quickRetire ms = ms.foldl State.quickLose s := rfl

theorem State.quickRetire_frame (s : State) (ms : List Nat) : QuickFrame s (s.quickRetire ms) :=
  (QuickFrame.refl s).foldl ms (fun v m hv => hv.trans (v.quickLose_frame m).1)

theorem State.quickRetire_retires (s : State) (ms : List Nat) {m : Nat} (hm : m ∈ ms) (hen : m < enabled s.variant) :
    (s.quickRetire ms).retired m = true := by
  have hall : m < enabled (s.quickRetire ms).variant → (s.quickRetire ms).retired m = true := by
    rw [State.quickRetire_eq]
    refine State.foldl_reaches (fun m t => m < enabled t.variant → t.retired m = true) (fun t x hx => ?_) (fun t x y h hy => ?_) s ms hm
    · exact (t.quickLose_frame x).2 (by rwa [(t.quickLose_frame x).1.variant] at hx)
    · exact (t.quickLose_frame x).1.retired y (h (by rwa [(t.quickLose_frame x).1.variant] at hy))
  exact hall (by rwa [(s.quickRetire_frame ms).variant])

/-! ### Records of the antifuses -/

theorem QuickFrame.applyRecord {s t : State} (h : QuickFrame s t) (v : Nat) : QuickFrame s (t.applyRecord v) := by
  have hsites (c : Chan) (hop w : Nat) (sites : List Nat) : (sites.foldl (fun c i => c.setSite hop i w) c).st = c.st := by
    induction sites generalizing c with
    | nil => rfl
    | cons i r ih => exact ih _
  unfold State.applyRecord
  refine .ite (h.withRepair _) (.ite (.ite h ?_) (.ite (.ite (h.withRepair _) (h.setChan _ fun hst => ?_)) (.ite
    (QuickFrame.rset (h.modChan _ ?_) _ 7) (.ite (h.withRepair _) (h.withRepair _)))))
  · extract_lets m
    split
    · exact h.modChan _ id
    · exact h.withRepair _
  · exact (hsites _ _ _ _).trans hst
  · exact fun _ => rfl

theorem QuickFrame.applyRecords {s t : State} (h : QuickFrame s t) : QuickFrame s t.applyRecords :=
  (h.withRepair _).foldl _ (fun _ v hv => hv.applyRecord v)

/-! ### Layers and links -/

theorem State.each_layers_train (s : State) (n k : Nat) (hk : k < n) :
    ((s.each (List.range n) (fun t k => t.modLayer k (fun l => { l with st := 1 }))).layer k).st = 1 := by
  refine State.foldl_reaches (fun k t => (t.layer k).st = 1) (fun t j => ?_) (fun t j i h => ?_) s _ (List.mem_range.mpr hk)
  · simp
  · rw [State.layer_modLayer]; split
    · rfl
    · exact h

/-- A link that the quick test holds. -/
def State.LinkHeld (s : State) (n : Nat) : Prop := (s.link n).st = .reset ∧ (s.link n).qtHeld = true

theorem State.holdLink_holds (s : State) (n : Nat) : (s.holdLink n).LinkHeld n := by simp [State.LinkHeld, State.holdLink]

theorem State.LinkHeld.holdLink {s : State} {n : Nat} (h : s.LinkHeld n) (k : Nat) : (s.holdLink k).LinkHeld n := by
  by_cases hn : n = k
  · subst hn; exact s.holdLink_holds n
  · simpa [State.LinkHeld, State.holdLink, hn] using h

theorem State.LinkHeld.report {s : State} {n : Nat} (h : s.LinkHeld n) (source i : Nat) : (s.report source i).LinkHeld n := by
  rw [State.LinkHeld, State.report_link]
  exact h

/-- A global failure and the limit end the test: every link is held, and the failure is recorded (R300). -/
theorem State.quickFail_ends (s : State) (us : Nat) (limit : Bool) : (s.quickFail us limit).boot = .qtFailed ∧
    (s.quickFail us limit).qt = { s.qt with
      result := 3, us := us, timeLimit := limit, globalSram := s.qt.globalSram || !limit } ∧
    ∀ n < enabled s.variant, (s.quickFail us limit).LinkHeld n := by
  unfold State.quickFail
  extract_lets record ended
  rw [State.report_boot, State.report_qt, State.reason_boot, State.reason_qt]
  refine ⟨?_, ?_, fun n hn => .report ?_ 27 0⟩
  · exact ended.each_keeps (fun t => t.boot = .qtFailed) _ _ rfl (fun _ _ h => h)
  · exact ended.each_keeps (fun t => t.qt = ended.qt) _ _ rfl (fun _ _ h => h)
  · exact State.foldl_reaches (fun n t => t.LinkHeld n) State.holdLink_holds (fun _ k _ h => h.holdLink k) ended _
      (List.mem_range.mpr hn)

/-- The test holds a link that there is, and records the loss. -/
def State.quickHold (s : State) (n : Nat) : State :=
  if n < enabled s.variant then
    let t := s.holdLink n
    { t with qt := { t.qt with linkLost := vset t.qt.linkLost n true } }
  else s

theorem QuickFrame.quickHold {s t : State} (h : QuickFrame s t) (n : Nat) : QuickFrame s (t.quickHold n) :=
  .ite ((h.modLink n _).trans ⟨rfl, rfl, rfl, rfl, rfl, fun _ hm => hm⟩) h

theorem State.foldl_quickHold_holds (s : State) (ns : List Nat) {n : Nat} (hn : n ∈ ns) (hen : n < enabled s.variant) :
    (ns.foldl State.quickHold s).LinkHeld n := by
  have hvariant (t : State) (k : Nat) : (t.quickHold k).variant = t.variant := ((QuickFrame.refl t).quickHold k).variant
  have hframe : QuickFrame s (ns.foldl State.quickHold s) := (QuickFrame.refl s).foldl ns (fun _ k hv => hv.quickHold k)
  refine State.foldl_reaches (fun n t => n < enabled t.variant → t.LinkHeld n) (fun t k hk => ?_) (fun t k j h hj => ?_) s ns hn
    (by rwa [hframe.variant])
  · rw [hvariant] at hk
    rw [State.quickHold, if_pos hk]
    exact t.holdLink_holds k
  · rw [hvariant] at hj
    unfold State.quickHold
    split
    · exact (h hj).holdLink k
    · exact h hj

/-! ### The phases -/

section
variable {s : State} {f : QtFound}

theorem State.quickPhase_remap (h : s.boot = .qtRemap) : (s.quickPhase f).boot = .qtBase ∧
    (∀ k < layerCount s.variant, ((s.quickPhase f).layer k).st = 1) ∧
    ∀ m ∈ f.chans, m < enabled s.variant → (s.quickPhase f).retired m = true := by
  let noted : State := { s with qt := s.qt.addGroups (f.groups ++ if f.chans = [] then [] else [5]) }
  let recorded : State := (noted.quickRetire f.chans).applyRecords
  have hframe : QuickFrame (noted.quickRetire f.chans) recorded := (QuickFrame.refl _).applyRecords
  have hvariant : recorded.variant = s.variant := hframe.variant.trans (noted.quickRetire_frame f.chans).variant
  let trained : State := recorded.each (List.range (layerCount recorded.variant)) (fun t k => t.modLayer k (fun l => { l with st := 1 }))
  have hphase : s.quickPhase f = { trained with boot := .qtBase } := by cases s; cases h; rfl
  have htrained : QuickFrame recorded trained := (QuickFrame.refl recorded).each _ (fun _ k hv => hv.modLayer k _)
  rw [hphase]
  refine ⟨rfl, fun k hk => recorded.each_layers_train _ k (by rwa [hvariant]), fun m hm hen => ?_⟩
  exact htrained.retired m (hframe.retired m (noted.quickRetire_retires f.chans hm hen))

/-- The state that the base phase has found, before it ends. -/
def State.baseFound (s : State) (f : QtFound) : State :=
  let t := f.links.foldl State.quickHold (({ s with qt := s.qt.addGroups f.groups } : State).quickRetire f.chans)
  { t with qt := { t.qt with rmapSram := t.qt.rmapSram || f.rmap, baseDone := true }, qe := { t.qe with failed := t.qe.failed || f.qe } }

theorem State.quickPhase_base (h : s.boot = .qtBase) (hdone : s.qt.baseDone = false) : s.quickPhase f =
    if f.global then (s.baseFound f).quickFail f.us false
    else { s.baseFound f with boot := if (s.baseFound f).qt.trainDone then .qtLoopback else .qtBase } := by
  have hphase : s.quickPhase f = if s.qt.baseDone then s else if f.global then (s.baseFound f).quickFail f.us false
      else { s.baseFound f with boot := if (s.baseFound f).qt.trainDone then .qtLoopback else .qtBase } := by
    cases s; cases h; rfl
  rw [hphase, if_neg (by simp [hdone])]

theorem State.baseFound_records (s : State) (f : QtFound) : (s.baseFound f).variant = s.variant ∧
    (s.baseFound f).qt.trainDone = s.qt.trainDone ∧ (s.baseFound f).qt.baseDone = true ∧
    (s.baseFound f).qt.rmapSram = (s.qt.rmapSram || f.rmap) ∧ (s.baseFound f).qe.failed = (s.qe.failed || f.qe) ∧
    (∀ m ∈ f.chans, m < enabled s.variant → (s.baseFound f).retired m = true) ∧
    ∀ n ∈ f.links, n < enabled s.variant → (s.baseFound f).LinkHeld n := by
  let noted : State := { s with qt := s.qt.addGroups f.groups }
  have hretire : QuickFrame noted (noted.quickRetire f.chans) := noted.quickRetire_frame f.chans
  have hhold : QuickFrame (noted.quickRetire f.chans) (f.links.foldl State.quickHold (noted.quickRetire f.chans)) :=
    (QuickFrame.refl _).foldl f.links (fun _ n hv => hv.quickHold n)
  have hframe := hretire.trans hhold
  refine ⟨hframe.variant, hframe.trainDone, rfl, congrArg (· || f.rmap) hframe.rmapSram, congrArg (· || f.qe) hframe.failed,
    fun m hm hen => hhold.retired m (noted.quickRetire_retires f.chans hm hen), fun n hn hen => ?_⟩
  exact State.foldl_quickHold_holds _ f.links hn (by rwa [hretire.variant])

theorem State.quickPhase_loopback (h : s.boot = .qtLoopback) (hcoils : f.coils = []) :
    s.quickPhase f = { s with boot := .qtSanity, qt := { s.qt with loopback := false } } := by
  cases s; cases f; cases h; cases hcoils; rfl

theorem State.quickPhase_outside (h : s.boot ∉ [.qtRemap, .qtBase, .qtLoopback] ∨ (s.boot = .qtBase ∧ s.qt.baseDone = true)) :
    s.quickPhase f = s := by
  rcases h with h | ⟨h, hdone⟩
  · unfold State.quickPhase
    extract_lets noted
    split
    · next hremap => simp [hremap] at h
    · next hbase => simp [hbase] at h
    · next hloop => simp [hloop] at h
    · rfl
  · cases s; cases h; exact if_pos hdone

/-! ### The end -/

theorem State.buildMap_builds (s : State) : s.buildMap.boot = .up ∧ s.buildMap.mapBuilt = true ∧ s.buildMap.qt = s.qt ∧
    s.buildMap.map = s.nextMap := by
  let counted : State := (if s.repair.mapEver ∧ s.nextMap ≠ s.map then s.count (ekey 0x1C00 0xC3) 1 else s).reason 2
  let built : State := { counted with
    map := s.nextMap, mapBuilt := true, boot := .up, repair := { counted.repair with mapEver := true, rebuilt := [] } }
  have hqt : built.qt = s.qt := by
    simp only [built, counted, State.reason_qt]
    split
    · exact s.count_qt _ 1
    · rfl
  have hbuild : s.buildMap = if nbit built.gran.policy 5 then built.each s.nextMap (fun t m =>
    t.modChan m (fun c => { c with rep := { c.rep with fullTest := true } })) else built := rfl
  rw [hbuild]
  split
  · exact built.each_keeps (fun t => t.boot = .up ∧ t.mapBuilt = true ∧ t.qt = s.qt ∧ t.map = s.nextMap) _ _
      ⟨rfl, rfl, hqt, rfl⟩ (fun _ _ h => h)
  · exact ⟨rfl, rfl, hqt, rfl⟩

/-- The records of a test whose sanity phase has found nothing. -/
def QuickTest.ended (q : QuickTest) (us : Nat) (qe : Bool) : QuickTest :=
  let r := { q with us := us, layerLoss := false }
  { r with result := if r.losses qe then 2 else 1 }

/-- A sanity phase that finds nothing only records its time and the result. -/
theorem State.quickEnd_clean (us : Nat) (h : s.boot = .qtSanity) (hrows : f.rows = []) (hmeta : f.metaChans = []) :
    s.quickEnd f us = State.buildMap { s with qt := s.qt.ended us s.qe.failed } := by
  have hbad : (chanNums s).filter (fun m => !s.retired m && (f.metaChans.contains m || decide (8 <
      ((f.rows.filter (fun r => decide (r.1 < enabled s.variant))).dedup.filter (fun r => decide (r.1 = m))).length))) = [] := by
    simp [hrows, hmeta]
  rw [State.quickEnd, if_neg (not_not_intro h)]
  simp only [hbad]
  simp only [hrows, List.filter_nil, List.dedup_nil, List.foldl_nil, State.quickRetire]
  rfl

theorem QuickTest.losses_iff (q : QuickTest) (qe : Bool) : q.losses qe = true ↔
    q.chanLost ≠ 0 ∨ q.linkLost ≠ 0 ∨ qe = true ∨ q.loopback = true ∨ q.rows ≠ 0 ∨ q.layerLoss = true := by
  simp only [QuickTest.losses, Bool.or_eq_true, decide_eq_true_eq, or_assoc]

theorem State.quickRuns_iff : s.quickRuns = true ↔ s.boot ∈ [.qtRemap, .qtBase, .qtLoopback, .qtSanity] := by
  simp [State.quickRuns]

end

/-- Settles O46, row by row: the phases by `State.quickPhase_remap`, `State.quickPhase_base` and `State.quickPhase_loopback`, the end by
`State.quickEnd_clean`, failures and the limit by `State.quickFail_ends`. -/
theorem quickTestRunsItsPhases : Obligations.QuickTestRunsItsPhases := by
  intro s f hf phase failed
  have hphase : phase = .next (s.quickPhase f).settle := finish_wf hf _
  have hend (us : Nat) : exec (.quickTestEnd f us) s = .next (s.quickEnd f us).settle := finish_wf hf _
  have hlimit : exec .quickTestTimeLimit s = .next s.quickLimit.settle := finish_wf rfl _
  refine ⟨fun h => ⟨_, hphase, State.quickPhase_remap h⟩, fun h hdone => ⟨fun hlocal => ?_, fun hglobal => ?_⟩, fun h hcoils => ?_,
    fun h => ?_, fun us h hrows hmeta => ?_, fun us h => ?_, fun h => ?_, fun h => ?_⟩
  · obtain ⟨-, htrain, hfound⟩ := s.baseFound_records f
    refine ⟨_, hphase, ?_⟩
    rw [State.quickPhase_base h hdone, hlocal, ← htrain]
    exact ⟨rfl, hfound⟩
  · obtain ⟨hvariant, -⟩ := s.baseFound_records f
    obtain ⟨hboot, hqt, hlinks⟩ := (s.baseFound f).quickFail_ends f.us false
    refine ⟨_, hphase, ?_⟩
    rw [State.quickPhase_base h hdone, hglobal, if_pos rfl, hqt]
    exact ⟨⟨hboot, by rw [hqt], fun n hn => hlinks n (by rwa [hvariant])⟩, rfl, Bool.or_true _⟩
  · rw [hphase, State.quickPhase_loopback h hcoils]
  · rw [hphase, State.quickPhase_outside h]
  · refine ⟨_, hend us, ?_⟩
    rw [State.quickEnd_clean us h hrows hmeta]
    obtain ⟨hboot, hbuilt, hqt, hmap⟩ := State.buildMap_builds { s with qt := s.qt.ended us s.qe.failed }
    rw [hqt]
    exact ⟨hboot, hbuilt, rfl, hmap, if_congr (by simp [QuickTest.losses_iff]) rfl rfl⟩
  · rw [hend us, State.quickEnd, if_pos h]
  · obtain ⟨hboot, hqt, hlinks⟩ := s.quickFail_ends 60000 true
    refine ⟨_, hlimit, ?_⟩
    rw [State.quickLimit, if_pos (State.quickRuns_iff.mpr h), hqt]
    exact ⟨⟨hboot, by rw [hqt], hlinks⟩, rfl, rfl, Bool.or_false _⟩
  · rw [hlimit, State.quickLimit, if_neg (fun hruns => h (State.quickRuns_iff.mp hruns))]

end Sys2Proof.Machine
end

section
/-!
PROOFS. Slice0/ChipResets: what a chip reset keeps, what holds it, and how the power-up sequence starts (R134, R333, R342, R359, R371,
R372, R375, R382, R426).
-/

namespace Sys2Proof.Machine

/-! ### What a chip reset leaves -/

/-- What holds after each chip reset: it is recorded and counted, what VAUX and the pins keep stays, and links, ports, queues,
dictionary and channels are as after a reset (R134, R371, R375). -/
def State.RestartOf (s t : State) (cause : Nat) : Prop :=
  t.clk.cause = cause ∧ t.clk.count = s.clk.count + 1 ∧
    t.gran.c0 = s.gran.c0 ∧ t.gran.c1 = s.gran.c1 ∧ t.tap.cells = s.tap.cells ∧ t.repair.retired = s.repair.retired ∧
    t.links = [] ∧ t.ports = [] ∧ t.qe = {} ∧ t.dict = {} ∧ t.mapBuilt = false ∧
    ∀ m, m ∉ s.repair.retired → t.chan m = {}

theorem State.tapJudge_eq (s : State) : s.tapJudge = { s with tap := s.tapJudge.tap } := by
  rw [State.tapJudge]; split <;> rfl

theorem State.tapJudge_cells (s : State) : s.tapJudge.tap.cells = s.tap.cells := by
  rw [State.tapJudge]; split <;> rfl

/-- A map that lists the numbers of `ns` alone shows its default at every other number. -/
theorem mget_map_not_mem {α : Type} (d : α) (g : Nat → α) {ns : List Nat} {q : Nat} (h : q ∉ ns) :
    mget d (ns.map (fun n => (n, g n))) q = d := by
  rw [mget, mfind_none_of_not_listed, Option.getD_none]
  rintro e he rfl
  obtain ⟨n, hn, rfl⟩ := List.mem_map.mp he
  exact h hn

section
variable (s : State) (cause source : Nat)

theorem State.chipResetNow_restart : s.RestartOf (s.chipResetNow cause source) cause := by
  rw [State.chipResetNow, State.tapJudge_eq]
  exact ⟨rfl, rfl, rfl, rfl, State.tapJudge_cells _, rfl, rfl, rfl, rfl, rfl, rfl,
    fun m hm => mget_map_not_mem ({} : Chan) s.keptChan hm⟩

/-- What decides whether the power-up sequence starts is kept, and the stack is held. -/
theorem State.chipResetNow_holds :
    (s.chipResetNow cause source).boot = .held ∧ (s.chipResetNow cause source).clk.resetN = s.clk.resetN ∧
      (s.chipResetNow cause source).clk.refclkOk = s.clk.refclkOk ∧
      (s.chipResetNow cause source).power.railLost = s.power.railLost ∧
      (s.chipResetNow cause source).power.pwrwarn = s.power.pwrwarn ∧
      (s.chipResetNow cause source).therm.hotHold = false ∧ (s.chipResetNow cause source).regs = keptRegs s.regs := by
  rw [State.chipResetNow, State.tapJudge_eq]
  exact ⟨rfl, rfl, rfl, rfl, rfl, rfl, rfl⟩

theorem alwaysOn_iff (k : Nat) : alwaysOn k = true ↔
    (0x1000 ≤ k / 256 ∧ k / 256 ≤ 0x107F ∧ (k % 256 = 0xD5 ∨ k % 256 = 0xE3)) ∨ k = 0x1C00C3 ∨ k = 0x040009 ∨ k = 0x04000A ∨
      k = 0x030016 := decide_eq_true_iff

/-- A register of the always-on domain is kept; that one of a staged exclusion is not such a register. -/
theorem mfind_keptRegs (m : SMap Nat) {k : Nat} (hk : alwaysOn k = true) : mfind (keptRegs m) k = mfind m k := by
  have hstaged {j : Nat} (hj : 0x1000 ≤ j / 256 ∧ j / 256 ≤ 0x107F ∧ j % 256 = 0xE3) : j - 1 ≠ k := by
    rintro rfl
    rw [alwaysOn_iff] at hk
    omega
  induction m with
  | nil => rfl
  | cons e r ih =>
    have hstep : keptRegs (e :: r) = if !alwaysOn e.1 then keptRegs r
      else if 0x1000 ≤ e.1 / 256 ∧ e.1 / 256 ≤ 0x107F ∧ e.1 % 256 = 0xE3 then (e.1 - 1, e.2) :: e :: keptRegs r
      else e :: keptRegs r := rfl
    rw [hstep]
    split
    next hdropped =>
      have hne : e.1 ≠ k := by rintro rfl; simp [hk] at hdropped
      rw [ih, mfind, if_neg hne]
    next =>
      split
      next hexclude => simp only [mfind, if_neg (hstaged hexclude), ih]
      next => simp only [mfind, ih]

/-! ### The start of the power-up sequence -/

theorem State.tryBoot_held (h : s.clk.resetN = false ∨ s.power.railLost ≠ none) : s.tryBoot = s := by
  rw [State.tryBoot, if_neg]
  rintro ⟨-, hreset, hrail, -⟩
  exact h.elim (by simp [hreset]) (· hrail)

/-- Nothing holds the reset any more: RESET_N is high, no rail loss stands, and REFCLK is there (R342, R365, R372). -/
structure State.Leaves (s : State) : Prop where
  held : s.boot = .held
  resetN : s.clk.resetN = true
  rails : s.power.railLost = none
  refclk : s.clk.refclkOk = true

variable {s}

theorem State.Leaves.tryBoot_cool (h : s.Leaves) (hcool : s.therm.hotHold = false ∨ s.therm.tj < celsius 83) :
    s.tryBoot = s.startBoot := by
  rw [State.tryBoot, if_pos ⟨h.held, h.resetN, h.rails, h.refclk⟩, if_neg]
  rintro ⟨hhold, hhot⟩
  exact hcool.elim (by simp [hhold]) (by omega)

theorem State.Leaves.tryBoot_hot (h : s.Leaves) (hhold : s.therm.hotHold = true) (hhot : celsius 83 ≤ s.therm.tj) :
    s.tryBoot = { s with therm := { s.therm with thermN := true } } := by
  rw [State.tryBoot, if_pos ⟨h.held, h.resetN, h.rails, h.refclk⟩, if_pos ⟨hhold, hhot⟩]

/-- What the collector reports as it restarts, the power warning apart (R382, R342). -/
def State.restartReports (s : State) : State :=
  if s.clk.cause = 2 ∧ s.clk.source < 128 then
    let t := { s with faults := { s.faults with sticky := vset s.faults.sticky s.clk.source true } }
    t.onset s.clk.source (t.reaction s.clk.source) false
  else if s.clk.cause = 3 then s.report 56 else s

theorem State.restartReports_keeps (s : State) : s.restartReports.boot = s.boot ∧ s.restartReports.clk = s.clk ∧
    s.restartReports.power = s.power := by
  rw [State.restartReports]
  split
  · simp
  · split <;> simp

theorem State.collectorRestart_eq (h : s.power.pwrwarn = false) : s.collectorRestart = s.restartReports := by
  have heq : s.collectorRestart = if s.restartReports.power.pwrwarn then s.restartReports.warnNow else s.restartReports := rfl
  obtain ⟨-, -, hpower⟩ := s.restartReports_keeps
  rw [heq, hpower, h]
  rfl

theorem State.collectorRestart_silent (hcause : s.clk.cause ≠ 2 ∧ s.clk.cause ≠ 3) (h : s.power.pwrwarn = false) :
    s.collectorRestart = s := by
  rw [State.collectorRestart_eq h, State.restartReports, if_neg (fun hc => hcause.1 hc.1), if_neg hcause.2]

theorem State.startBoot_keeps (h : s.power.pwrwarn = false) :
    s.startBoot.boot = .sensing ∧ s.startBoot.clk = { s.clk with locks := 31 } ∧ s.startBoot.power = s.power := by
  rw [State.startBoot, State.collectorRestart_eq]
  · exact State.restartReports_keeps _
  · exact h

/-- A chip reset that nothing holds restarts the stack, and sensing starts. The cause is none whose source is reported again. -/
theorem State.chipReset_leaves (hn : s.clk.resetN = true) (hclk : s.clk.refclkOk = true) (hrail : s.power.railLost = none)
    (hwarn : s.power.pwrwarn = false) {cause : Nat} (hcause : cause ≠ 2 ∧ cause ≠ 3) (source : Nat) :
    s.RestartOf (s.chipReset cause source) cause ∧ (s.chipReset cause source).boot = .sensing := by
  have hrestart := s.chipResetNow_restart cause source
  obtain ⟨hheld, hreset, href, hlost, hwarned, hhold, -⟩ := s.chipResetNow_holds cause source
  have hleaves : (s.chipResetNow cause source).Leaves :=
    ⟨hheld, hreset.trans hn, hlost.trans hrail, href.trans hclk⟩
  rw [State.chipReset, hleaves.tryBoot_cool (.inl hhold), State.startBoot, State.collectorRestart_silent]
  · exact ⟨hrestart, rfl⟩
  · rw [← hrestart.1] at hcause; exact hcause
  · exact hwarned.trans hwarn

/-- A chip reset that RESET_N or a lost rail holds restarts the stack and stays in reset. -/
theorem State.chipReset_held (h : s.clk.resetN = false ∨ s.power.railLost ≠ none) (cause source : Nat) :
    s.chipReset cause source = s.chipResetNow cause source := by
  obtain ⟨-, hreset, -, hlost, -⟩ := s.chipResetNow_holds cause source
  exact State.tryBoot_held _ (by rwa [hreset, hlost])

/-! ### The rows -/

/-- RESET_N low outside a reset: the chip reset holds. -/
theorem State.resetAssert_restarts (h : s.boot ≠ .held) : s.RestartOf s.resetAssert 1 ∧ s.resetAssert.boot = .held ∧
    s.resetAssert.clk.resetN = false := by
  let low : State := { s with clk := { s.clk with resetN := false } }
  have hrestart : s.RestartOf (low.chipResetNow 1 0xFF) 1 := low.chipResetNow_restart 1 0xFF
  obtain ⟨hheld, hreset, -⟩ := low.chipResetNow_holds 1 0xFF
  have hassert : s.resetAssert = if decide (s.power.st = 4) = true then (low.chipResetNow 1 0xFF).rset (ekey 0x0300 0x15) 5
      else low.chipResetNow 1 0xFF := by
    rw [State.resetAssert, if_neg h, ← State.chipReset_held (.inl rfl)]
  rw [hassert]
  split <;> exact ⟨hrestart, hheld, hreset⟩

/-- A rail lost outside a reset and P4: the rail is recorded, and the chip reset holds. -/
theorem State.railLoss_restarts (r : Rail) (h : s.boot ≠ .held) (hst : s.power.st ≠ 4) : s.RestartOf (s.railLoss r) 3 ∧
    (s.railLoss r).boot = .held ∧ (s.railLoss r).power.railLost = some r ∧ (s.railLoss r).rget (ekey 0x0300 0x16) = railCode r := by
  let lost : State := { s.rset (ekey 0x0300 0x16) (railCode r) with
    power := { s.power.setRail r false with railLost := some r } }
  have hrestart : s.RestartOf (lost.chipResetNow 3 0xFF) 3 := lost.chipResetNow_restart 3 0xFF
  obtain ⟨hheld, -, -, hlost, -, -, hregs⟩ := lost.chipResetNow_holds 3 0xFF
  have hloss : s.railLoss r = lost.chipResetNow 3 0xFF := by
    rw [← State.chipReset_held (.inr (by simp [lost])), State.railLoss, if_neg hst, if_neg h]
    rfl
  have hkept : lost.rget (ekey 0x0300 0x16) = railCode r := (s.rget_rset _ _ _).trans (if_pos rfl)
  rw [hloss]
  refine ⟨hrestart, hheld, hlost, ?_⟩
  rw [State.rget, hregs, mget, mfind_keptRegs _ (by decide)]
  exact hkept

/-- RESET_N goes high in a reset: MADDR is sampled, and the temperature decides whether sensing starts. -/
theorem State.resetRelease_leaves (a : Nat) (h : s.boot = .held) (hn : s.clk.resetN = false) (hclk : s.clk.refclkOk = true)
    (hwarn : s.power.pwrwarn = false) : (s.resetRelease a).clk.maddr = a ∧ (s.resetRelease a).clk.resetN = true ∧
      (s.therm.tj < celsius 83 → (s.resetRelease a).boot = .sensing ∧ (s.resetRelease a).clk.locks = 31) ∧
      (celsius 83 ≤ s.therm.tj → (s.resetRelease a).boot = .held ∧ (s.resetRelease a).therm.thermN = true) := by
  let high : State := { s with
    clk := { s.clk with resetN := true, maddr := a }
    therm := { s.therm with hotHold := decide (celsius 83 ≤ s.therm.tj) }
    power := { s.power with coreOk := true, phyOk := true, memOk := true, vauxOk := true, railLost := none } }
  have hrelease : s.resetRelease a = high.tryBoot := by
    rw [State.resetRelease, if_neg (by simp [h, hn])]
  have hleaves : high.Leaves := ⟨h, rfl, rfl, hclk⟩
  rw [hrelease]
  rcases lt_or_ge s.therm.tj (celsius 83) with hcool | hhot
  · obtain ⟨hboot, hclocks, -⟩ := State.startBoot_keeps (s := high) hwarn
    rw [hleaves.tryBoot_cool (.inr hcool), hboot, hclocks]
    exact ⟨rfl, rfl, fun _ => ⟨rfl, rfl⟩, fun hhot => absurd hcool (by omega)⟩
  · rw [hleaves.tryBoot_hot (decide_eq_true hhot) hhot]
    exact ⟨rfl, rfl, fun hcool => absurd hhot (by omega), fun _ => ⟨h, rfl⟩⟩

/-- The rails are back: sensing starts where nothing else holds the reset. -/
theorem State.railRestart_leaves (hlost : s.power.railLost ≠ none) (h : s.boot = .held) (hn : s.clk.resetN = true)
    (hclk : s.clk.refclkOk = true) (hcool : s.therm.tj < celsius 83) (hwarn : s.power.pwrwarn = false) :
    s.railRestart.boot = .sensing ∧ s.railRestart.power.coreOk = true ∧ s.railRestart.power.phyOk = true ∧
      s.railRestart.power.memOk = true ∧ s.railRestart.power.railLost = none := by
  let back : State := { s with power := { s.power with coreOk := true, phyOk := true, memOk := true, railLost := none } }
  have hrestart : s.railRestart = back.tryBoot := if_neg hlost
  have hleaves : back.Leaves := ⟨h, hn, rfl, hclk⟩
  obtain ⟨hboot, -, hpower⟩ := State.startBoot_keeps (s := back) hwarn
  rw [hrestart, hleaves.tryBoot_cool (.inr hcool), hboot, hpower]
  exact ⟨rfl, rfl, rfl, rfl, rfl⟩

end

/-! ### The command -/

/-- The entry that resets the chip (R375). -/
def kChipReset : Nat := ekey 0x0500 0x12

theorem State.runCmd_chipReset (s : State) (m : Master) (arg : List Byte) (env : AccEnv) :
    s.runCmd m kChipReset arg env = if (s.chipResetOp (bytesNat arg)).1 = 0 then (.ok, (s.chipResetOp (bytesNat arg)).2)
      else (.refused (s.chipResetOp (bytesNat arg)).1, (s.chipResetOp (bytesNat arg)).2) := rfl

/-- A chip reset is the write of its entry. -/
theorem exec_chipReset_eq (s : State) (m : Master) (arg : List Byte) (h : s.obeys m kChipReset arg = true) :
    exec (.chipReset m arg) s = .next (s.writeBy m kChipReset arg {}).settle := by
  obtain ⟨hm, -, hlen, -⟩ := State.obeys_parts h
  exact if_pos (by simp only [Instr.wf, hm, isVal, Bool.true_and, decide_eq_true_eq]; omega)

/-- With its key the command restarts the stack, and its own state word with it. -/
theorem exec_chipReset_told (s : State) (m : Master) (arg : List Byte) (h : s.obeys m kChipReset arg = true)
    (hkey : bytesNat arg = 0xA5C3) : exec (.chipReset m arg) s = .next (State.settle
      (((s.asks m kChipReset arg).chipReset 4 0xFF).tells s.dict.mpDown m kChipReset 0)) := by
  have hop : (s.asks m kChipReset arg).chipResetOp (bytesNat arg) = (0, (s.asks m kChipReset arg).chipReset 4 0xFF) := if_pos hkey
  rw [exec_chipReset_eq s m arg h, State.obeys_told h (by rw [State.runCmd_chipReset, hop, if_pos rfl]; rfl)]

theorem exec_chipReset_refused (s : State) (m : Master) (arg : List Byte) (h : s.obeys m kChipReset arg = true)
    (hkey : bytesNat arg ≠ 0xA5C3) : exec (.chipReset m arg) s = .next (State.settle
      (((s.asks m kChipReset arg).setCmd kChipReset { s.cmd kChipReset with refused := true }).tells s.dict.mpDown m
        kChipReset 0x0105)) := by
  have hop : (s.asks m kChipReset arg).chipResetOp (bytesNat arg) = (0x0105, s.asks m kChipReset arg) := if_neg hkey
  rw [exec_chipReset_eq s m arg h,
    State.obeys_told h (by rw [State.runCmd_chipReset, hop, if_neg (by simp), State.closeCmd, State.cmd_asks])]

/-- What the command takes of its master is nothing that a restart keeps. -/
theorem State.RestartOf.of_asks {s t : State} {m : Master} {k cause : Nat} {v : List Byte}
    (h : (s.asks m k v).RestartOf t cause) : s.RestartOf t cause := by
  simpa only [State.RestartOf, State.asks_clk, State.asks_gran, State.asks_tap, State.asks_repair] using h

/-- Settles O52, row by row: the chip reset behind each is `State.chipResetNow_restart`, and `State.tryBoot` decides whether sensing
starts. -/
theorem resetsRestartTheStack : Obligations.ResetsRestartTheStack := by
  intro s cleared
  refine ⟨finish_wf rfl _, fun h => ?_, fun h _ => ⟨_, finish_wf rfl _, State.resetAssert_restarts h⟩,
    fun a ha h hn hclk hwarn => ⟨_, finish_wf (decide_eq_true ha) _, State.resetRelease_leaves a h hn hclk hwarn⟩,
    fun a ha h => ?_, fun r h hst => ⟨_, finish_wf rfl _, State.railLoss_restarts r h hst⟩, fun r hst => ?_, fun hnone => ?_,
    fun hlost h hn hclk hcool hwarn _ => ⟨_, finish_wf rfl _, State.railRestart_leaves hlost h hn hclk hcool hwarn⟩,
    fun m arg hobeys => ⟨exec_chipReset_refused s m arg hobeys, fun hkey hn hclk hrail _ hwarn => ?_⟩⟩
  · rw [show exec .resetNAssert s = _ from finish_wf rfl _, State.resetAssert, if_pos h]
  · rw [show exec (.resetNRelease a) s = _ from finish_wf (decide_eq_true ha) _, State.resetRelease, if_pos h.symm]
  · rw [show exec (.railLoss r) s = _ from finish_wf rfl _, State.railLoss, if_pos hst]
  · rw [show exec .railRestart s = _ from finish_wf rfl _, State.railRestart, if_pos hnone]
  · obtain ⟨hrestart, hboot⟩ := State.chipReset_leaves (s := s.asks m kChipReset arg) (cause := 4) (by simpa using hn)
      (by simpa using hclk) (by simpa using hrail) (by simpa using hwarn) (by decide) 0xFF
    exact ⟨_, exec_chipReset_told s m arg hobeys hkey, hrestart.of_asks, hboot⟩

end Sys2Proof.Machine
end

section
/-!
PROOFS. Slice0/UrgencyPins: the synchronized level, the filtered level and the stuck mark of a pin (R150, R152, R153).
-/

namespace Sys2Proof.Machine

section
variable {s : State} {p : Nat} {level : Bool}

theorem State.urgPinEdge_clocked (h : s.fabricClocked = true) : s.urgPinEdge p =
    ({ s with reg := { s.reg with urgSync := vset s.reg.urgSync p (!s.reg.urgSync.getLsbD p) } }).count (ekey 0x2300 (0x20 + p)) 1 :=
  if_pos h

theorem State.urgPinEdge_stopped (h : s.fabricClocked = false) : s.urgPinEdge p = s := if_neg (by simp [h])

/-- The condition of the filter: it runs, and the synchronized pin holds a level other than the filtered one. -/
theorem State.urgFilter_iff :
    (s.fabricClocked && decide (s.reg.urgSync.getLsbD p = level) && decide (s.reg.urgLevel.getLsbD p ≠ level)) = true ↔
      s.fabricClocked = true ∧ s.reg.urgSync.getLsbD p = level ∧ s.reg.urgLevel.getLsbD p ≠ level := by
  simp only [Bool.and_eq_true, decide_eq_true_eq, and_assoc]

theorem State.urgFilter_takes (h : s.fabricClocked = true) (hsync : s.reg.urgSync.getLsbD p = level)
    (hlevel : s.reg.urgLevel.getLsbD p ≠ level) : s.urgFilter p level = ({ s with reg := { s.reg with
      urgLevel := vset s.reg.urgLevel p level
      urgStuck := if level then s.reg.urgStuck else vset s.reg.urgStuck p false } } : State).stuckLevel :=
  if_pos (State.urgFilter_iff.mpr ⟨h, hsync, hlevel⟩)

theorem State.urgFilter_keeps (h : s.fabricClocked = false ∨ s.reg.urgSync.getLsbD p ≠ level ∨ s.reg.urgLevel.getLsbD p = level) :
    s.urgFilter p level = s := by
  refine if_neg fun hruns => ?_
  obtain ⟨hclk, hsync, hlevel⟩ := State.urgFilter_iff.mp hruns
  rcases h with h | h | h
  · exact Bool.noConfusion (h.symm.trans hclk)
  · exact h hsync
  · exact hlevel h

/-- The condition of the stuck mark: a bound, asserted pin without it, and a stuck time in force (R152). -/
theorem State.urgStuck_iff : (s.fabricClocked && s.reg.urgLevel.getLsbD p && decide (s.pinSet p ≠ 0xFF) &&
      decide (s.rget (ekey 0x2300 0x32) ≠ 0) && !s.reg.urgStuck.getLsbD p) = true ↔
    s.fabricClocked = true ∧ s.reg.urgLevel.getLsbD p = true ∧ s.pinSet p ≠ 0xFF ∧ s.rget (ekey 0x2300 0x32) ≠ 0 ∧
      s.reg.urgStuck.getLsbD p = false := by
  simp only [Bool.and_eq_true, Bool.not_eq_true', decide_eq_true_eq, and_assoc]

theorem State.urgStuck_marks (h : s.fabricClocked = true) (hlevel : s.reg.urgLevel.getLsbD p = true) (hbound : s.pinSet p ≠ 0xFF)
    (htime : s.rget (ekey 0x2300 0x32) ≠ 0) (hfree : s.reg.urgStuck.getLsbD p = false) : s.urgStuck p =
      (let t : State := { s with reg := { s.reg with urgStuck := vset s.reg.urgStuck p true } }
       if s.faults.now.getLsbD 34 then t else t.setLevel 34 true) :=
  if_pos (State.urgStuck_iff.mpr ⟨h, hlevel, hbound, htime, hfree⟩)

theorem State.urgStuck_keeps (h : s.fabricClocked = false ∨ s.reg.urgLevel.getLsbD p = false ∨ s.pinSet p = 0xFF ∨
    s.rget (ekey 0x2300 0x32) = 0) : s.urgStuck p = s := by
  refine if_neg fun hruns => ?_
  obtain ⟨hclk, hlevel, hbound, htime, -⟩ := State.urgStuck_iff.mp hruns
  rcases h with h | h | h | h
  · exact Bool.noConfusion (h.symm.trans hclk)
  · exact Bool.noConfusion (h.symm.trans hlevel)
  · exact hbound h
  · exact htime h

end

/-- Settles O30: each row is its condition, met or not. -/
theorem urgencyPinsAreFiltered : Obligations.UrgencyPinsAreFiltered := by
  intro s p hp
  have hedge : exec (.urgPinEdge p) s = .next (s.urgPinEdge p).settle := finish_wf (decide_eq_true hp) _
  have hfilter (level : Bool) : exec (.urgFilterChange p level) s = .next (s.urgFilter p level).settle :=
    finish_wf (decide_eq_true hp) _
  have hstuck : exec (.urgStuckDetect p) s = .next (s.urgStuck p).settle := finish_wf (decide_eq_true hp) _
  refine ⟨fun hclk => ⟨?_, fun level hsync hlevel => ?_, fun level h => ?_, fun hlevel hbound htime hfree => ?_, fun h => ?_⟩,
    fun hclk => ⟨?_, fun level => ?_, ?_⟩⟩
  · rw [hedge, State.urgPinEdge_clocked hclk]
  · rw [hfilter, State.urgFilter_takes hclk hsync hlevel]; rfl
  · rw [hfilter, State.urgFilter_keeps (.inr h)]
  · rw [hstuck, State.urgStuck_marks hclk hlevel hbound htime hfree]
  · rw [hstuck, State.urgStuck_keeps (.inr h)]
  · rw [hedge, State.urgPinEdge_stopped hclk]
  · rw [hfilter, State.urgFilter_keeps (.inl hclk)]
  · rw [hstuck, State.urgStuck_keeps (.inl hclk)]

end Sys2Proof.Machine
end

section
/-!
PROOFS. Slice0/Shares: the rates of every port and class (R141, R142), and what a shortfall takes from the parts (R156).
-/

namespace Sys2Proof.Machine

/-! ### Maps filled from a list -/

/-- A map filled from a list reads at a key as what every entry of that key stores, or as it did before where none is. -/
theorem mget_foldl_mset_agree {α β : Type} [DecidableEq β] {d v : β} {f : α → Nat} {g : α → β} {es : List α} {z : SMap β} {q : Nat}
    (h : ∀ e ∈ es, f e = q → g e = v) (hz : mget d z q = v ∨ ∃ e ∈ es, f e = q) :
    mget d (es.foldl (fun z e => mset d z (f e) (g e)) z) q = v := by
  induction es generalizing z with
  | nil => simpa using hz
  | cons e es ih =>
    obtain ⟨he, hes⟩ := List.forall_mem_cons.mp h
    refine ih hes ?_
    by_cases hq : f e = q
    · exact .inl (by rw [mget_mset, if_pos hq.symm, he hq])
    · rw [mget_mset_other _ _ _ (Ne.symm hq)]
      simpa [hq] using hz

theorem mem_of_mfind {α : Type} {m : SMap α} {q : Nat} {v : α} (h : mfind m q = some v) : (q, v) ∈ m := by
  induction m with
  | nil => cases h
  | cons e m ih =>
    obtain ⟨k, w⟩ := e
    rw [mfind] at h
    split at h
    · next hk => rw [hk, Option.some.inj h]; exact List.mem_cons_self
    · exact List.mem_cons_of_mem _ (ih h)

/-- In a map of rising keys every entry is the one found. -/
theorem mfind_of_mem {α : Type} {m : SMap α} {lo : Nat} (h : mrises lo m = true) {e : Nat × α} (he : e ∈ m) :
    mfind m e.1 = some e.2 := by
  induction m generalizing lo with
  | nil => cases he
  | cons a m ih =>
    obtain ⟨k, w⟩ := a
    simp only [mrises, Bool.and_eq_true, decide_eq_true_eq] at h
    rcases List.mem_cons.mp he with rfl | he
    · exact if_pos rfl
    · have hfound := ih h.2 he
      have hk : k ≠ e.1 := fun hk => by
        rw [← hk, mfind_none_of_mrises h.2 (Nat.lt_succ_self k)] at hfound
        cases hfound
      rw [mfind, if_neg hk, hfound]

/-! ### Shares (R141, R142) -/

theorem tokKey_inj {p q c d : Nat} (hc : c < 16) (hd : d < 16) : tokKey p c = tokKey q d ↔ p = q ∧ c = d := by
  simp only [tokKey]; omega

/-- The rates that a share gives a port or a slice in a class. -/
def State.shareOf (s : State) (c : Nat) (share : Rat) : Tok :=
  { u := ((s.classRates c).1 : Rat) / 10 * share
    g := ((s.classRates c).2.1 : Rat) / 10 * share
    e := ((s.classRates c).2.2 : Rat) / 10 * share }

/-- Every class with each port or slice that shares in it. -/
def State.allShares (s : State) : List (Nat × Nat × Rat) := (List.range 16).flatMap (fun c => (s.classShares c).map (fun x => (c, x)))

theorem State.mem_allShares {s : State} {e : Nat × Nat × Rat} : e ∈ s.allShares ↔ e.1 < 16 ∧ e.2 ∈ s.classShares e.1 := by
  obtain ⟨c, x⟩ := e
  simp [State.allShares]

/-- The rates of every port and class. -/
def State.shareRates (s : State) : SMap Tok :=
  s.allShares.foldl (fun m e => mset {} m (tokKey e.2.1 e.1) (s.shareOf e.1 e.2.2)) []

/-- The counters, clipped to the depths that the rates give them. -/
def State.clippedTok (s : State) : SMap Tok :=
  s.reg.tok.foldl (fun m x => mset {} m x.1 (x.2.clip (mget {} s.shareRates x.1) (s.classSet (x.1 % 16) 8))) []

theorem State.shareRecompute_eq (s : State) :
    s.shareRecompute = { s with reg := { s.reg with rates := s.shareRates, tok := s.clippedTok } } := by
  have hrates : s.shareRates = (List.range 16).foldl (fun m c => (s.classShares c).foldl (fun m x =>
      mset {} m (tokKey x.1 c) (s.shareOf c x.2)) m) [] := by
    simp only [State.shareRates, State.allShares, List.foldl_flatMap, List.foldl_map]
  rw [State.clippedTok, hrates]
  rfl

theorem State.mem_groupPorts {s : State} {g p : Nat} (h : p ∈ s.groupPorts g) : p < 128 ∧ s.groupSet p = g := by
  simp only [State.groupPorts, linkNums, List.mem_filter, List.mem_range, Bool.and_eq_true, decide_eq_true_eq] at h
  exact ⟨lt_of_lt_of_le h.1 (enabled_le _), h.2.2⟩

/-- A port or slice has one share in a class: a port shares through its own host group, and no port has a slice's number. -/
theorem State.classShares_unique {s : State} {c : Nat} {x y : Nat × Rat} (hx : x ∈ s.classShares c) (hy : y ∈ s.classShares c)
    (h : x.1 = y.1) : x.2 = y.2 := by
  simp only [State.classShares, List.mem_append, List.mem_flatMap, List.mem_map, List.mem_ite_nil_right] at hx hy
  rcases hx with ⟨g, -, p, hp, rfl⟩ | ⟨-, i, -, rfl⟩ <;> rcases hy with ⟨g', -, q, hq, rfl⟩ | ⟨-, j, -, rfl⟩
  · obtain rfl : p = q := h
    obtain rfl : g = g' := (State.mem_groupPorts hp).2.symm.trans (State.mem_groupPorts hq).2
    rfl
  · have := (State.mem_groupPorts hp).1
    simp only at h
    omega
  · have := (State.mem_groupPorts hq).1
    simp only at h
    omega
  · rfl

theorem State.shareRates_shared {s : State} {c : Nat} (hc : c < 16) {x : Nat × Rat} (hx : x ∈ s.classShares c) :
    mget {} s.shareRates (tokKey x.1 c) = s.shareOf c x.2 := by
  refine mget_foldl_mset_agree (fun e he hkey => ?_) (.inr ⟨(c, x), State.mem_allShares.mpr ⟨hc, hx⟩, rfl⟩)
  obtain ⟨he16, hmem⟩ := State.mem_allShares.mp he
  obtain ⟨hport, hclass⟩ := (tokKey_inj he16 hc).mp hkey
  rw [hclass] at hmem ⊢
  rw [State.classShares_unique hmem hx hport]

theorem State.shareRates_unshared {s : State} {c p : Nat} (hc : c < 16) (hp : ∀ x ∈ s.classShares c, x.1 ≠ p) :
    mget {} s.shareRates (tokKey p c) = {} := by
  refine mget_foldl_mset_agree (fun e he hkey => ?_) (.inl rfl)
  obtain ⟨he16, hmem⟩ := State.mem_allShares.mp he
  obtain ⟨hport, hclass⟩ := (tokKey_inj he16 hc).mp hkey
  exact absurd hport (hp e.2 (hclass ▸ hmem))

/-- A counter that holds something is clipped to the depths of its new rates. -/
theorem State.clippedTok_held {s : State} (hwf : mwf (fun _ => {}) s.reg.tok = true) {c : Nat} (p : Nat) (hc : c < 16)
    (ht : mget {} s.reg.tok (tokKey p c) ≠ {}) : mget {} s.clippedTok (tokKey p c) =
      (mget {} s.reg.tok (tokKey p c)).clip (mget {} s.shareRates (tokKey p c)) (s.classSet c 8) := by
  have hrises : mrises 0 s.reg.tok = true := by
    simp only [mwf, Bool.and_eq_true] at hwf
    exact hwf.1
  have hclass : tokKey p c % 16 = c := by simp only [tokKey]; omega
  refine mget_foldl_mset_agree (fun e he hkey => ?_) (.inr ?_)
  · have hread : mget {} s.reg.tok (tokKey p c) = e.2 := by rw [mget, ← hkey, mfind_of_mem hrises he, Option.getD_some]
    rw [hkey, hclass, hread]
  · cases hfound : mfind s.reg.tok (tokKey p c) with
    | none => exact absurd (by rw [mget, hfound, Option.getD_none]) ht
    | some t => exact ⟨_, mem_of_mfind hfound, rfl⟩

/-! ### Shortfall (R156) -/

section
variable {part : Nat → Nat} {l : List Nat} {left : Nat} {m : SMap Nat}

/-- A class that is not in the list gives nothing. -/
theorem takeParts_other {c : Nat} (hc : c ∉ l) : mget 0 (takeParts part l left m).1 c = mget 0 m c := by
  induction l generalizing left m with
  | nil => rfl
  | cons a l ih =>
    rw [List.mem_cons, not_or] at hc
    obtain ⟨ha, hl⟩ := hc
    rw [takeParts, ih hl, mget_mset_other _ _ _ ha]

/-- No class gives more than a bound of its part. -/
theorem takeParts_le {bound : Nat → Nat} (hl : ∀ c ∈ l, part c ≤ bound c) (hm : ∀ c, mget 0 m c ≤ bound c) (c : Nat) :
    mget 0 (takeParts part l left m).1 c ≤ bound c := by
  induction l generalizing left m with
  | nil => exact hm c
  | cons a l ih =>
    obtain ⟨ha, hl⟩ := List.forall_mem_cons.mp hl
    refine ih hl fun d => ?_
    rw [mget_mset]
    split
    · next hd => exact hd.symm ▸ le_trans (Nat.min_le_right _ _) ha
    · exact hm d

/-- What is left to take is what the parts do not cover. -/
theorem takeParts_left : (takeParts part l left m).2 = left - (l.map part).sum := by
  induction l generalizing left m with
  | nil => rfl
  | cons a l ih =>
    rw [takeParts, ih, List.map_cons, List.sum_cons]
    simp only [Nat.min_def]
    split <;> omega

/-- What the classes give and what is left make up the amount. -/
theorem takeParts_sum (hl : l.Nodup) :
    (l.map (mget 0 (takeParts part l left m).1)).sum + (takeParts part l left m).2 = left := by
  induction l generalizing left m with
  | nil => exact Nat.zero_add _
  | cons a l ih =>
    obtain ⟨ha, hl⟩ := List.nodup_cons.mp hl
    have hrest := ih (left := left - Nat.min left (part a)) (m := mset 0 m a (Nat.min left (part a))) hl
    have hmin : Nat.min left (part a) ≤ left := Nat.min_le_left _ _
    rw [takeParts, List.map_cons, List.sum_cons, takeParts_other ha, mget_mset_same]
    omega

end

/-- The classes of a type, in the order in which a shortfall takes from them. -/
def State.typeOrder (s : State) (ty : Nat) : List Nat := s.cutOrder.filter (fun c => decide (s.classSet c 1 = ty))

/-- What a shortfall takes from the guarantees of GUARANTEED classes, and what is left to take. -/
def State.guaranteedCut (s : State) : SMap Nat × Nat :=
  takeParts (fun c => s.classSet c 3) (s.typeOrder 0) (s.reservedSum - s.dNow) []

/-- The same once the guarantees of REALTIME classes have been taken from. -/
def State.realtimeCut (s : State) : SMap Nat × Nat :=
  takeParts (fun c => s.classSet c 3) (s.typeOrder 1) s.guaranteedCut.2 s.guaranteedCut.1

/-- What it takes from the urgent parts, and what is left to take. -/
def State.urgentCut (s : State) : SMap Nat × Nat := takeParts s.urgPart s.cutOrder s.realtimeCut.2 []

theorem State.shortfallCut_eq {s : State} (h : s.fabricClocked = true) : s.shortfallCut =
    (let need := s.reservedSum - s.dNow
     let t := ({ s with reg := { s.reg with
       minCut := s.realtimeCut.1, urgCut := s.urgentCut.1, shortfall := need } } : State).shareRecompute
     if s.reg.shortfall < need then (t.count (ekey 0x2300 0x55) 1).report 32 else t) :=
  if_neg (by simp [h])

theorem State.realtimeCut_le (s : State) (c : Nat) : mget 0 s.realtimeCut.1 c ≤ guarPart (s.classSet c 1) (s.classSet c 3) := by
  have hpart (ty : Nat) (hty : ty ≤ 1) : ∀ d ∈ s.typeOrder ty, s.classSet d 3 ≤ guarPart (s.classSet d 1) (s.classSet d 3) := by
    intro d hd
    have hd : s.classSet d 1 = ty := of_decide_eq_true (List.mem_filter.mp hd).2
    rw [hd, guarPart, if_pos hty]
  exact takeParts_le (hpart 1 (by decide)) (takeParts_le (hpart 0 (by decide)) fun _ => Nat.zero_le _) c

theorem State.urgentCut_le (s : State) (c : Nat) : mget 0 s.urgentCut.1 c ≤ s.urgPart c :=
  takeParts_le (fun _ _ => le_rfl) (fun _ => Nat.zero_le _) c

theorem State.mem_cutOrder {s : State} {c : Nat} : c ∈ s.cutOrder ↔ c < 16 ∧ s.classSet c 2 < 16 := by
  simp only [State.cutOrder, List.mem_flatMap, List.mem_filter, List.mem_reverse, List.mem_range, decide_eq_true_eq]
  exact ⟨fun ⟨_, hpr, hc, h⟩ => ⟨hc, h ▸ hpr⟩, fun ⟨hc, h⟩ => ⟨_, h, hc, rfl⟩⟩

/-- Each class stands at its priority, once. -/
theorem State.cutOrder_nodup (s : State) : s.cutOrder.Nodup := by
  refine List.nodup_flatMap.mpr ⟨fun pr _ => (List.nodup_reverse.mpr List.nodup_range).filter _, ?_⟩
  refine List.nodup_range.pairwise_of_forall_ne fun a _ b _ hab c ha hb => hab ?_
  exact (of_decide_eq_true (List.mem_filter.mp ha).2).symm.trans (of_decide_eq_true (List.mem_filter.mp hb).2)

theorem State.cutOrder_perm {s : State} (h : ∀ c, c < 16 → s.classSet c 2 < 16) : s.cutOrder.Perm (List.range 16) :=
  (List.perm_ext_iff_of_nodup s.cutOrder_nodup List.nodup_range).mpr fun c => by
    rw [State.mem_cutOrder, List.mem_range]
    exact ⟨And.left, fun hc => ⟨hc, h c hc⟩⟩

theorem sum_map_filter (l : List Nat) (p : Nat → Prop) [DecidablePred p] (f : Nat → Nat) :
    ((l.filter (fun c => decide (p c))).map f).sum = (l.map (fun c => if p c then f c else 0)).sum := by
  induction l with
  | nil => rfl
  | cons a l ih =>
    rw [List.filter_cons, List.map_cons, List.sum_cons, ← ih]
    by_cases h : p a <;> simp [h]

/-- Over a list of classes the reservations are the parts that the three steps take from. -/
theorem State.sum_reservation (s : State) (l : List Nat) : (l.map s.reservation).sum =
    ((l.filter (fun c => decide (s.classSet c 1 = 0))).map (fun c => s.classSet c 3)).sum +
      ((l.filter (fun c => decide (s.classSet c 1 = 1))).map (fun c => s.classSet c 3)).sum + (l.map s.urgPart).sum := by
  rw [sum_map_filter, sum_map_filter, ← List.sum_map_add, ← List.sum_map_add]
  refine congrArg List.sum (List.map_congr_left fun c _ => ?_)
  rw [State.reservation, guarPart]
  split_ifs <;> omega

/-- A class gives of its guarantee in the step of its type. -/
theorem State.realtimeCut_eq (s : State) {c : Nat} (hc : c ∈ s.cutOrder) : mget 0 s.realtimeCut.1 c =
    (if s.classSet c 1 = 0 then mget 0 s.guaranteedCut.1 c else 0) + (if s.classSet c 1 = 1 then mget 0 s.realtimeCut.1 c else 0) := by
  have hin (ty : Nat) : c ∈ s.typeOrder ty ↔ s.classSet c 1 = ty := by
    simp only [State.typeOrder, List.mem_filter, hc, true_and, decide_eq_true_eq]
  by_cases h1 : s.classSet c 1 = 1
  · simp [h1]
  · have hkept : mget 0 s.realtimeCut.1 c = mget 0 s.guaranteedCut.1 c := takeParts_other (mt (hin 1).mp h1)
    rw [if_neg h1, hkept]
    split
    · rfl
    · next h0 => exact takeParts_other (mt (hin 0).mp h0)

/-- Where every class has a priority, the three steps take the whole shortfall: the reservations cover it. -/
theorem State.sum_cuts {s : State} (h : ∀ c, c < 16 → s.classSet c 2 < 16) :
    ((List.range 16).map (fun c => mget 0 s.realtimeCut.1 c + mget 0 s.urgentCut.1 c)).sum = s.reservedSum - s.dNow := by
  have hperm := State.cutOrder_perm h
  have hguaranteed : ((s.typeOrder 0).map (mget 0 s.guaranteedCut.1)).sum + s.guaranteedCut.2 = s.reservedSum - s.dNow :=
    takeParts_sum (s.cutOrder_nodup.filter _)
  have hrealtime : ((s.typeOrder 1).map (mget 0 s.realtimeCut.1)).sum + s.realtimeCut.2 = s.guaranteedCut.2 :=
    takeParts_sum (s.cutOrder_nodup.filter _)
  have hurgent : (s.cutOrder.map (mget 0 s.urgentCut.1)).sum + s.urgentCut.2 = s.realtimeCut.2 := takeParts_sum s.cutOrder_nodup
  have hrest : s.urgentCut.2 = 0 := by
    have hreserved := (hperm.map s.reservation).sum_eq
    rw [s.sum_reservation] at hreserved
    rw [State.urgentCut, takeParts_left, State.realtimeCut, takeParts_left, State.guaranteedCut, takeParts_left, State.typeOrder,
      State.typeOrder, State.reservedSum, ← hreserved]
    omega
  have hguar : (s.cutOrder.map (mget 0 s.realtimeCut.1)).sum =
      ((s.typeOrder 0).map (mget 0 s.guaranteedCut.1)).sum + ((s.typeOrder 1).map (mget 0 s.realtimeCut.1)).sum := by
    rw [State.typeOrder, State.typeOrder, sum_map_filter, sum_map_filter, ← List.sum_map_add]
    exact congrArg List.sum (List.map_congr_left fun c hc => s.realtimeCut_eq hc)
  rw [← (hperm.map _).sum_eq, List.sum_map_add, hguar]
  omega

/-- Settles O31: the cuts are those of `State.realtimeCut` and `State.urgentCut`, the rates those of `State.shareRates`. -/
theorem deliverableShortfallAndShares : Obligations.DeliverableShortfallAndShares := by
  refine ⟨fun s hclk => ⟨?_, s.realtimeCut.1, s.urgentCut.1, ?_, fun c => ⟨s.realtimeCut_le c, s.urgentCut_le c⟩, State.sum_cuts⟩,
    fun s => ⟨s.shareRates, s.clippedTok, ?_, fun c hc x hx => State.shareRates_shared hc hx,
      fun c p hc hp => State.shareRates_unshared hc hp, fun hwf p c hc ht => State.clippedTok_held hwf p hc ht⟩⟩
  · rw [show exec .deliverableRecompute s = _ from finish_wf rfl _, State.deliverableRecompute, if_pos hclk]
    rfl
  · rw [show exec .shortfallCut s = _ from finish_wf rfl _, State.shortfallCut_eq hclk]
  · rw [show exec .shareRecompute s = _ from finish_wf rfl _, State.shareRecompute_eq]

end Sys2Proof.Machine
end

section
/-!
PROOFS. Slice0/AccountingWindows: the judgement of every class on a window, and the window after it (R157, R159).
-/

namespace Sys2Proof.Machine

/-- In a fold over different numbers, what only the step of `c` touches is left by that step. -/
theorem State.each_at {β : Type} (view : State → β) {f : State → Nat → State} {c : Nat}
    (hf : ∀ t n, n ≠ c → view (f t n) = view t) {ns : List Nat} (hnodup : ns.Nodup) (hc : c ∈ ns) (s : State) :
    ∃ t, view t = view s ∧ view (s.each ns f) = view (f t c) := by
  induction ns generalizing s with
  | nil => cases hc
  | cons n ns ih =>
    obtain ⟨hn, hnodup⟩ := List.nodup_cons.mp hnodup
    by_cases hnc : n = c
    · subst hnc
      exact ⟨s, rfl, List.foldlRecOn (motive := fun t => view t = view (f s n)) ns f rfl
        fun t ht k hk => (hf t k fun e => hn (e ▸ hk)).trans ht⟩
    · obtain ⟨t, ht, he⟩ := ih hnodup (List.mem_of_ne_of_mem (Ne.symm hnc) hc) (f s n)
      exact ⟨t, ht.trans (hf s n hnc), he⟩

/-- A class has missed the open window (R159). -/
def State.missedWindow (s : State) (c : Nat) : Bool :=
  s.guarClass c && decide (100 * mget 0 s.reg.winBytes c < 9 * s.minEff c * s.acctWindow) &&
    decide (s.acctWindow < mget 0 s.reg.winHeld c)

theorem State.missedWindow_iff {s : State} {c : Nat} : s.missedWindow c = true ↔ s.guarClass c = true ∧
    100 * mget 0 s.reg.winBytes c < 9 * s.minEff c * s.acctWindow ∧ s.acctWindow < mget 0 s.reg.winHeld c := by
  simp only [State.missedWindow, Bool.and_eq_true, decide_eq_true_eq, and_assoc]

/-- One class is judged on the window of `s`. -/
def State.judgeClass (s t : State) (c : Nat) : State :=
  let t := t.rset (classKey c 0x34) (mget 0 s.reg.winBytes c % 2 ^ 32)
  if s.missedWindow c then
    let t := t.count (classKey c 0x36) 1
    let n := mget 0 s.reg.missRun c + 1
    if s.classSet c 9 ≠ 0 ∧ s.classSet c 9 ≤ n then
      ({ t with reg := { t.reg with missRun := mset 0 t.reg.missRun c 0 } }).report 33
    else { t with reg := { t.reg with missRun := mset 0 t.reg.missRun c n } }
  else { t with reg := { t.reg with missRun := mset 0 t.reg.missRun c 0 } }

/-- Every class is judged on the window of `s`. -/
def State.judged (s : State) : State := s.each (List.range 16) s.judgeClass

/-- The window of `s` is closed: the next one is the open one. -/
def State.nextWindow (s : State) : State :=
  { s.judged with
    now := Nat.max s.judged.now (s.reg.winFrom + 2 * s.acctWindow)
    reg := { s.judged.reg with winFrom := s.reg.winFrom + 3 * s.acctWindow / 2
                               winBytes := s.reg.nextBytes, winHeld := s.reg.nextHeld, nextBytes := [], nextHeld := [] } }

theorem State.acctClose_eq (s : State) : s.acctClose = if !s.fabricClocked || s.regulatorStopped then s else s.nextWindow := rfl

theorem classKey_inj {c d a b : Nat} (ha : a < 256) (hb : b < 256) : classKey c a = classKey d b ↔ c = d ∧ a = b := by
  simp only [classKey, ekey]; omega

/-- SCc_GUAR_MISS_WIN is a counter of 32 bits. -/
theorem missCounter_type {c : Nat} (hc : c < 16) : (entryRow (classKey c 0x36)).map EntryRow.ty = some .u32 := by
  have all : ∀ c < 16, (entryRow (classKey c 0x36)).map EntryRow.ty = some .u32 := by decide +kernel
  exact all c hc

/-- The consecutive missed windows of a class once the window of `s` is judged (R159). -/
def State.missesAfter (s : State) (c : Nat) : Nat :=
  if s.missedWindow c then
    if s.classSet c 9 ≠ 0 ∧ s.classSet c 9 ≤ mget 0 s.reg.missRun c + 1 then 0 else mget 0 s.reg.missRun c + 1
  else 0

section
variable (s t : State) (c : Nat)

theorem State.judgeClass_reg :
    (s.judgeClass t c).reg = { t.reg with missRun := mset 0 t.reg.missRun c (s.missesAfter c) } := by
  simp only [State.judgeClass, State.missesAfter]
  (repeat' split) <;> simp

theorem State.judgeClass_regs : (s.judgeClass t c).regs =
    (let u := t.rset (classKey c 0x34) (mget 0 s.reg.winBytes c % 2 ^ 32)
     if s.missedWindow c then u.count (classKey c 0x36) 1 else u).regs := by
  simp only [State.judgeClass]
  (repeat' split) <;> simp

theorem State.judgeClass_keeps : (s.judgeClass t c).now = t.now ∧ (s.judgeClass t c).ports = t.ports ∧
    (s.judgeClass t c).chans = t.chans ∧ (s.judgeClass t c).qe = t.qe ∧ (s.judgeClass t c).dict = t.dict := by
  simp only [State.judgeClass]
  (repeat' split) <;> simp

variable {s t c}

theorem State.rget_judgeClass_bytes : (s.judgeClass t c).rget (classKey c 0x34) = mget 0 s.reg.winBytes c % 2 ^ 32 := by
  have hne : classKey c 0x34 ≠ classKey c 0x36 := by simp [classKey_inj]
  rw [State.rget, State.judgeClass_regs, ← State.rget]
  split
  · rw [State.count_rget_other _ _ _ _ hne, State.rget_rset, if_pos rfl]
  · rw [State.rget_rset, if_pos rfl]

theorem State.rget_judgeClass_missed (h : s.missedWindow c = true) (hc : c < 16) (hfits : t.rget (classKey c 0x36) + 1 < 2 ^ 32) :
    (s.judgeClass t c).rget (classKey c 0x36) = t.rget (classKey c 0x36) + 1 := by
  have hne : classKey c 0x36 ≠ classKey c 0x34 := by simp [classKey_inj]
  have hkept : (t.rset (classKey c 0x34) (mget 0 s.reg.winBytes c % 2 ^ 32)).rget (classKey c 0x36) = t.rget (classKey c 0x36) := by
    rw [State.rget_rset, if_neg hne]
  rw [State.rget, State.judgeClass_regs, ← State.rget, if_pos h, State.count_u32 _ _ _ (missCounter_type hc) (by rwa [hkept]),
    State.rget_rset, if_pos rfl, hkept]

/-- A judgement stores no other register; a class that did not miss counts nothing. -/
theorem State.rget_judgeClass_other {k : Nat} (hbytes : k ≠ classKey c 0x34) (hmiss : s.missedWindow c = true → k ≠ classKey c 0x36) :
    (s.judgeClass t c).rget k = t.rget k := by
  rw [State.rget, State.judgeClass_regs, ← State.rget]
  split
  · next h => rw [State.count_rget_other _ _ _ _ (hmiss h), State.rget_rset, if_neg hbytes]
  · rw [State.rget_rset, if_neg hbytes]

end

section
variable {s : State} {c : Nat}

/-- The registers of a class are what its own judgement leaves. -/
theorem State.rget_judged (hc : c < 16) {a : Nat} (ha : a < 256) :
    ∃ t : State, t.rget (classKey c a) = s.rget (classKey c a) ∧
      s.judged.rget (classKey c a) = (s.judgeClass t c).rget (classKey c a) := by
  have hother (n b : Nat) (hb : b < 256) (hne : n ≠ c) : classKey c a ≠ classKey n b :=
    fun h => hne ((classKey_inj ha hb).mp h).1.symm
  exact State.each_at (fun t => t.rget (classKey c a)) (fun _ n hne =>
    State.rget_judgeClass_other (hother n 0x34 (by decide) hne) fun _ => hother n 0x36 (by decide) hne)
    List.nodup_range (List.mem_range.mpr hc) s

theorem State.missRun_judged (hc : c < 16) : mget 0 s.judged.reg.missRun c = s.missesAfter c := by
  obtain ⟨t, -, he⟩ := State.each_at (fun t => mget 0 t.reg.missRun c) (f := s.judgeClass)
    (fun t n hne => by rw [State.judgeClass_reg, mget_mset_other _ _ _ (Ne.symm hne)]) List.nodup_range (List.mem_range.mpr hc) s
  exact he.trans (by rw [State.judgeClass_reg, mget_mset_same])

theorem State.rget_judged_other {k : Nat} (hk : ∀ c, c < 16 → k ≠ classKey c 0x34 ∧ k ≠ classKey c 0x36) : s.judged.rget k = s.rget k :=
  List.foldlRecOn (motive := fun t => t.rget k = s.rget k) (List.range 16) s.judgeClass rfl fun _ ht c hc =>
    (State.rget_judgeClass_other (hk c (List.mem_range.mp hc)).1 fun _ => (hk c (List.mem_range.mp hc)).2).trans ht

theorem State.judged_keeps : s.judged.now = s.now ∧ s.judged.ports = s.ports ∧ s.judged.chans = s.chans ∧ s.judged.qe = s.qe ∧
    s.judged.dict = s.dict :=
  State.each_keeps (fun t => t.now = s.now ∧ t.ports = s.ports ∧ t.chans = s.chans ∧ t.qe = s.qe ∧ t.dict = s.dict) s _ _
    ⟨rfl, rfl, rfl, rfl, rfl⟩ fun t c ht => by
      obtain ⟨hnow, hports, hchans, hqe, hdict⟩ := s.judgeClass_keeps t c
      rwa [hnow, hports, hchans, hqe, hdict]

end

/-- Settles O32: each class is judged by `State.judgeClass`, and the window closes as `State.nextWindow`. -/
theorem accountingWindowJudgesClasses : Obligations.AccountingWindowJudgesClasses := by
  intro s
  have hexec : exec (.acctWindowClose () ()) s = .next s.acctClose.settle := finish_wf rfl _
  rw [State.acctClose_eq] at hexec
  refine ⟨fun h => by rw [hexec, if_pos h], fun h => ⟨s.nextWindow, by rw [hexec, if_neg (by simp [h])], fun c hc => ?_,
    fun k hk => State.rget_judged_other hk, rfl, rfl, ?_, rfl, ?_⟩⟩
  · have hmissed := State.missedWindow_iff (s := s) (c := c)
    obtain ⟨t, -, hbytes⟩ := State.rget_judged (s := s) hc (a := 0x34) (by decide)
    obtain ⟨u, hu, hmisses⟩ := State.rget_judged (s := s) hc (a := 0x36) (by decide)
    refine ⟨hbytes.trans State.rget_judgeClass_bytes, rfl, rfl, fun hmet => ?_, fun hmiss => ?_⟩
    · rw [← hmissed] at hmet
      refine ⟨(State.missRun_judged hc).trans (if_neg hmet), (hmisses.trans ?_).trans hu⟩
      exact State.rget_judgeClass_other (by simp [classKey_inj]) fun h => absurd h hmet
    · rw [← hmissed] at hmiss
      refine ⟨(State.missRun_judged hc).trans (if_pos hmiss), fun hfits => hmisses.trans ?_⟩
      rw [State.rget_judgeClass_missed hmiss hc (hu.symm ▸ hfits), hu]
  · exact congrArg (Nat.max · _) State.judged_keeps.1
  · exact State.judged_keeps.2

end Sys2Proof.Machine
end

section
/-!
PROOFS. Slice0/IdleTimer: the conditions on which an idle channel starts its entry into self-refresh (R169, R170).
-/

namespace Sys2Proof.Machine

section
variable {s : State} {m : Nat}

/-- The condition of the idle timer: the channel can issue commands to a clocked layer, an idle time is in force, and the channel
has no work. -/
theorem State.idleExpiry_iff : (s.chanRuns m && s.layerClocked m && decide (s.idleTime m ≠ 0) && decide ((s.chan m).queue = []) &&
      decide ((s.chan m).ref.debt = 0) && decide ((s.chan m).rep.slice = none) && decide ((s.chan m).rep.evac = 0) &&
      !(s.chan m).interim && decide ((s.chan m).ref.burst = [])) = true ↔
    s.chanRuns m = true ∧ s.layerClocked m = true ∧ s.idleTime m ≠ 0 ∧ (s.chan m).queue = [] ∧ (s.chan m).ref.debt = 0 ∧
      (s.chan m).rep.slice = none ∧ (s.chan m).rep.evac = 0 ∧ (s.chan m).interim = false ∧ (s.chan m).ref.burst = [] := by
  simp only [Bool.and_eq_true, Bool.not_eq_true', decide_eq_true_eq, and_assoc]

theorem State.idleExpiry_enters (hruns : s.chanRuns m = true) (hclock : s.layerClocked m = true) (hidle : s.idleTime m ≠ 0)
    (hqueue : (s.chan m).queue = []) (hdebt : (s.chan m).ref.debt = 0) (hslice : (s.chan m).rep.slice = none)
    (hevac : (s.chan m).rep.evac = 0) (hinterim : (s.chan m).interim = false) (hburst : (s.chan m).ref.burst = []) :
    s.idleExpiry m = s.setChan m { s.chan m with
      st := .entering, openRows := [], srSince := s.now + if (s.chan m).openRows = [] then 1 else 30 } :=
  if_pos (State.idleExpiry_iff.mpr ⟨hruns, hclock, hidle, hqueue, hdebt, hslice, hevac, hinterim, hburst⟩)

theorem State.idleExpiry_keeps
    (h : s.idleTime m = 0 ∨ (s.chan m).queue ≠ [] ∨ (s.chan m).ref.debt ≠ 0 ∨ s.chanRuns m = false) : s.idleExpiry m = s := by
  refine if_neg fun hstarts => ?_
  obtain ⟨hruns, -, hidle, hqueue, hdebt, -⟩ := State.idleExpiry_iff.mp hstarts
  rcases h with h | h | h | h
  · exact hidle h
  · exact h hqueue
  · exact h hdebt
  · exact Bool.noConfusion (h.symm.trans hruns)

end

/-- Settles O34: the row is its condition, met or not. -/
theorem idleChannelBeginsSelfRefresh : Obligations.IdleChannelBeginsSelfRefresh := by
  intro s m hm
  have hexec : exec (.idleTimerExpiry m) s = .next (s.idleExpiry m).settle := finish_wf (decide_eq_true hm) _
  refine ⟨fun hruns hclock hidle hqueue hdebt hslice hevac hinterim hburst => ?_, fun h => ?_⟩
  · rw [hexec, State.idleExpiry_enters hruns hclock hidle hqueue hdebt hslice hevac hinterim hburst]
  · rw [hexec, State.idleExpiry_keeps h]

end Sys2Proof.Machine
end

section
/-!
PROOFS. Slice0/SteepWindows: a window or an exit check opens, measures the column and ends, and the channel resumes service (R172,
R179, R191, R268, R271).
-/

namespace Sys2Proof.Machine

/-- A command of one channel's controller names a channel of the stack. -/
theorem chanRow_wf {m : Nat} {env : ChanEnv} (hm : m < 128) (henv : env.wf = true) : (ChanRow.mk m env).wf = true :=
  Bool.and_eq_true_iff.mpr ⟨decide_eq_true hm, henv⟩

section
variable {s : State} {m : Nat}

/-! ### Service resumes (R191) -/

theorem State.burst_within (h : (s.chan m).ref.debt ≤ 8 * (s.chan m).unit) : s.burst m = s := by
  have hnone : (s.chan m).ref.debt / (s.chan m).unit - 8 = 0 := Nat.sub_eq_zero_of_le (Nat.div_le_of_le_mul (by rwa [Nat.mul_comm]))
  exact if_pos hnone

theorem State.forceNow_unforced (h : (s.chan m).forced = false) : s.forceNow m = s := by
  unfold State.forceNow
  simp only [h, Bool.false_and, Bool.false_eq_true, if_false]

/-- A channel that owes no more than 8 units and is not forced only serves again. -/
theorem State.resumeChan_serves (hservice : s.retired m = false) (hdebt : (s.chan m).ref.debt ≤ 8 * (s.chan m).unit)
    (hforced : (s.chan m).forced = false) (hstopped : (s.chan m).stopped = false) :
    s.resumeChan m = s.modChan m (fun c => { c with st := .serving }) := by
  have hserving : (s.modChan m (fun c => { c with st := .serving })).chan m = { s.chan m with st := .serving } := by
    rw [State.chan_modChan, if_pos rfl]
  have hburst : (s.modChan m (fun c => { c with st := .serving })).burst m = s.modChan m (fun c => { c with st := .serving }) :=
    State.burst_within (by rw [hserving]; exact hdebt)
  rw [State.resumeChan, if_neg (by simp [hservice]), if_neg (by simp [hstopped]), hburst,
    State.forceNow_unforced (by rw [hserving]; exact hforced)]

/-! ### Steep windows (R179, R268, R271) -/

theorem State.steepStart_opens (env : ChanEnv) (hopens : s.windowOpens m = true) (hinterim : (s.chan m).interimStop = false) :
    s.steepStart m env = ((s.refreshCmd m).caCount m env).modChan m
      (fun c => { c with st := .steep, fullExit := false, vl := { c.vl with early := false } }) :=
  if_pos (by simp [hopens, hinterim])

theorem State.steepStart_keeps (env : ChanEnv) (hopens : s.windowOpens m = false) : s.steepStart m env = s :=
  if_neg (by simp [hopens])

/-- A window that no relock has opened performs no substitution. -/
theorem State.steepEnd_ends (outside : List Site) (len : Nat) (hpower : s.chanPowered = true) (hst : (s.chan m).st = .steep)
    (hready : s.clk.nrLayer.getLsbD m = false) (hfull : (s.chan m).fullExit = false) :
    s.steepEnd m outside len = (outside.foldl (fun t x => t.coilFail m false x)
      ((s.modChan m (fun c => { c with fullExit := false, vl := { c.vl with weak := [] } })).windowDone m len)).resumeChan m := by
  rw [State.steepEnd, if_pos (by simp [hpower, hst, hready]), hfull]
  rfl

theorem State.substitutionWindow_opens (outside : List Site) (len : Nat) (env : ChanEnv) (hopens : s.windowOpens m = true)
    (hwaits : (s.chan m).vl.waiting ≠ []) :
    s.substitutionWindow m outside len env = (outside.foldl (fun t x => t.coilFail m false x)
      (((((s.refreshCmd m).caCount m env).modChan m
        (fun c => { c with vl := { c.vl with weak := [], early := false } })).windowDone m len).substitute m)).resumeChan m :=
  if_pos (by simp [hopens, hwaits])

theorem State.substitutionWindow_keeps (outside : List Site) (len : Nat) (env : ChanEnv) (hopens : s.windowOpens m = false) :
    s.substitutionWindow m outside len env = s :=
  if_neg (by simp [hopens])

/-! ### The exit check (R172) -/

/-- The state that an exit check measures: the exit is over, and its wait and the stay in self-refresh are recorded. -/
def State.exited (s : State) (m wait : Nat) : State :=
  let c := s.chan m
  ((s.setChan m { c with fullExit := false, forced := c.forced || c.wasForced, wasForced := false, srTime := 0 }).peak
    (chanKey m 0x6B) wait 65535).count (chanKey m 0x6A) c.srTime

/-- The check alone ends an exit that finds every site within margin; it extends to a full window else. -/
theorem State.exitCheckEnd_ends (outside after : List Site) (wait len : Nat) (hpower : s.chanPowered = true)
    (hst : (s.chan m).st = .exiting) (hclock : s.layerClocked m = true) (hready : s.clk.nrLayer.getLsbD m = false)
    (hfull : (s.chan m).fullExit = false) : s.exitCheckEnd m outside after wait len =
      (let u := ((s.exited m wait).measure m).peak (chanKey m 0x6E) len 65535
       if outside = [] then u.resumeChan m
       else (after.foldl (fun t x => t.coilFail m false x)
        ((u.count (chanKey m 0x6D) 1).modChan m (fun c => { c with vl := { c.vl with weak := [] } }))).resumeChan m) := by
  rw [State.exitCheckEnd, if_pos (by simp [hpower, hst, hclock, hready]), hfull]
  by_cases hnone : outside = []
  · simp only [hnone, if_true]
    rfl
  · simp only [hnone, if_false, ne_eq, not_false_eq_true, or_true, if_true]
    rfl

end

/-- Settles O41: what each row does is its lemma above; a channel resumes by `State.resumeChan_serves`. -/
theorem steepWindowsAndExitChecks : Obligations.SteepWindowsAndExitChecks := by
  intro s m env hen henv hpower hready c measured ended failed
  have hm : m < 128 := lt_of_lt_of_le hen (enabled_le _)
  have hrow : (ChanRow.mk m env).wf = true := chanRow_wf hm henv
  have hstart : exec (.steepWindowStart ⟨m, env⟩) s = .next (s.steepStart m env).settle := finish_wf hrow _
  have hend (outside : List Site) (len : Nat) (hout : outside.all Site.wf = true) :
      exec (.steepWindowEnd m outside len) s = .next (s.steepEnd m outside len).settle :=
    finish_wf (Bool.and_eq_true_iff.mpr ⟨decide_eq_true hm, hout⟩) _
  have hcheck (outside after : List Site) (wait len : Nat) (hout : outside.all Site.wf = true) (hafter : after.all Site.wf = true) :
      exec (.exitCheckEnd m outside after wait len) s = .next (s.exitCheckEnd m outside after wait len).settle :=
    finish_wf (Bool.and_eq_true_iff.mpr ⟨Bool.and_eq_true_iff.mpr ⟨decide_eq_true hm, hout⟩, hafter⟩) _
  have hsubst (outside : List Site) (len : Nat) (hout : outside.all Site.wf = true) :
      exec (.substitutionWindow ⟨m, env⟩ ⟨outside, len⟩) s = .next (s.substitutionWindow m outside len env).settle :=
    finish_wf (Bool.and_eq_true_iff.mpr ⟨hrow, hout⟩) _
  refine ⟨fun hopens hinterim => ?_, fun outside len hout hst hfull => ?_,
    fun outside after wait len hout hafter hst hclock hfull => ?_, fun outside len hout hopens hwaits => ?_,
    fun hopens => ⟨?_, fun outside len hout => ?_⟩, State.resumeChan_serves⟩
  · rw [hstart, State.steepStart_opens env hopens hinterim]
  · rw [hend outside len hout, State.steepEnd_ends outside len hpower hst hready hfull]
    rfl
  · rw [hcheck outside after wait len hout hafter, State.exitCheckEnd_ends outside after wait len hpower hst hclock hready hfull]
    rfl
  · rw [hsubst outside len hout, State.substitutionWindow_opens outside len env hopens hwaits]
    rfl
  · rw [hstart, State.steepStart_keeps env hopens]
  · rw [hsubst outside len hout, State.substitutionWindow_keeps outside len env hopens]

end Sys2Proof.Machine
end

section
/-!
PROOFS. Slice0/MaintenanceEntries: the first pending row and the lowest marked region are served (R198, R216), and the Rake steps
through an unwritten region and closes its pass (R223, R224, R225, R226).
-/

namespace Sys2Proof.Machine

section
variable {s : State} {m : Nat}

/-! ### Pending rows and marked regions (R198, R216) -/

theorem State.neighbourRefresh_none (env : ChanEnv) (h : (s.chan m).ref.pending = []) : s.neighbourRefresh m env = s := by
  simp only [State.neighbourRefresh, h]

theorem State.neighbourRefresh_serves (env : ChanEnv) {k w : Nat} {rest : List (Nat × Nat)}
    (hpending : (s.chan m).ref.pending = (k, w) :: rest) (hruns : s.mayMaintain m = true) (hfill : (s.chan m).forcedFill = false) :
    s.neighbourRefresh m env = (s.serveRow m k w rest).caCount m env := by
  simp [State.neighbourRefresh, hpending, hruns, hfill]

theorem State.regionFill_none (env : ChanEnv) (h : (s.chan m).mem.fills = []) : s.regionFill m env = s := by
  simp only [State.regionFill, h]

/-- A fill runs behind pending rows, or in forced fill service ahead of the other entries. -/
theorem State.regionFill_fills (env : ChanEnv) {r : Nat} {rest : List Nat} (hfills : (s.chan m).mem.fills = r :: rest)
    (hturn : ((s.chan m).ref.pending = [] ∧ s.mayMaintain m = true) ∨
      ((s.chan m).forcedFill = true ∧ (s.chan m).ref.forced = false ∧ s.chanRuns m = true ∧ s.layerClocked m = true)) :
    s.regionFill m env = ((s.setChan m { s.chan m with
      mem := (s.chan m).mem.fill r
      forcedFill := (s.chan m).forcedFill && decide (48 < ((s.chan m).mem.fill r).fills.length) }).maintained m).caCount m env := by
  have hruns : ((s.mayMaintain m && decide ((s.chan m).ref.pending = [])) ||
      ((s.chan m).forcedFill && !(s.chan m).ref.forced && s.chanRuns m && s.layerClocked m)) = true := by
    rcases hturn with ⟨hpending, hmay⟩ | ⟨hforced, hrows, hchan, hclock⟩
    · simp [hpending, hmay]
    · simp [hforced, hrows, hchan, hclock]
  simp only [State.regionFill, hfills, hruns, if_true]

/-! ### The Rake (R223–R226) -/

/-- The look-up of a region that is not marked, with nothing injected (R213). -/
theorem State.lookupRegion_unmarked (r : Nat) (hinject : nfield (s.rget (ekey 0x1800 0x65)) 63 62 = 0)
    (hfills : (s.chan m).mem.fills = []) : s.lookupRegion m r false = (mget false (s.chan m).mem.rmap r, s) := by
  simp [State.lookupRegion, s.inject_off 5 m r hinject, hfills]

theorem State.mayRun_fills (h : s.mayRun m = true) : (s.chan m).mem.fills = [] := by
  rw [State.mayRun, Bool.and_eq_true, decide_eq_true_eq] at h
  exact h.2

theorem State.rakeStep_stopped (noise : List Nat) (env : ChanEnv) (h : (s.mayRun m && s.map.contains m && !s.rakeStopped) = false) :
    s.rakeStep m noise env = s := by
  rw [State.rakeStep, h]
  rfl

/-- In an unwritten region a step takes its slot and accesses nothing. -/
theorem State.rakeStep_unwritten (noise : List Nat) (env : ChanEnv) (hbad : env.rmapBad = false)
    (hinject : nfield (s.rget (ekey 0x1800 0x65)) 63 62 = 0) (hruns : (s.mayRun m && s.map.contains m && !s.rakeStopped) = true)
    (hregion : mget false (s.chan m).mem.rmap (regionOf (s.rget (kRake m))) = false) :
    s.rakeStep m noise env = (s.rset (kRake m) ((s.rget (kRake m) + 16) % 2 ^ 23)).count (chanKey m 0xAA) 1 := by
  have hmay : s.mayRun m = true := by
    simp only [Bool.and_eq_true] at hruns
    exact hruns.1.1
  have hlook : s.lookupRegion m (regionOf (s.rget (kRake m))) env.rmapBad = (false, s) := by
    rw [hbad, State.lookupRegion_unmarked _ hinject (State.mayRun_fills hmay), hregion]
  rw [State.rakeStep, if_pos hruns]
  simp only [hlook, Bool.not_false, if_true]

/-- An entry of the correctable-row table at the close of a pass: freed where the pass has not seen it, else marked as the overlap
with the next pass says. -/
def CeRow.kept (tail : List (Nat × Nat)) : Option CeRow → Option CeRow
  | some y => if y.seen then some { y with seen := tail.contains (y.bank, y.row) } else none
  | none => none

theorem State.rakeClose_records (tailCe : Nat) (tailRows : List (Nat × Nat)) (hclock : s.chanClocked = true)
    (hen : m < enabled s.variant) (hservice : s.retired m = false) :
    s.rakeClose m tailCe tailRows = ((s.setChan m { s.chan m with
      rakePassCe := Nat.min tailCe (s.chan m).rakePassCe
      ceRows := (s.chan m).ceRows.map (CeRow.kept tailRows) }).count (chanKey m 0xAD) 1).rset (chanKey m 0xB1)
        ((s.chan m).rakePassCe % 2 ^ 32) := by
  have hkept : CeRow.kept tailRows = fun e => e.bind fun x =>
      if x.seen then some { x with seen := tailRows.contains (x.bank, x.row) } else none := by
    funext e
    cases e <;> rfl
  rw [State.rakeClose, if_pos (by simp [hclock, hen, hservice]), hkept]

end

/-- Settles O36: the row and the region served are those of `State.neighbourRefresh_serves` and `State.regionFill_fills`, the step of
the Rake is `State.rakeStep_unwritten`, and the close of its pass `State.rakeClose_records`. -/
theorem maintenanceServesRowsRegionsAndRake : Obligations.MaintenanceServesRowsRegionsAndRake := by
  refine ⟨fun s m hm => ?_, fun s m hen => ?_⟩
  · have hrow (env : ChanEnv) (henv : env.wf = true) :
        exec (.neighbourRefresh ⟨m, env⟩) s = .next (s.neighbourRefresh m env).settle :=
      finish_wf (chanRow_wf hm henv) _
    have hfill (env : ChanEnv) (henv : env.wf = true) : exec (.regionFill ⟨m, env⟩) s = .next (s.regionFill m env).settle :=
      finish_wf (chanRow_wf hm henv) _
    refine ⟨fun env k w rest henv hpending hruns hforced => ?_, fun env r rest henv hfills hturn => ?_,
      fun env henv hpending => ?_, fun env henv hfills => ?_⟩
    · rw [hrow env henv, State.neighbourRefresh_serves env hpending hruns hforced]
      rfl
    · rw [hfill env henv, State.regionFill_fills env hfills hturn]
      rfl
    · rw [hrow env henv, State.neighbourRefresh_none env hpending]
    · rw [hfill env henv, State.regionFill_none env hfills]
  · have hstep (noise : List Nat) (env : ChanEnv) (hwf : (Instr.rakeStep m noise env).wf = true) :
        exec (.rakeStep m noise env) s = .next (s.rakeStep m noise env).settle := finish_wf hwf _
    refine ⟨fun noise env hwf hbad hinject hruns hregion => ?_, fun noise env hwf hstops => ?_,
      fun ce rows hwf hclock hservice => ?_⟩
    · rw [hstep noise env hwf, State.rakeStep_unwritten noise env hbad hinject hruns hregion]
    · rw [hstep noise env hwf, State.rakeStep_stopped noise env hstops]
    · have hclose : exec (.rakePassClose m ce rows) s = .next (s.rakeClose m ce rows).settle := finish_wf hwf _
      rw [hclose, State.rakeClose_records ce rows hclock hen hservice]
      rfl

end Sys2Proof.Machine
end

section
/-!
PROOFS. Slice0/RawAccess: a raw command wakes its channel before it looks whether it can run (R228), and so cancels the entry of an
automatic self-refresh (R171).
-/

namespace Sys2Proof.Machine

/-- A channel on its way into self-refresh runs no maintenance entry. -/
theorem State.mayRun_entering {s : State} {m : Nat} (h : (s.chan m).st = .entering) : s.mayRun m = false := by
  simp [State.mayRun, State.mayMaintain, State.chanRuns, h]

/-- The raw commands that wait after a step. -/
def rawsWaiting : Host.Outcome State Fault Refusal → Option (List RawJob)
  | .next t => some t.dict.raw
  | _ => none

/-- A stack in service, in RETURN, whose channel 0 is entering automatic self-refresh; RAW_SELECT names its block 0. -/
def channelEntering : State :=
  { State.reset with
    boot := .up, mapBuilt := true, map := List.range 128, lc := { State.reset.lc with st := .ret }
    layers := [(0, { locked := true })], chans := [(0, { st := .entering })] }

/-- The RAW_WRITE of `channelEntering` as the statement has it wait: latched, with no entry cancelled. -/
def rawWriteLatched : State :=
  let u := channelEntering.asks .bus kRawWrite []
  { u with dict := { u.dict with raw := u.dict.raw ++ [{
      by_ := .bus, key := kRawWrite, chan := 0, addr := 0, data := channelEntering.rget (ekey 0x1800 0x81)
      bits := channelEntering.rget (ekey 0x1800 0x82) }] } }

/-- The command cancels the entry, finds the channel serving, and is performed in the same step. -/
theorem rawWrite_entering_runsAtOnce : rawsWaiting (exec (.rawWrite .bus []) channelEntering) = some [] := by decide +kernel

/-- Latched before the entry is cancelled, it still waits when its step is over: its turn only wakes the channel. -/
theorem rawWriteLatched_waits :
    rawsWaiting (.next (State.settle ((rawWriteLatched.cmdStart kRawWrite).awaits .bus))) ≠ some [] := by decide +kernel

/-- Refutes O39: while channel 0 enters automatic self-refresh it cannot run a maintenance entry, but a RAW_WRITE on it does not
wait. It cancels the entry as a request does (R171, R228), and is performed and answered at once. -/
theorem not_rawAccessAndInjection : ¬ Obligations.RawAccessAndInjection := by
  unfold Obligations.RawAccessAndInjection
  intro h
  obtain ⟨hraw, -⟩ := h channelEntering .bus
  obtain ⟨-, hwait, -⟩ := hraw [] 0x85 (.inl rfl) (by decide +kernel)
  have hlatched : exec (.rawWrite .bus []) channelEntering =
      .next (State.settle ((rawWriteLatched.cmdStart kRawWrite).awaits .bus)) :=
    hwait (by decide +kernel) (State.mayRun_entering rfl)
  exact rawWriteLatched_waits (hlatched ▸ rawWrite_entering_runsAtOnce)

end Sys2Proof.Machine
end

section
/-!
PROOFS. Slice0/PointerCaches: the pointer caches refill and spill by sixteen, and the link-block cache gives up its oldest block
(R238, R239, R246, R248, R250).
-/

namespace Sys2Proof.Machine

/-! ### A refill (R238, R248) -/

/-- Sixteen cells after the fresh mark come on top of the cache. -/
def QSlice.takeFresh (y : QSlice) : QSlice :=
  { y with cache := (List.range 16).map (· + y.fresh) ++ y.cache, fresh := y.fresh + 16 }

/-- The sixteen pointers of the top stack block come on top of the cache. -/
def QSlice.takeStacked (y : QSlice) (d : Nat) : QSlice :=
  { y with
    stack := y.stack - 16
    cache := ((List.range 16).map (fun j => nfield d (32 * j + 31) (32 * j))).reverse ++ y.cache }

/-- The cells of the top stack block are lost. -/
def QSlice.loseStacked (y : QSlice) : QSlice := { y with stack := y.stack - 16, lost := y.lost + 16 }

/-- One block of a refill; `again` goes on where the stack block read is poisoned. -/
def Eng.refillStep (x : Eng) (i : Nat) (again : Eng → Eng) : Eng :=
  if 16 ≤ (x.s.slice i).stack then
    let r := x.read i (x.s.stackBlock i ((x.s.slice i).stack / 16 - 1))
    let u := r.2.s.qcount 0x9A 1
    if r.2.stall then r.2
    else if r.1.poisoned then again { r.2 with s := u.modSlice i QSlice.loseStacked }
    else { r.2 with s := u.modSlice i (fun y => y.takeStacked r.1.data) }
  else if (x.s.slice i).fresh < x.s.poolK then { x with s := x.s.modSlice i QSlice.takeFresh }
  else x

/-! The equation that Lean derives for `Eng.refill` makes the kernel unfold the block read on an unknown state, too deep to
finish. So the step of the recursion is taken for any function, and the block read is generalized before the two sides are compared. -/

theorem brecOn_succ {α : Type} (f : (n : Nat) → Nat.below (motive := fun _ => α) n → α) (n : Nat) :
    ∃ below : Nat.below (motive := fun _ => α) (n + 1), below.1 = Nat.brecOn n f ∧ Nat.brecOn (n + 1) f = f (n + 1) below :=
  ⟨_, rfl, Nat.brecOn.eq (n + 1) f⟩

theorem Eng.refill_eq_brecOn : Eng.refill = fun x i n => Nat.brecOn (motive := fun _ => Eng → Eng) n (Eng.refill._f i) x := by
  delta Eng.refill
  rfl

/-- What the recursion of `Eng.refill` does for a block, whatever it does for those below. -/
theorem Eng.refill_body (x : Eng) (i fuel : Nat) (below : Nat.below (motive := fun _ => Eng → Eng) (fuel + 1)) :
    Eng.refill._f i (fuel + 1) below x = x.refillStep i below.1 := by
  delta Eng.refill._f Eng.refillStep
  beta_reduce
  generalize Eng.read x = read
  refine if_congr Iff.rfl ?_ rfl
  generalize read i (x.s.stackBlock i ((x.s.slice i).stack / 16 - 1)) = r
  cases r
  rfl

theorem Eng.refill_succ (x : Eng) (i fuel : Nat) :
    x.refill i (fuel + 1) = x.refillStep i (fun x => x.refill i fuel) := by
  obtain ⟨below, hagain, hstep⟩ := brecOn_succ (α := Eng → Eng) (Eng.refill._f i) fuel
  rw [Eng.refill_eq_brecOn]
  beta_reduce
  rw [hstep, Eng.refill_body, hagain]

section
variable {x : Eng} {i : Nat}

theorem Eng.refillStep_fresh (again : Eng → Eng) (hstack : (x.s.slice i).stack < 16) (hfresh : (x.s.slice i).fresh < x.s.poolK) :
    x.refillStep i again = { x with s := x.s.modSlice i QSlice.takeFresh } := by
  rw [Eng.refillStep, if_neg (by omega), if_pos hfresh]

/-- After the last stack block is lost, the fresh mark serves. -/
theorem Eng.refill_lost (u : State) (fuel : Nat) (hlast : (u.slice i).stack < 32) (hfresh : (u.slice i).fresh < u.poolK) :
    (({ x with s := u.modSlice i QSlice.loseStacked } : Eng).refill i (fuel + 1)).s =
      u.modSlice i (fun y => y.loseStacked.takeFresh) := by
  have hslice : (u.modSlice i QSlice.loseStacked).slice i = (u.slice i).loseStacked := by rw [State.slice_modSlice, if_pos rfl]
  have hlost : (u.slice i).loseStacked ≠ {} := fun h => by simpa [QSlice.loseStacked] using congrArg QSlice.lost h
  have hempty : ((u.modSlice i QSlice.loseStacked).slice i).stack < 16 := by
    rw [hslice]
    simp only [QSlice.loseStacked]
    omega
  have hleft : ((u.modSlice i QSlice.loseStacked).slice i).fresh < (u.modSlice i QSlice.loseStacked).poolK := by
    rw [hslice]
    exact hfresh
  rw [Eng.refill_succ, Eng.refillStep_fresh _ hempty hleft]
  exact u.modSlice_modSlice i _ _ hlost

section
variable {r : ReadOut × Eng} (fuel : Nat) (hstack : 16 ≤ (x.s.slice i).stack)
  (hread : x.read i (x.s.stackBlock i ((x.s.slice i).stack / 16 - 1)) = r)
include hstack hread

/-- What a refill from the stack does, by what the read of the top block brings. -/
theorem Eng.refill_stacked : x.refill i (fuel + 1) =
    if r.2.stall then r.2
    else if r.1.poisoned then
      ({ r.2 with s := (r.2.s.qcount 0x9A 1).modSlice i QSlice.loseStacked } : Eng).refill i fuel
    else { r.2 with s := (r.2.s.qcount 0x9A 1).modSlice i (fun y => y.takeStacked r.1.data) } := by
  rw [Eng.refill_succ, Eng.refillStep, if_pos hstack, hread]

theorem Eng.refill_waits (hwait : r.2.stall = true) : x.refill i (fuel + 1) = r.2 := by
  rw [Eng.refill_stacked fuel hstack hread, if_pos hwait]

theorem Eng.refill_takes (hgoes : r.2.stall = false) (hgood : r.1.poisoned = false) :
    (x.refill i (fuel + 1)).s = (r.2.s.qcount 0x9A 1).modSlice i (fun y => y.takeStacked r.1.data) := by
  rw [Eng.refill_stacked fuel hstack hread, if_neg (ne_true_of_eq_false hgoes), if_neg (ne_true_of_eq_false hgood)]

theorem Eng.refill_loses (hgoes : r.2.stall = false) (hbad : r.1.poisoned = true)
    (hlast : ((r.2.s.qcount 0x9A 1).slice i).stack < 32)
    (hfresh : ((r.2.s.qcount 0x9A 1).slice i).fresh < (r.2.s.qcount 0x9A 1).poolK) :
    (x.refill i (fuel + 2)).s = (r.2.s.qcount 0x9A 1).modSlice i (fun y => y.loseStacked.takeFresh) := by
  rw [Eng.refill_stacked (fuel + 1) hstack hread, if_neg (ne_true_of_eq_false hgoes), if_pos hbad]
  exact Eng.refill_lost _ fuel hlast hfresh

end

end

section
variable {s : State} {i : Nat} {env : ChanEnv}

/-! ### The rows -/

theorem State.cacheRefill_runs (hrun : (s.engineRuns && decide (i < slices s.variant)) = true) (hpool : s.poolK ≠ 0)
    (hlow : (s.slice i).cache.length < 1024) :
    s.cacheRefill i env = (({ s := s, env := env } : Eng).refill i ((s.slice i).stack / 16 + 1)).s.feedJobs i := by
  rw [State.cacheRefill, hrun, decide_eq_true hpool, decide_eq_true hlow]
  rfl

theorem State.cacheSpill_runs (hrun : (s.engineRuns && decide (i < slices s.variant)) = true)
    (hhigh : 3072 < (s.slice i).cache.length) :
    s.cacheSpill i env = (({ s := s, env := env } : Eng).spill i).s.feedJobs i := by
  rw [State.cacheSpill, hrun, decide_eq_true hhigh]
  rfl

theorem State.linkEvict_runs (hrun : (s.engineRuns && decide (i < slices s.variant)) = true)
    (hfull : 2048 ≤ (s.slice i).blocks.length) : s.linkEvict i env = (({ s := s, env := env } : Eng).evict i).s := by
  rw [State.linkEvict, hrun, decide_eq_true hfull]
  rfl

/-- In a slice that is absent, or with the engine not serving, the three rows do nothing. -/
theorem State.caches_keep (hrun : (s.engineRuns && decide (i < slices s.variant)) = false) :
    s.cacheRefill i env = s ∧ s.cacheSpill i env = s ∧ s.linkEvict i env = s := by
  simp only [State.cacheRefill, State.cacheSpill, State.linkEvict, hrun, Bool.false_and, Bool.false_eq_true, if_false, and_self]

end

section
variable {i : Nat}

/-- The sixteen oldest pointers leave the cache for the next stack block, unless the write of the block has to wait. -/
theorem Eng.spill_state (x : Eng) : (x.spill i).s =
    let y := x.s.slice i
    let d := ((y.cache.drop (y.cache.length - 16)).reverse).foldr (fun p acc => p + 2 ^ 32 * acc) 0
    let w := x.write i (x.s.stackBlock i (y.stack / 16)) d false
    if w.stall then w.s
    else (w.s.qcount 0x9B 1).modSlice i (fun z => { z with
      cache := z.cache.take (y.cache.length - 16), stack := z.stack + 16 }) :=
  apply_ite Eng.s ..

/-- The least recently used link block leaves the cache: a clean one at once, a dirty one when its write has been served. -/
theorem Eng.evict_state (x : Eng) {b : LinkBlk} (hb : (x.s.slice i).blocks.getLast? = some b) (hgoes : x.stall = false) :
    (x.evict i).s =
      let w := x.write i b.addr (blockOf b.entries) (b.poisoned && decide (b.written ≠ 255))
      let less := fun (t : State) => t.modSlice i (fun z => { z with blocks := z.blocks.dropLast })
      if b.dirty = false then less x.s else if w.stall then w.s else (less w.s).qcount 0x99 1 := by
  rw [Eng.evict, hb]
  cases hdirty : b.dirty with
  | false => simp only [hdirty, hgoes, Bool.false_eq_true, if_false, if_true]
  | true =>
    simp only [hdirty, if_true, Bool.true_eq_false, if_false]
    exact apply_ite Eng.s ..

end

/-- Settles O28: a refill by `Eng.refill_succ`, a spill by `Eng.spill_state`, an eviction by `Eng.evict_state`. -/
theorem pointerCachesMoveSixteen : Obligations.PointerCachesMoveSixteen := by
  unfold Obligations.PointerCachesMoveSixteen
  intro s i env hi henv y x0
  have hwf : (isSlice i && env.wf) = true := Bool.and_eq_true_iff.mpr ⟨decide_eq_true hi, henv⟩
  have hrefill : exec (.cacheRefill i env) s = .next (s.cacheRefill i env).settle := finish_wf hwf _
  have hspill : exec (.cacheSpill i env) s = .next (s.cacheSpill i env).settle := finish_wf hwf _
  have hevict : exec (.linkBlockEvict i env) s = .next (s.linkEvict i env).settle := finish_wf hwf _
  rw [hrefill, hspill, hevict]
  refine ⟨fun hrun => ⟨fun hpool hlow hstack hfresh => ?_, fun hpool hlow hstack => ?_, fun hhigh => ?_, fun b hfull hb => ?_⟩,
    fun hidle => ?_⟩
  · rw [State.cacheRefill_runs hrun hpool hlow, Eng.refill_succ, Eng.refillStep_fresh _ hstack hfresh]
    rfl
  · intro r u
    have hread : x0.read i (s.stackBlock i (y.stack / 16 - 1)) = r := rfl
    clear_value r
    obtain ⟨k, hk⟩ : ∃ k, y.stack / 16 = k + 1 := ⟨y.stack / 16 - 1, by omega⟩
    rw [State.cacheRefill_runs hrun hpool hlow, hk]
    refine ⟨fun hwait => ?_, fun hgoes hgood => ?_, fun hgoes hbad hlast hsame hfresh => ?_⟩
    · rw [Eng.refill_waits (k + 1) hstack hread hwait]
    · rw [Eng.refill_takes (k + 1) hstack hread hgoes hgood]
      rfl
    · rw [Eng.refill_loses k hstack hread hgoes hbad (hsame ▸ hlast) hfresh]
      rfl
  · rw [State.cacheSpill_runs hrun hhigh, Eng.spill_state]
    rfl
  · rw [State.linkEvict_runs hrun hfull, Eng.evict_state x0 hb rfl]
    rfl
  · obtain ⟨hr, hs, he⟩ := s.caches_keep (i := i) (env := env) hidle
    rw [hr, hs, he]
    exact ⟨rfl, rfl, rfl⟩

end Sys2Proof.Machine
end

section
/-!
PROOFS. Slice0/LayerLock: a layer loses lock, and its home channels stop (R263); a relock attempt ends (R263, R345), a frequency
window closes (R262), and a word of the joint fails (R259).
-/

namespace Sys2Proof.Machine

section
variable {s : State} {k : Nat}

/-! ### The channels homed on a layer -/

theorem State.homedOn_nodup (s : State) (k : Nat) : (s.homedOn k).Nodup := List.nodup_range.filter _

theorem State.homedOn_lt {m : Nat} (h : m ∈ s.homedOn k) : m < 128 :=
  lt_of_lt_of_le (List.mem_range.mp (List.mem_of_mem_filter h)) (enabled_le _)

/-- One change made to each of several channels. -/
theorem State.chan_each_modChan (s : State) (f : Chan → Chan) {ms : List Nat} (hnodup : ms.Nodup) (m : Nat) :
    (s.each ms (fun t n => t.modChan n f)).chan m = if m ∈ ms then f (s.chan m) else s.chan m := by
  have hother (t : State) (n : Nat) (hn : n ≠ m) : (t.modChan n f).chan m = t.chan m := by
    rw [State.chan_modChan, if_neg hn.symm]
  split
  · next hm =>
    obtain ⟨t, ht, hend⟩ := State.each_at (fun t : State => t.chan m) hother hnodup hm s
    rw [hend, State.chan_modChan, if_pos rfl, ht]
  · next hm =>
    exact List.foldlRecOn (motive := fun t : State => t.chan m = s.chan m) ms _ rfl
      fun t ht n hn => (hother t n fun e => hm (e ▸ hn)).trans ht

theorem vset_true_getLsbD {w : Nat} (v : BitVec w) {n : Nat} (hn : n < w) (i : Nat) :
    (vset v n true).getLsbD i = (v.getLsbD i || decide (i = n)) := by
  rw [vset, if_pos rfl, BitVec.getLsbD_or, BitVec.getLsbD_ofNat, Nat.testBit_two_pow]
  by_cases hi : i = n
  · simp [hi, hn]
  · simp [hi, Ne.symm hi]

/-- The bits of a list of numbers are set. -/
theorem foldl_vset_getLsbD {w : Nat} (v : BitVec w) (ns : List Nat) (hns : ∀ n ∈ ns, n < w) (i : Nat) :
    (ns.foldl (fun v n => vset v n true) v).getLsbD i = (v.getLsbD i || decide (i ∈ ns)) := by
  induction ns generalizing v with
  | nil => simp
  | cons n ns ih =>
    rw [List.foldl_cons, ih _ fun n hn => hns n (List.mem_cons_of_mem _ hn), vset_true_getLsbD v (hns n List.mem_cons_self)]
    simp [Bool.or_assoc]

/-! ### Loss of lock (R263) -/

/-- A channel whose layer loses lock: it stops, and a window or an uncommitted entry on it is abandoned. -/
def Chan.layerLost (c : Chan) : Chan :=
  { c with
    stopped := true, wasForced := c.wasForced || (c.forced && decide (c.st = .inSr))
    st := if c.st = .steep ∨ c.st = .entering then .serving else c.st }

/-- A layer that has lost lock: it is relocking, and keeps in mind the state to return to. -/
def Layer.unlocked (l : Layer) : Layer := { l with locked := false, was := l.st, st := 4, attempts := 0 }

/-- The state in which a layer has lost lock and the queues to it are not ready, with its channels still to stop. -/
def State.unlocked (s : State) (k : Nat) : State :=
  let t := s.setLayer k (s.layer k).unlocked
  { t with clk := { t.clk with nrLayer := (s.homedOn k).foldl (fun v m => vset v m true) s.clk.nrLayer } }

theorem State.loseLock_locked (h : (s.layer k).locked = true) :
    s.loseLock k = (s.unlocked k).each (s.homedOn k) (fun t m => t.modChan m Chan.layerLost) := by
  have hlost : Chan.layerLost = fun c => { c with
      stopped := true, wasForced := c.wasForced || (c.forced && decide (c.st = .inSr))
      st := match c.st with
        | .steep => .serving
        | .entering => .serving
        | x => x } := by
    funext c
    unfold Chan.layerLost
    congr 1
    cases c.st <;> rfl
  rw [State.loseLock, if_neg (by simp [h]), hlost]
  rfl

theorem State.loseLock_unlocked (h : (s.layer k).locked = false) : s.loseLock k = s := if_pos (by simp [h])

theorem State.layerLoss_powered (h : s.chanPowered = true) : s.layerLoss k = s.loseLock k := if_pos h

/-- What the loss of lock changes: the layer, the readiness of the queues to it, and its home channels. -/
theorem State.loseLock_frame (h : (s.layer k).locked = true) :
    (∀ j, (s.loseLock k).layer j = if j = k then (s.layer k).unlocked else s.layer j) ∧
      (∀ m, (s.loseLock k).clk.nrLayer.getLsbD m = (s.clk.nrLayer.getLsbD m || decide (m ∈ s.homedOn k))) ∧
      ∀ m, (s.loseLock k).chan m = if m ∈ s.homedOn k then (s.chan m).layerLost else s.chan m := by
  rw [State.loseLock_locked h]
  refine ⟨fun j => ?_, fun m => ?_, (s.unlocked k).chan_each_modChan _ (s.homedOn_nodup k)⟩
  · refine Eq.trans ?_ (s.layer_setLayer k (s.layer k).unlocked j)
    exact (s.unlocked k).each_keeps (fun t => t.layer j = (s.unlocked k).layer j) _ _ rfl fun _ _ ht => ht
  · have hclk : ((s.unlocked k).each (s.homedOn k) (fun t m => t.modChan m Chan.layerLost)).clk = (s.unlocked k).clk :=
      (s.unlocked k).each_keeps (fun t => t.clk = (s.unlocked k).clk) _ _ rfl fun _ _ ht => ht
    rw [hclk]
    exact foldl_vset_getLsbD _ _ (fun _ hm => State.homedOn_lt hm) m

/-! ### The end of a relock attempt (R263, R345) -/

/-- A layer in lock again, in its former state. -/
def Layer.relocked (l : Layer) (slot : Option Nat) : Layer :=
  { l with
    locked := true, st := l.was, supply := 2, relocks := Nat.min (l.relocks + 1) 255, attempts := 0
    refSlot := slot.getD l.refSlot }

/-- The state in which a layer is in lock again, with its channels still to resume. -/
def State.relocked (s : State) (k : Nat) : State := s.setLayer k ((s.layer k).relocked (s.refSlotOf k))

/-- A home channel of a layer in lock again: its last column writes are repeated, and it resumes through a full Steep window. -/
def State.resumeHome (stopNs : Nat) (t : State) (m : Nat) : State :=
  let t := t.peak (chanKey m 0xC7) stopNs (2 ^ 32 - 1)
  let t := t.modChan m (fun c => { c.repeatWrites with stopped := false })
  match (t.chan m).st with
  | .inSr => t.srx m true
  | .exiting => t.modChan m (fun c => { c with fullExit := true })
  | .serving => t.modChan m (fun c => { c with st := .steep, fullExit := true })
  | _ => t

theorem State.chan_count (s : State) (k n m : Nat) : (s.count k n).chan m = s.chan m := by rw [State.chan, State.count_chans, State.chan]

/-- A channel that resumes is the only one to change, and no layer does. -/
theorem State.resumeHome_frame (stopNs : Nat) (t : State) (m : Nat) : (t.resumeHome stopNs m).layers = t.layers ∧
    (∀ j, j ≠ m → (t.resumeHome stopNs m).chan j = t.chan j) ∧ ((t.resumeHome stopNs m).chan m).stopped = false ∧
    ((t.chan m).st = .serving → ((t.resumeHome stopNs m).chan m).st = .steep ∧ ((t.resumeHome stopNs m).chan m).fullExit = true) := by
  have hstart (j : Nat) : ((t.peak (chanKey m 0xC7) stopNs (2 ^ 32 - 1)).modChan m
      (fun c => { c.repeatWrites with stopped := false })).chan j =
      if j = m then { (t.chan m).repeatWrites with stopped := false } else t.chan j := State.chan_modChan _ m _ j
  unfold State.resumeHome
  extract_lets recorded started
  have hlayers : started.layers = t.layers := rfl
  change ∀ j, started.chan j = _ at hstart
  clear_value started
  have hst : (started.chan m).st = (t.chan m).st := by rw [hstart, if_pos rfl]; rfl
  have hstopped : (started.chan m).stopped = false := by rw [hstart, if_pos rfl]
  have hother (j : Nat) (hj : j ≠ m) : started.chan j = t.chan j := by rw [hstart, if_neg hj]
  rw [← hst]
  split
  case h_1 hasleep => simp +contextual [State.srx, State.chan_count, hlayers, hother, hstopped, hasleep]
  case h_2 hexits => simp +contextual [hlayers, hother, hstopped, hexits]
  case h_3 hserves => simp +contextual [hlayers, hother, hstopped]
  case h_4 hserves => exact ⟨hlayers, hother, hstopped, fun h => (hserves h).elim⟩

theorem State.relockEnd_locks (stopNs : Nat) (hpower : s.chanPowered = true) (hst : (s.layer k).st = 4) :
    s.relockEnd k true stopNs = (s.relocked k).each (s.homedOn k) (State.resumeHome stopNs) := by
  rw [State.relockEnd, if_neg (by simp [hpower, hst]), if_pos rfl]
  rfl

theorem State.relockEnd_misses (stopNs : Nat) (hpower : s.chanPowered = true) (hst : (s.layer k).st = 4) :
    s.relockEnd k false stopNs = if 3 ≤ (s.layer k).attempts + 1 then s.layerFail k 3
      else s.setLayer k { s.layer k with
        attempts := (s.layer k).attempts + 1, supply := if (s.layer k).supply = 2 then 2 else 1 } := by
  rw [State.relockEnd, if_neg (by simp [hpower, hst]), if_neg (by decide)]

/-- In lock again, the layer is what it was, and its home channels resume, one that served through a full Steep window. -/
theorem State.relockEnd_frame (stopNs : Nat) (hpower : s.chanPowered = true) (hst : (s.layer k).st = 4) :
    (s.relockEnd k true stopNs).layer k = (s.layer k).relocked (s.refSlotOf k) ∧
      ∀ m ∈ s.homedOn k, ((s.relockEnd k true stopNs).chan m).stopped = false ∧
        ((s.chan m).st = .serving → ((s.relockEnd k true stopNs).chan m).st = .steep ∧
          ((s.relockEnd k true stopNs).chan m).fullExit = true) := by
  rw [State.relockEnd_locks stopNs hpower hst]
  refine ⟨?_, fun m hm => ?_⟩
  · have hlayers := (s.relocked k).each_keeps (fun t => t.layers = (s.relocked k).layers) (s.homedOn k)
      (State.resumeHome stopNs) rfl fun t n ht => (t.resumeHome_frame stopNs n).1.trans ht
    rw [State.layer, hlayers]
    exact (s.layer_setLayer k _ k).trans (if_pos rfl)
  · obtain ⟨t, ht, hend⟩ := State.each_at (fun t : State => t.chan m)
      (fun t n hn => (t.resumeHome_frame stopNs n).2.1 m hn.symm) (s.homedOn_nodup k) hm (s.relocked k)
    obtain ⟨-, -, hstopped, hserves⟩ := t.resumeHome_frame stopNs m
    rw [hend]
    exact ⟨hstopped, fun h => hserves (ht ▸ h)⟩

/-! ### The frequency window (R262) and the joint (R259) -/

theorem State.layerFreq_records (ppm : Int) (hpower : s.chanPowered = true) (hsupply : (s.layer k).supply ≠ 0) :
    s.layerFreq k ppm = if (s.layer k).locked = true ∧ (1000 < ppm ∨ ppm < -1000)
      then (s.rset (ekey 0x1C00 (0x60 + k)) (i20 ppm)).loseLock k else s.rset (ekey 0x1C00 (0x60 + k)) (i20 ppm) := by
  rw [State.layerFreq, if_pos (by simp [hpower, hsupply])]
  exact if_congr (by rw [Bool.and_eq_true, decide_eq_true_eq]; rfl) rfl rfl

theorem State.jointFail_word (bundle attempt : Nat) (h : s.boot ≠ .held) : s.jointFail bundle attempt false =
    (let k := ekey 0x1C00 0x7B
     let w := nset (s.rget k) 1 (nbit (s.rget k) 1 || decide (attempt = 4))
     let t := s.rset k (w - nfield w 22 14 * 2 ^ 14 + bundle * 2 ^ 14)
     if attempt < 4 then t.count (ekey 0x1C00 0x7C) 1 else if attempt = 4 then t.report 20 else t) := by
  rw [State.jointFail, if_neg h]
  rfl

theorem State.jointFail_calibration (bundle attempt : Nat) (h : s.boot = .sensing) : s.jointFail bundle attempt true =
    { s with boot := .jointFailed, faults := { s.faults with jointPin := true } } := by
  rw [State.jointFail, if_neg (by simp [h]), if_pos rfl, if_pos h]

end

/-- Settles O42: the loss of lock is `State.loseLock_frame`, the end of an attempt `State.relockEnd_frame` or
`State.relockEnd_misses`. -/
theorem layersLoseAndRegainLock : Obligations.LayersLoseAndRegainLock := by
  intro s
  refine ⟨fun k hk hpower => ?_, fun bundle attempt hbundle hattempt hboot => ?_⟩
  · intro l
    have hloss : exec (.layerLossOfLock k) s = .next (s.loseLock k).settle := by
      rw [← State.layerLoss_powered hpower]
      exact finish_wf (decide_eq_true hk) _
    have hend (locked : Bool) (ns : Nat) : exec (.relockAttemptEnd k locked ns) s = .next (s.relockEnd k locked ns).settle :=
      finish_wf (decide_eq_true hk) _
    refine ⟨fun hlocked => ⟨hloss, ?_⟩, fun hlocked => ?_, fun ns hst => ⟨_, hend true ns, ?_⟩, fun ns hst => ?_,
      fun ppm hppm hsupply => ?_⟩
    · obtain ⟨hlayer, hready, hchan⟩ := State.loseLock_frame hlocked
      refine ⟨?_, fun j hj => ?_, hready, hchan⟩
      · rw [hlayer, if_pos rfl]
        rfl
      · rw [hlayer, if_neg hj]
    · rw [hloss, State.loseLock_unlocked hlocked]
    · obtain ⟨hlayer, hchans⟩ := State.relockEnd_frame ns hpower hst
      exact ⟨hlayer, hchans⟩
    · rw [hend false ns, State.relockEnd_misses ns hpower hst]
    · have hfreq : exec (.layerFreqWindowClose k ppm) s = .next (s.layerFreq k ppm).settle :=
        finish_wf (Bool.and_eq_true_iff.mpr ⟨decide_eq_true hk, hppm⟩) _
      rw [hfreq, State.layerFreq_records ppm hpower hsupply]
  · have hword (calib : Bool) : exec (.jointWordFail bundle attempt calib) s = .next (s.jointFail bundle attempt calib).settle :=
      finish_wf (Bool.and_eq_true_iff.mpr ⟨decide_eq_true hbundle, decide_eq_true hattempt⟩) _
    intro key w t
    refine ⟨?_, fun hsensing => ?_⟩
    · rw [hword false, State.jointFail_word bundle attempt hboot]
    · rw [hword true, State.jointFail_calibration bundle attempt hsensing]

end Sys2Proof.Machine
end

section
/-!
PROOFS. Slice0/Evacuation: the last slice of a hop draws the free values of its margins when its refresh has been counted (R267,
R275), and a counter that passes its end draws one before them.
-/

namespace Sys2Proof.Machine

/-! ### Counters and free values -/

/-- A counter that stays small takes no free value. -/
theorem State.count_free_small (s : State) (k n : Nat) (h : s.rget k + n < 256) : (s.count k n).free = s.free := by
  rw [State.count, if_pos h, State.rset_free]

/-- A counter of 32 bits that passes its end takes one. -/
theorem State.count_free_past (s : State) (k n : Nat) (hrow : (entryRow k).map EntryRow.ty = some .u32)
    (hpast : 2 ^ 32 ≤ s.rget k + n) : (s.count k n).free = s.free + 1 := by
  obtain ⟨r, hr, hty⟩ := Option.map_eq_some_iff.mp hrow
  simp only [State.count, hr, hty, ETy.bits]
  rw [if_neg (by omega), if_neg hpast.not_gt]
  rfl

@[simp] theorem State.countActs_free (s : State) (m n : Nat) : (s.countActs m n).free = s.free := rfl
@[simp] theorem State.countActs_repair (s : State) (m n : Nat) : (s.countActs m n).repair = s.repair := rfl
@[simp] theorem State.chan_countActs (s : State) (m n j : Nat) : (s.countActs m n).chan j = s.chan j := rfl
@[simp] theorem State.rget_countActs (s : State) (m n k : Nat) : (s.countActs m n).rget k = s.rget k := rfl
@[simp] theorem State.calm_countActs (s : State) (m n : Nat) : (s.countActs m n).calm = s.calm := rfl

/-! ### The last slice of a hop (R275) -/

section
variable {s : State} {m : Nat} {env : ChanEnv}

/-- A refresh command changes its channel, with the column as it was, and two counts. -/
theorem State.refreshCmd_eq (s : State) (m : Nat) : ∃ c : Chan,
    s.refreshCmd m = ((s.setChan m c).count (chanKey m 0x84) 1).countActs m 1 ∧ c.vl = (s.chan m).vl := ⟨_, rfl, rfl⟩

/-- The state in which the refresh command of a slice has issued and has been counted. -/
def State.sliceIssued (s : State) (m : Nat) (env : ChanEnv) : State := (s.refreshCmd m).caCount m env

theorem State.sliceIssued_frame (hm : m < 128) : ((s.sliceIssued m env).chan m).vl = (s.chan m).vl ∧
    (s.sliceIssued m env).repair = s.repair ∧ (s.sliceIssued m env).calm = s.calm := by
  have hkey (sub : Nat) (hsub : sub < 256) : chanKey m sub ≠ kHardenAuto := by simp only [chanKey, ekey, kHardenAuto]; omega
  obtain ⟨c, hcmd, hvl⟩ := s.refreshCmd_eq m
  rw [State.sliceIssued, State.caCount, hcmd]
  refine ⟨?_, ?_, ?_⟩
  · rw [State.chan_count, State.chan_count, State.chan_countActs, State.chan_count, State.chan_setChan, if_pos rfl, hvl]
  · simp only [State.count_repair, State.countActs_repair, State.setChan_repair]
  · rw [State.calm_count _ _ _ (hkey _ (by decide)), State.calm_count _ _ _ (hkey _ (by decide)), State.calm_countActs,
      State.calm_count _ _ _ (hkey _ (by decide)), State.calm_setChan]

/-- The channel has the hop that its last slice has trained. -/
def Chan.hopDone (c : Chan) : Chan := { c with vl := { c.vl with extSlices := 0, extHops := c.vl.extHops + 1 } }

/-- The state in which that hop has been measured. -/
def State.hopMeasured (s : State) (m : Nat) : State := (s.modChan m Chan.hopDone).measure m

theorem State.chan_hopMeasured : (s.hopMeasured m).chan m = { s.chan m with
    vl := { (s.chan m).vl with extSlices := 0, extHops := (s.chan m).vl.extHops + 1, measured := s.free } } := by
  have htick (t : State) : t.tick.chan m = t.chan m := rfl
  rw [State.hopMeasured, State.measure, htick, State.chan_modChan, if_pos rfl, State.chan_modChan, if_pos rfl]
  rfl

theorem State.hopMeasured_repair : (s.hopMeasured m).repair = s.repair := by
  rw [State.hopMeasured, State.measure, State.tick_repair, State.modChan_repair, State.modChan_repair]

theorem State.hopMeasured_calm : (s.hopMeasured m).calm = s.calm := by
  rw [State.hopMeasured, State.measure, State.calm_tick, State.calm_modChan, State.calm_modChan]

theorem exec_extensionSlice {fails : List Site} {ok : Bool} (h : (Instr.extensionSlice ⟨m, env⟩ ⟨fails, ok⟩).wf = true) :
    exec (.extensionSlice ⟨m, env⟩ ⟨fails, ok⟩) s = .next (s.extensionSlice m fails ok env).settle := finish_wf h _

/-- With further hops left, the last slice of a hop only adds the hop to the column and has its margins measured. -/
theorem State.extensionSlice_hop (hm : m < 128) (hextends : s.repair.evacState = 2) (hchan : (s.chan m).rep.evac = 1)
    (hawake : (s.chan m).st ≠ .inSr) (hopens : s.windowOpens m = true) (hinterim : (s.chan m).interimStop = false)
    (hlast : (s.chan m).vl.extSlices = 255) (hleft : 1 < s.hopsLeft m) :
    s.extensionSlice m [] true env = (s.sliceIssued m env).hopMeasured m := by
  rw [State.extensionSlice, if_neg (by simp [hextends, hchan]), if_neg hawake, if_neg (by simp [hopens, hinterim]), if_neg (by decide)]
  simp only [hlast, Nat.reduceAdd, Nat.le_refl, decide_true, if_true, State.spareHop, List.filter_nil, List.foldl_nil, Bool.not_true,
    Bool.false_eq_true, if_false]
  refine if_pos (show 0 < ((s.sliceIssued m env).hopMeasured m).hopsLeft m from ?_)
  obtain ⟨hvl, hrepair, -⟩ := State.sliceIssued_frame (s := s) (env := env) hm
  simp only [State.hopsLeft, State.home, State.chan_hopMeasured, State.hopMeasured_repair, hvl, hrepair] at hleft ⊢
  omega

/-- That state in the words of the statement: the margins have the free values that come first before the slice. -/
def State.hopStated (s : State) (m : Nat) (env : ChanEnv) : State :=
  let issued := s.sliceIssued m env
  let done := issued.chan m
  { issued.setChan m { done with vl := { done.vl with
      extSlices := 0, extHops := (s.chan m).vl.extHops + 1, measured := s.free } } with free := s.free + 1 }

theorem State.hopStated_calm : (s.hopStated m env).calm = (s.sliceIssued m env).calm := rfl

theorem State.hopStated_measured : ((s.hopStated m env).chan m).vl.measured = s.free :=
  congrArg (fun c => c.vl.measured) (((s.sliceIssued m env).chan_setChan m _ m).trans (if_pos rfl))

end

/-! ### A counter at its end -/

/-- The number of the free values that the margins of C17 have after a step. -/
def marginsOf17 : Host.Outcome State Fault Refusal → Option Nat
  | .next t => some (t.chan 17).vl.measured
  | _ => none

/-- A stack in service that evacuates L2 to L16. C17 has the last slice of its first hop to come, with one unit of refresh debt to
open the window, and its CA_REISSUE counter is at the end of its 32 bits. -/
def hopEnding : State :=
  { State.reset with
    boot := .up, mapBuilt := true, map := List.range 128, regs := [(chanKey 17 0xC6, 2 ^ 32 - 1)]
    layers := [(2, { st := 6, locked := true }), (16, { st := 7, locked := true, supply := 2 })]
    repair := { evacState := 2, evacSrc := 2, evacDst := 16 }
    chans := [(17, { ref := { debt := 2 }, rep := { evac := 1 }, vl := { extSlices := 255 } })] }

/-- The command of its refresh is reissued once. -/
def reissuedOnce : ChanEnv := { caBad := 1 }

/-- That takes CA_REISSUE past its end, and with it free value 0; REF_ISSUED and CA_CORR count within their types. -/
theorem hopEnding_issued_free : (hopEnding.sliceIssued 17 reissuedOnce).free = 1 := by
  obtain ⟨c, hcmd, -⟩ := hopEnding.refreshCmd_eq 17
  have hissued : ((hopEnding.setChan 17 c).count (chanKey 17 0x84) 1).free = 0 :=
    State.count_free_small _ _ _ (by rw [State.rget_setChan]; decide +kernel)
  have hstored (sub : Nat) (hsub : chanKey 17 sub ≠ chanKey 17 0x84) :
      (((hopEnding.setChan 17 c).count (chanKey 17 0x84) 1).countActs 17 1).rget (chanKey 17 sub) =
        hopEnding.rget (chanKey 17 sub) := by
    rw [State.rget_countActs, State.count_rget_other _ _ _ _ hsub, State.rget_setChan]
  have hcorrected := hstored 0xC5 (by decide)
  have hreissued := (State.count_rget_other _ (chanKey 17 0xC5) reissuedOnce.caCorr _ (by decide)).trans (hstored 0xC6 (by decide))
  rw [State.sliceIssued, State.caCount, hcmd, State.count_free_past, State.count_free_small, State.countActs_free, hissued]
  · rw [hcorrected]; decide +kernel
  · decide +kernel
  · rw [hreissued]; decide +kernel

theorem hopEnding_issued_calm : (hopEnding.sliceIssued 17 reissuedOnce).calm = true := by
  obtain ⟨-, -, hcalm⟩ := State.sliceIssued_frame (s := hopEnding) (m := 17) (env := reissuedOnce) (by decide)
  rw [hcalm]
  decide +kernel

theorem extensionSlice_hopEnding_margins : marginsOf17 (exec (.extensionSlice ⟨17, reissuedOnce⟩ ⟨[], true⟩) hopEnding) = some 1 := by
  have hslice : hopEnding.extensionSlice 17 [] true reissuedOnce = (hopEnding.sliceIssued 17 reissuedOnce).hopMeasured 17 :=
    State.extensionSlice_hop (by decide) rfl rfl (by decide) (by decide +kernel) (by decide) rfl (by decide)
  rw [exec_extensionSlice (by decide +kernel), hslice, State.settle_calm _ (by rw [State.hopMeasured_calm, hopEnding_issued_calm]),
    marginsOf17, State.chan_hopMeasured, hopEnding_issued_free]

theorem hopStated_hopEnding_margins : marginsOf17 (.next (hopEnding.hopStated 17 reissuedOnce).settle) = some 0 := by
  rw [State.settle_calm _ (by rw [State.hopStated_calm, hopEnding_issued_calm]), marginsOf17, State.hopStated_measured]
  rfl

/-- Refutes O45: where hops are left after the one that is done, the statement gives its margins the free values that come first
before the slice. But the slice's refresh command is counted before the margins are measured, and a counter that passes the end of
its type, as CA_REISSUE does here, takes a free value of its own (log entry 12): those of the margins come one later. -/
theorem not_evacuationMovesALayer : ¬ Obligations.EvacuationMovesALayer := by
  unfold Obligations.EvacuationMovesALayer
  intro h
  obtain ⟨-, -, -, hchan⟩ := h hopEnding
  obtain ⟨hslice, -⟩ := hchan 17 (by decide)
  obtain ⟨-, hhop, -⟩ := hslice reissuedOnce (by decide +kernel) rfl rfl (by decide) (by decide +kernel) (by decide)
  have hended : exec (.extensionSlice ⟨17, reissuedOnce⟩ ⟨[], true⟩) hopEnding = .next (hopEnding.hopStated 17 reissuedOnce).settle :=
    hhop rfl (by decide)
  have hmargins : some 1 = some 0 := extensionSlice_hopEnding_margins.symm.trans (hended ▸ hopStated_hopEnding_margins)
  exact absurd hmargins (by decide)

end Sys2Proof.Machine
end

section
/-!
PROOFS. Slice0/Events: a pending EVENT leaves on a link as a message of one flit (R70, R385).
-/

namespace Sys2Proof.Machine

/-- Starting an EVENT moves the three tie-breaks on, spends one MGMT credit, and puts the message of the chosen code in place. -/
theorem State.startMsg_event (s : State) (n c : Nat) (hst : (s.link n).st = .active ∨ (s.link n).st = .laneSwitch)
    (hcode : tieBreak (s.link n).tx.eventPtr (s.link n).events = some c) :
    s.startMsg n (2, .event) = s.modLink n (fun l => { l with
      events := l.events.filter (fun x => decide (x ≠ c)),
      tx := { l.tx with vcPtr := 3, mgmtPtr := 0, eventPtr := (c + 1) % 384, credMgmt := l.tx.credMgmt - 1, qdatMsg := false,
                        msgTags := [], msg := eventMessage c } }) := by
  rw [State.startMsg, State.startEvent,
    State.modLink_modLink _ _ _ _ (Link.ne_default_of_st _ (Link.st_ne_detect (l := { s.link n with tx := _ }) hst))]
  refine State.modLink_congr _ _ ?_
  simp only [hcode]

/-- Settles O9: the row starts the message that the tie-breaks choose, and the message of an EVENT is one flit. -/
theorem eventLeavesAsOneFlitMessage : Obligations.EventLeavesAsOneFlitMessage := by
  intro s n c hn hc hcalm hlive hst hidle hnext hcode
  have hchosen : s.eventSend n = s.startMsg n (2, .event) := if_pos (by simp [hlive, hst, hidle, hnext])
  refine exec_quiet (t := s.eventSend n) rfl (decide_eq_true hn) ?_ hcalm
  rw [hchosen, s.startMsg_event n c hst hcode, eventMessage, eventFlit c hc]

end Sys2Proof.Machine
end

section
/-!
PROOFS. Slice0/Tap: which instructions of the test access port are open, and what an open, a reserved and a closed one do (R301).
-/

namespace Sys2Proof.Machine

/-! ### What is open (Table 4) -/

/-- The rows of Table 4: when the instruction of a code is open. -/
def State.TapOpens (s : State) (code : Nat) : Prop :=
  code = 0xFF ∨ code = 0x01 ∨ (code = 0x02 ∧ (s.lc.st = .mfg ∨ s.lc.st = .ret)) ∨
    (code ∈ [0x03, 0x04, 0x05, 0x10, 0x20] ∧ (s.lc.st = .mfg ∨ s.lc.st = .ret) ∧ s.therm.testHeld = true) ∨
    (0x80 ≤ code ∧ code ≤ 0xFE ∧ s.lc.st = .mfg ∧ s.therm.testHeld = true)

theorem tapKnown_iff {code : Nat} : tapKnown code = true ↔
    code ∈ [0xFF, 0x01, 0x02, 0x03, 0x04, 0x05, 0x10, 0x20] ∨ (0x80 ≤ code ∧ code ≤ 0xFE) := decide_eq_true_iff

theorem State.tapOpen_iff {s : State} {code : Nat} : s.tapOpen code = true ↔ s.TapOpens code := by
  simp only [State.tapOpen, State.TapOpens]
  split
  case isTrue h => rcases h with rfl | rfl <;> simp
  case isFalse hfree =>
    split
    case isTrue h => subst h; simp
    case isFalse hsample =>
      split
      case isTrue h => simp [hsample, h]; grind
      case isFalse htest => simp [tapKnown_iff]; grind

theorem State.TapOpens.known {s : State} {code : Nat} (h : s.TapOpens code) : tapKnown code = true := by
  rw [tapKnown_iff]
  rcases h with h | h | ⟨h, -⟩ | ⟨h, -⟩ | ⟨hlow, hhigh, -⟩
  · simp [h]
  · simp [h]
  · simp [h]
  · exact .inl (List.mem_of_mem_tail (List.mem_of_mem_tail (List.mem_of_mem_tail h)))
  · exact .inr ⟨hlow, hhigh⟩

/-! ### Loading an instruction -/

section
variable {s : State} {code : Nat}

/-- The instruction in the register, its data register selected, the pins as it drives them. -/
def State.tapLoads (s : State) (code : Nat) (r : TapReg) (drive : Nat) : State :=
  { s with tap := { s.tap with ir := code, sel := r, drive := drive } }

theorem State.tapUpdate_open (h : s.TapOpens code) :
    s.tapUpdate code = s.tapLoads code (tapSelect code) (tapDrive code) := by
  rw [State.tapUpdate, if_neg (by simp [h.known]), if_pos (State.tapOpen_iff.mpr h)]
  rfl

theorem State.tapUpdate_reserved (h : tapKnown code = false) : s.tapUpdate code = s.tapLoads code .bypass 0 :=
  if_pos (by simp [h])

theorem State.tapUpdate_closed (hknown : tapKnown code = true) (h : ¬ s.TapOpens code) :
    s.tapUpdate code = (s.tapLoads 0xFF .bypass 0).count (ekey 0x4800 0x12) 1 := by
  rw [State.tapUpdate, if_neg (by simp [hknown]), if_neg (fun hopen => h (State.tapOpen_iff.mp hopen))]
  rfl

/-- An open instruction is loaded, and its data registers are shifted. -/
theorem State.tapRun_open (f : State → State) (h : s.TapOpens code) :
    s.tapRun code f = f (s.tapLoads code (tapSelect code) (tapDrive code)) := by
  rw [State.tapRun, if_pos (State.tapOpen_iff.mpr h), State.tapUpdate_open h]

/-- One that is not open only takes the place of the one before, as TAP_UPDATE_IR says. -/
theorem State.tapRun_closed (f : State → State) (h : ¬ s.TapOpens code) : s.tapRun code f = s.tapUpdate code :=
  if_neg (fun hopen => h (State.tapOpen_iff.mp hopen))

end

/-- A vendor instruction selects the vendor register and leaves the pins. -/
theorem tapSelect_vendor {code : Nat} (hlow : 0x80 ≤ code) (hhigh : code ≤ 0xFE) : tapSelect code = .vendor ∧ tapDrive code = 0 := by
  have hne {k : Nat} (hk : k < 0x80) : code ≠ k := by omega
  simp only [tapSelect, tapDrive, hne (by decide : 0x01 < 0x80), hne (by decide : 0x02 < 0x80), hne (by decide : 0x03 < 0x80),
    hne (by decide : 0x04 < 0x80), hne (by decide : 0x05 < 0x80), hne (by decide : 0x10 < 0x80), hne (by decide : 0x20 < 0x80),
    hlow, hhigh, or_self, and_self, if_false, if_true]

/-- What the identification register reads is not changed by loading an instruction. -/
theorem State.idcode_tapLoads (s : State) (code : Nat) (r : TapReg) (drive : Nat) : (s.tapLoads code r drive).idcode =
    s.shadowField 0 31 28 * 2 ^ 28 + 0x6400 * 2 ^ 12 + s.shadowField 0 10 0 * 2 + 1 := by
  rw [State.idcode]
  rfl

/-! ### The rows -/

theorem exec_tapUpdateIr (s : State) {code : Nat} (h : code < 256) : exec (.tapUpdateIr code) s = .next (s.tapUpdate code).settle :=
  finish_wf (decide_eq_true h) _

theorem exec_tapIdcode (s : State) : exec .tapIdcode s = .next s.tapIdcodeRun.settle := finish_wf rfl _

theorem exec_tapSamplePreload (s : State) (pins cells : Nat) :
    exec (.tapSamplePreload pins cells) s = .next (s.tapSample pins cells).settle := finish_wf rfl _

theorem exec_tapExtest (s : State) (cells : Nat) : exec (.tapExtest cells) s = .next (s.tapExtestRun cells).settle := finish_wf rfl _

theorem exec_tapWrapper (s : State) {core : Nat} (wir : Nat) (h : core < 2) :
    exec (.tapWrapper core wir) s = .next (s.tapWrap core wir).settle := finish_wf (decide_eq_true h) _

theorem exec_tapLayer (s : State) {layer : Nat} (cfg : Nat) (h : layer < 18) :
    exec (.tapLayer layer cfg) s = .next (s.tapLayerRun layer cfg).settle := finish_wf (decide_eq_true h) _

theorem exec_tapVendor (s : State) {code : Nat} (h : code < 256) : exec (.tapVendor code) s = .next (s.tapVendorRun code).settle :=
  finish_wf (decide_eq_true h) _

/-- Settles O48: a row loads its instruction by `tapUpdate`, and what is open then shifts its registers. -/
theorem tapSelectsOpenInstructions : Obligations.TapSelectsOpenInstructions := by
  intro s test held opens loads gives
  have always (code : Nat) (h : code = 0xFF ∨ code = 0x01) : s.TapOpens code := h.elim .inl (fun h => .inr (.inl h))
  have inTest (htest : test) : s.TapOpens 0x02 := .inr (.inr (.inl ⟨rfl, htest⟩))
  have inHold {code : Nat} (htest : test) (hheld : held) (h : code ∈ [0x03, 0x04, 0x05, 0x10, 0x20]) : s.TapOpens code :=
    .inr (.inr (.inr (.inl ⟨h, htest, hheld⟩)))
  have runs (i : Instr) (code : Nat) (f : State → State) (hexec : exec i s = .next (s.tapRun code f).settle) (h : s.TapOpens code) :
      gives i (f (loads code (tapSelect code) (tapDrive code))) := by
    show exec i s = _
    rw [hexec, State.tapRun_open f h]
    rfl
  have closed (i : Instr) (code : Nat) (f : State → State) (hcode : code < 256)
      (hexec : exec i s = .next (s.tapRun code f).settle) (h : ¬ opens code) : exec i s = exec (.tapUpdateIr code) s := by
    rw [hexec, State.tapRun_closed f h, exec_tapUpdateIr s hcode]
  refine ⟨fun code hcode => ⟨fun hopen => ?_, fun hlisted hlow => ?_, fun hknown hclosed => ?_⟩, ?_, ?_, fun pins cells htest => ?_,
    fun htest hheld => ⟨fun cells => ?_, ?_, ?_, fun wir => ⟨?_, ?_⟩, fun layer cfg hlayer => ?_⟩, fun code hlow hhigh hopen => ?_,
    fun pins cells core wir layer cfg code hcore hlayer hcode => ⟨?_, ?_, ?_, ?_, ?_, ?_, fun hclosed => ?_⟩, rfl⟩
  · show exec _ s = _
    rw [exec_tapUpdateIr s hcode, State.tapUpdate_open hopen]
    rfl
  · have hreserved : tapKnown code = false := by
      simp only [List.mem_cons, List.not_mem_nil, or_false, not_or] at hlisted
      rw [Bool.eq_false_iff, Ne, tapKnown_iff]
      simp only [List.mem_cons, List.not_mem_nil, or_false]
      omega
    show exec _ s = _
    rw [exec_tapUpdateIr s hcode, State.tapUpdate_reserved hreserved]
    rfl
  · have hlisted : tapKnown code = true := by
      simp only [List.mem_cons, List.not_mem_nil, or_false] at hknown
      rw [tapKnown_iff]
      simp only [List.mem_cons, List.not_mem_nil, or_false]
      omega
    show exec _ s = _
    rw [exec_tapUpdateIr s hcode, State.tapUpdate_closed hlisted hclosed]
    rfl
  · exact (runs .tapBypass 0xFF id rfl (always _ (.inl rfl)) :)
  · show exec _ s = _
    rw [exec_tapIdcode, State.tapIdcodeRun, State.tapRun_open _ (always _ (.inr rfl)), State.idcode_tapLoads]
    rfl
  · exact (runs (.tapSamplePreload pins cells) 0x02 _ (exec_tapSamplePreload s pins cells) (inTest htest) :)
  · exact (runs (.tapExtest cells) 0x03 _ (exec_tapExtest s cells) (inHold htest hheld (by decide)) :)
  · exact (runs .tapClamp 0x04 id rfl (inHold htest hheld (by decide)) :)
  · exact (runs .tapHighz 0x05 id rfl (inHold htest hheld (by decide)) :)
  · exact (runs (.tapWrapper 0 wir) 0x10 _ (exec_tapWrapper s wir (by decide)) (inHold htest hheld (by decide)) :)
  · exact (runs (.tapWrapper 1 wir) 0x10 _ (exec_tapWrapper s wir (by decide)) (inHold htest hheld (by decide)) :)
  · exact (runs (.tapLayer layer cfg) 0x20 _ (exec_tapLayer s cfg hlayer) (inHold htest hheld (by decide)) :)
  · show exec _ s = _
    obtain ⟨hselect, hdrive⟩ := tapSelect_vendor hlow hhigh
    rw [exec_tapVendor s (by omega), State.tapVendorRun, if_pos ⟨hlow, hhigh⟩, State.tapRun_open _ hopen, hselect, hdrive]
    rfl
  · exact (closed (.tapSamplePreload pins cells) 0x02 _ (by decide) (exec_tapSamplePreload s pins cells) :)
  · exact (closed (.tapExtest cells) 0x03 _ (by decide) (exec_tapExtest s cells) :)
  · exact (closed .tapClamp 0x04 id (by decide) rfl :)
  · exact (closed .tapHighz 0x05 id (by decide) rfl :)
  · exact (closed (.tapWrapper core wir) 0x10 _ (by decide) (exec_tapWrapper s wir hcore) :)
  · exact (closed (.tapLayer layer cfg) 0x20 _ (by decide) (exec_tapLayer s cfg hlayer) :)
  · rw [exec_tapVendor s hcode, exec_tapUpdateIr s hcode, State.tapVendorRun, State.tapRun_closed _ hclosed, ite_self]

end Sys2Proof.Machine
end

section
/-!
PROOFS. Slice0/Reports: what a report and a level source leave of the collector, and the bits of its registers (R377–R382).
-/

namespace Sys2Proof.Machine

/-! ### Bits of a register -/

theorem getLsbD_two_pow {w : Nat} {n : Nat} (hn : n < w) (i : Nat) : (BitVec.ofNat w (2 ^ n)).getLsbD i = decide (i = n) := by
  rw [BitVec.getLsbD_ofNat, Nat.testBit_two_pow]
  by_cases h : i = n
  · simp [h, hn]
  · simp [h, Ne.symm h]

/-- Writing a bit sets that bit and no other. -/
theorem getLsbD_vset {w : Nat} (v : BitVec w) {n : Nat} (hn : n < w) (b : Bool) (i : Nat) :
    (vset v n b).getLsbD i = if i = n then b else v.getLsbD i := by
  by_cases h : i = n
  · rw [if_pos h, h, vset_getLsbD v n b hn]
  · rw [if_neg h]
    cases b
    · rw [vset, if_neg (by decide), BitVec.getLsbD_and, BitVec.getLsbD_not, getLsbD_two_pow hn, decide_eq_false h, Bool.not_false,
        Bool.and_true]
      exact Bool.and_eq_left_iff_imp.mpr fun hv => decide_eq_true (BitVec.lt_of_getLsbD hv)
    · rw [vset_true_getLsbD v hn, decide_eq_false h, Bool.or_false]

/-! ### A report (R378, R381) -/

/-- The sticky bit of a source is set. -/
def State.latched (s : State) (n : Nat) : State := { s with faults := { s.faults with sticky := vset s.faults.sticky n true } }

/-- A chip reset is asked for, and the reset of a block. -/
def State.asksChip (s : State) (n : Nat) : State := { s with faults := { s.faults with chipReq := insertOnce s.faults.chipReq n } }
def State.asksBlock (s : State) (code inst : Nat) : State :=
  { s with faults := { s.faults with blockReq := s.faults.blockReq ++ [(code, inst)] } }

/-- What a report that reaches the collector does, by its mask and its bit before. -/
theorem State.reportAt_eq (s : State) (n code inst : Nat) : s.reportAt n code inst =
    if s.boot = .held ∨ s.faults.equal.getLsbD n = true then s
    else if isLevel n && s.faults.sticky.getLsbD n then s.latched n
    else if nbit (s.reaction n) 3 && !s.faults.disarmed.getLsbD n then (s.latched n).asksChip n
    else if nbit (s.reaction n) 2 && (sourceBlock n).isSome then
      (if s.faults.sticky.getLsbD n then s.latched n else (s.latched n).onset n (s.reaction n)
        (nbit (s.reaction n) 2 && (sourceBlock n).isSome && decide (code = 5))).asksBlock code inst
    else if s.faults.sticky.getLsbD n then s.latched n else (s.latched n).onset n (s.reaction n)
      (nbit (s.reaction n) 2 && (sourceBlock n).isSome && decide (code = 5)) := rfl

/-- Of the collector nothing changes but the sticky bits, the traps and the resets asked for. -/
structure SameLevels (s t : State) : Prop where
  now : t.faults.now = s.faults.now
  equal : t.faults.equal = s.faults.equal
  wire : t.faults.wire = s.faults.wire
  disarmed : t.faults.disarmed = s.faults.disarmed

namespace SameLevels

variable {s t u : State}

theorem trans (h : SameLevels s t) (h' : SameLevels t u) : SameLevels s u :=
  ⟨h'.now.trans h.now, h'.equal.trans h.equal, h'.wire.trans h.wire, h'.disarmed.trans h.disarmed⟩

theorem congr (h : SameLevels s t) (hf : u.faults = t.faults) : SameLevels s u :=
  ⟨hf ▸ h.now, hf ▸ h.equal, hf ▸ h.wire, hf ▸ h.disarmed⟩

theorem ite {c : Prop} [Decidable c] (ht : SameLevels s t) (hu : SameLevels s u) : SameLevels s (if c then t else u) := by
  split
  · exact ht
  · exact hu

theorem trap (h : SameLevels s t) (n : Nat) (wait : Bool) : SameLevels s (t.trap n wait) :=
  .ite ⟨h.now, h.equal, h.wire, h.disarmed⟩ ⟨h.now, h.equal, h.wire, h.disarmed⟩

theorem onset (h : SameLevels s t) (n mask : Nat) (wait : Bool) : SameLevels s (t.onset n mask wait) :=
  have hevent : SameLevels s (if nbit mask 0 then t.queueEvent n else t) := .ite (h.congr (t.queueEvent_faults n)) h
  .ite (hevent.trap n wait) hevent

theorem latched (n : Nat) : SameLevels s (s.latched n) := ⟨rfl, rfl, rfl, rfl⟩

theorem reportAt (n code inst : Nat) : SameLevels s (s.reportAt n code inst) := by
  have honset (wait : Bool) : SameLevels s (if s.faults.sticky.getLsbD n then s.latched n else
      (s.latched n).onset n (s.reaction n) wait) := .ite (.latched n) ((latched n).onset _ _ _)
  rw [State.reportAt_eq]
  exact .ite ⟨rfl, rfl, rfl, rfl⟩ <| .ite (.latched n) <| .ite ⟨rfl, rfl, rfl, rfl⟩ <|
    .ite ((honset _).trans ⟨rfl, rfl, rfl, rfl⟩) (honset _)

end SameLevels

section
variable (s : State) (n i : Nat)

@[simp] theorem State.report_levels : (s.report n i).faults.now = s.faults.now := (SameLevels.reportAt n _ i).now
@[simp] theorem State.report_equal : (s.report n i).faults.equal = s.faults.equal := (SameLevels.reportAt n _ i).equal

end

/-! ### A level source (R378) -/

section
variable (s : State) (n : Nat) (on : Bool)

/-- A level source that begins to report sets its level and reports. -/
theorem State.setLevel_eq : s.setLevel n on =
    if on then ({ s with faults := { s.faults with now := vset s.faults.now n on } } : State).report n
    else { s with faults := { s.faults with now := vset s.faults.now n on } } := rfl

@[simp] theorem State.setLevel_levels : (s.setLevel n on).faults.now = vset s.faults.now n on := by
  rw [State.setLevel_eq]; split <;> simp only [State.report_levels]

@[simp] theorem State.setLevel_therm : (s.setLevel n on).therm = s.therm := by
  rw [State.setLevel_eq]; split <;> simp only [State.report_therm]

@[simp] theorem State.setLevel_power : (s.setLevel n on).power = s.power := by
  rw [State.setLevel_eq]; split <;> simp only [State.report_power]

@[simp] theorem State.setLevel_boot : (s.setLevel n on).boot = s.boot := by
  rw [State.setLevel_eq]; split <;> simp only [State.report_boot]

end

end Sys2Proof.Machine
end

section
/-!
PROOFS. Slice0/Fans: the fan loop, the speeds, a failed fan and the time without a duty (R335–R338).
-/

namespace Sys2Proof.Machine

theorem exec_fanSpeedUpdate (s : State) {fan : Nat} (pulses : Nat) (h : fan < 2) :
    exec (.fanSpeedUpdate fan pulses) s = .next (s.fanSpeed fan pulses).settle := finish_wf (decide_eq_true h) _

theorem exec_fanFailDetect (s : State) {fan : Nat} (recovered : Bool) (h : fan < 2) :
    exec (.fanFailDetect fan recovered) s = .next (s.fanFail fan recovered).settle := finish_wf (decide_eq_true h) _

section
variable {s : State}

/-! ### The loop (R335, R336) -/

/-- A duty is written to both outputs, and the firmware is in time. -/
def State.dutyWritten (s : State) (d : Nat) : State :=
  ({ s with therm := { s.therm with fwLate := false } }.rset (ekey 0x0400 0x26) d).rset (ekey 0x0400 0x27) d

theorem State.dutyWritten_rget (d : Nat) :
    (s.dutyWritten d).rget (ekey 0x0400 0x26) = d ∧ (s.dutyWritten d).rget (ekey 0x0400 0x27) = d := by
  rw [State.dutyWritten]
  exact ⟨by rw [State.rget_rset, if_neg (by decide), State.rget_rset, if_pos rfl], by rw [State.rget_rset, if_pos rfl]⟩

theorem State.dutyWritten_therm (d : Nat) : (s.dutyWritten d).therm = { s.therm with fwLate := false } := by
  simp only [State.dutyWritten, State.rset_therm]

theorem State.fanLoop_stopped (h : s.mpRuns = false) : s.fanLoop = s := if_pos (by simp [h])

theorem State.fanLoop_manual (h : s.mpRuns = true) (hmanual : s.rget (ekey 0x0400 0x20) = 1) :
    s.fanLoop = s.dutyWritten (s.rget (ekey 0x0400 0x25)) := by
  rw [State.fanLoop, if_neg (by simp [h])]
  exact if_pos hmanual

/-- The part of 0.1 % that the rounding adds. -/
def State.dutyPart (s : State) (d : Int) : Int := if decide (d % 10240 ≠ 0) && Config.dutyRoundUp s.free then 1 else 0

theorem State.dutyPart_cases (s : State) (d : Int) : (s.dutyPart d = 0 ∨ s.dutyPart d = 1) ∧ (d % 10240 = 0 → s.dutyPart d = 0) := by
  rw [State.dutyPart]
  split
  case isTrue h => exact ⟨.inr rfl, fun hwhole => by simp [hwhole] at h⟩
  case isFalse => exact ⟨.inl rfl, fun _ => rfl⟩

/-- The state in which the loop has kept its integral and, where it rounds, taken a free value. -/
def State.integrated (s : State) (i d : Int) : State :=
  if d % 10240 = 0 then { s with therm := { s.therm with integral := i } }
  else ({ s with therm := { s.therm with integral := i } } : State).tick

theorem State.integrated_therm (i d : Int) : (s.integrated i d).therm = { s.therm with integral := i } := by
  rw [State.integrated]; split <;> rfl

theorem State.fanLoop_auto (h : s.mpRuns = true) (hauto : s.rget (ekey 0x0400 0x20) ≠ 1) :
    let g := fun i => s.rget (ekey 0x0400 i)
    let e := s.therm.hottest - i20Val (g 0x21)
    let i := max 0 (min (s.therm.integral + (g 0x23 : Int) * e) (1000 * 10240))
    let d := 10 * (g 0x22 : Int) * e + i
    s.fanLoop = (s.integrated i d).dutyWritten (max (g 0x24 : Int) (min (d / 10240 + s.dutyPart d) 1000)).toNat := by
  intro g e i d
  have hround : (if decide (d % 10240 ≠ 0) && Config.dutyRoundUp s.free then d / 10240 + 1 else d / 10240) =
      d / 10240 + s.dutyPart d := by
    rw [State.dutyPart]; split <;> simp
  rw [← hround, State.fanLoop, if_neg (by simp [h])]
  exact if_neg hauto

/-! ### Speeds (R335) -/

/-- The part of 1 rpm that the rounding adds. -/
def State.rpmPart (s : State) (x p : Nat) : Nat := if decide (x % p ≠ 0) && Config.rpmRoundUp s.free then 1 else 0

theorem State.rpmPart_cases (s : State) (x p : Nat) : s.rpmPart x p ≤ 1 ∧ (x % p = 0 → s.rpmPart x p = 0) := by
  rw [State.rpmPart]
  split
  case isTrue h => exact ⟨le_rfl, fun hwhole => by simp [hwhole] at h⟩
  case isFalse => exact ⟨Nat.zero_le _, fun _ => rfl⟩

theorem State.fanSpeed_eq (fan pulses : Nat) (hboot : s.boot ≠ .held) (hst : s.power.st ≠ 4) :
    let p := s.rget (ekey 0x0400 0x2A)
    s.fanSpeed fan pulses = (if decide (60 * pulses % p ≠ 0) then s.tick else s).rset (ekey 0x0400 (0x28 + fan))
      (Nat.min (60 * pulses / p + s.rpmPart (60 * pulses) p) 65535) := by
  intro p
  have hround : (if decide (60 * pulses % p ≠ 0) && Config.rpmRoundUp s.free then 60 * pulses / p + 1 else 60 * pulses / p) =
      60 * pulses / p + s.rpmPart (60 * pulses) p := by
    rw [State.rpmPart]; split <;> rfl
  rw [← hround, State.fanSpeed]
  exact if_neg (by simp [hboot, hst])

/-! ### Failed fans (R337) -/

/-- A fan is marked or unmarked, and FAN_FAIL follows. -/
def State.fanMarked (s : State) (fan : Nat) (b : Bool) : State :=
  ({ s with therm := { s.therm with fanBad := nset s.therm.fanBad fan b } } : State).fanLevel

theorem State.fanLevel_frame : s.fanLevel.therm = s.therm ∧ s.fanLevel.faults.now.getLsbD 53 = decide (s.therm.fanBad ≠ 0) := by
  simp only [State.fanLevel]
  split
  case isTrue h => exact ⟨rfl, h⟩
  case isFalse => exact ⟨s.setLevel_therm 53 _, by rw [State.setLevel_levels, vset_getLsbD _ _ _ (by decide)]⟩

theorem State.fanMarked_frame (s : State) (fan : Nat) (b : Bool) :
    (s.fanMarked fan b).therm = { s.therm with fanBad := nset s.therm.fanBad fan b } ∧
      (s.fanMarked fan b).faults.now.getLsbD 53 = decide ((s.fanMarked fan b).therm.fanBad ≠ 0) := by
  obtain ⟨htherm, hlevel⟩ := State.fanLevel_frame (s := { s with therm := { s.therm with fanBad := nset s.therm.fanBad fan b } })
  refine ⟨htherm, ?_⟩
  rw [State.fanMarked, hlevel, htherm]

theorem State.fanFail_recovered (fan : Nat) (hboot : s.boot ≠ .held) (hst : s.power.st ≠ 4) :
    s.fanFail fan true = s.fanMarked fan false := if_neg (by simp [hboot, hst])

theorem State.fanFail_marks {fan : Nat} (hboot : s.boot ≠ .held) (hst : s.power.st ≠ 4)
    (hlimit : s.rget (ekey 0x0400 (0x2B + fan)) ≠ 0) (hduty : 300 ≤ s.fanDuty fan) : s.fanFail fan false = s.fanMarked fan true := by
  simp only [State.fanFail, Bool.false_eq_true, if_false]
  rw [if_neg (by simp [hboot, hst]), if_pos ⟨hlimit, hduty⟩]
  rfl

theorem State.fanFail_keeps {fan : Nat} (h : s.rget (ekey 0x0400 (0x2B + fan)) = 0 ∨ s.fanDuty fan < 300) :
    s.fanFail fan false = s := by
  simp only [State.fanFail, Bool.false_eq_true, if_false]
  rw [if_neg (c := _ ∧ _) (by omega), ite_self]

end

/-- Settles O51: each row by its equation; the free values are those of the two roundings. -/
theorem fansFollowTheLoop : Obligations.FansFollowTheLoop := by
  intro s g wrote
  have hwrote (u : State) (d : Nat) : wrote (u.dutyWritten d) d :=
    ⟨u.dutyWritten_rget d |>.1, u.dutyWritten_rget d |>.2, by rw [State.dutyWritten_therm]⟩
  have hloop : exec .fanLoopTick s = .next s.fanLoop.settle := finish_wf rfl _
  refine ⟨fun hruns hmanual => ?_, fun hruns hauto => ?_, fun hstopped => ?_, fun fan pulses hfan hboot hst => ?_,
    fun fan hfan hboot hst => ?_, fun hst => ⟨?_, fun n => ?_⟩⟩
  · rw [hloop, State.fanLoop_manual hruns hmanual]
    exact ⟨_, rfl, hwrote s _⟩
  · intro e i d
    obtain ⟨hpart, hwhole⟩ := s.dutyPart_cases d
    rw [hloop, State.fanLoop_auto hruns hauto]
    exact ⟨_, s.dutyPart d, rfl, by rw [State.dutyWritten_therm, State.integrated_therm], hpart, hwhole, hwrote _ _⟩
  · rw [hloop, State.fanLoop_stopped hstopped]
  · intro p
    obtain ⟨hpart, hwhole⟩ := s.rpmPart_cases (60 * pulses) p
    have htick (k : Nat) : (if decide (60 * pulses % p ≠ 0) then s.tick else s).rget k = s.rget k := by split <;> rfl
    rw [exec_fanSpeedUpdate s pulses hfan, State.fanSpeed_eq fan pulses hboot hst]
    refine ⟨_, s.rpmPart (60 * pulses) p, rfl, hpart, hwhole, ?_, fun k hk => ?_⟩
    · rw [State.rget_rset, if_pos rfl]
    · rw [State.rget_rset, if_neg hk, htick]
  · intro marked
    have hmarked (b recovered : Bool) (h : s.fanFail fan recovered = s.fanMarked fan b) : marked b (.fanFailDetect fan recovered) := by
      obtain ⟨htherm, hlevel⟩ := s.fanMarked_frame fan b
      exact ⟨_, by rw [exec_fanFailDetect s recovered hfan, h], htherm, hlevel⟩
    refine ⟨hmarked false true (State.fanFail_recovered fan hboot hst), fun hlimit hduty => ?_, fun hkeeps => ?_⟩
    · exact hmarked true false (State.fanFail_marks hboot hst hlimit hduty)
    · rw [exec_fanFailDetect s false hfan, State.fanFail_keeps hkeeps]
  · exact (finish_wf rfl _).trans (by rw [State.fanTimeout, if_neg hst])
  · rw [State.fanDuty, if_neg hst, if_pos (by simp [State.fansForced, hst])]

end Sys2Proof.Machine
end

section
/-!
PROOFS. Slice0/AccessPointer: the tie-break pointer of dictionary access is seen by no read: what an entry shows does not change
when an access moves the pointer (R51, R149).
-/

namespace Sys2Proof.Machine

/-- An answer, with the pointer moved in its state. -/
def accessSnd {α : Type} (i : Nat) (x : α × State) : α × State := (x.1, x.2.accessBy i)

section
variable (s : State) (i : Nat)

/-! ### The parts of a region lookup and of a metadata word -/

/-- A byte of the region map that fails parity: its eight bits are set and its regions marked for a fill (R216). -/
def State.regionByteLost (m r : Nat) : State :=
  ((s.modChan m (fun c =>
    let fills := ((List.range 8).map (fun i => r / 8 * 8 + i)).foldl insertOnce c.mem.fills
    let rmap := ((List.range 8).map (fun i => r / 8 * 8 + i)).foldl (fun p i => mset false p i true) c.mem.rmap
    { c with mem := { c.mem with rmap := rmap, fills := fills }
             forcedFill := c.forcedFill || decide (48 < fills.length) })).count (chanKey m 0xA7) 1).report 10 m

/-- A region that is marked for a fill is filled. -/
def State.regionFilled (m r : Nat) : State :=
  if (s.chan m).mem.fills.contains r then s.modChan m (fun c =>
    { c with mem := c.mem.fill r, forcedFill := c.forcedFill && decide (48 < (c.mem.fill r).fills.length) })
  else s

/-- A lookup whose parity check finds the byte bad, by the surroundings or by an injection. -/
def State.regionChecked (m r : Nat) (bad : Bool) (x : Nat × State) : State :=
  if bad || decide (x.1 ≠ 0) then x.2.regionByteLost m r else x.2

theorem State.lookupRegion_eq (m r : Nat) (bad : Bool) : s.lookupRegion m r bad =
    let t := (State.regionChecked m r bad (s.inject 5 m r)).regionFilled m r
    (mget false (t.chan m).mem.rmap r, t) := rfl

/-- The decode of one metadata word, with the injection armed for its plane. -/
def State.metaWord (m h plane noise : Nat) : MetaDecoded × State :=
  let ctrl := s.rget (ekey 0x1800 0x63)
  let (pat, s) := if nfield ctrl 52 52 = plane then s.inject 3 m h else (0, s)
  let inj := if pat % 4 = 1 then 2 ^ 64 else if pat % 4 = 2 then 2 ^ 64 + 2 ^ 65 else 0
  let w := mget 0 (if plane = 0 then (s.chan m).mem.valid else (s.chan m).mem.poison) (h / 64)
  (decodeMeta s.free w (noise ^^^ inj), if noise ^^^ inj = 0 then s else s.tick)

/-- A metadata word is rewritten (R211). -/
def State.putMeta (m h plane v : Nat) : State := s.modMem m (fun c =>
  if plane = 0 then { c with valid := mset 0 c.valid (h / 64) v } else { c with poison := mset 0 c.poison (h / 64) v })

/-- An uncorrectable metadata word is counted and reported. -/
def State.metaFailed (m : Nat) : State := (s.count (chanKey m 0xA6) 1).report 9 m

/-- What follows from the decode of the poison word, and of the valid word after it. -/
def State.poisonRead (m h : Nat) : MetaDecoded → Nat × State
  | .clean w => (w, s)
  | .corrected w => (w, (s.putMeta m h 1 w).count (chanKey m 0xA5) 1)
  | .failed => (ones64, (s.putMeta m h 1 ones64).metaFailed m)
def State.validRead (m h p : Nat) : MetaDecoded → Nat × Nat × State
  | .clean w => (w, p, s)
  | .corrected w => (w, p, (s.putMeta m h 0 w).count (chanKey m 0xA5) 1)
  | .failed => (ones64, ones64, ((s.putMeta m h 0 ones64).putMeta m h 1 ones64).metaFailed m)

theorem State.readMeta_eq (m h vNoise pNoise : Nat) : s.readMeta m h vNoise pNoise =
    (let (rp, s) := s.metaWord m h 1 pNoise
    let (p, s) := s.poisonRead m h rp
    let (rv, s) := s.metaWord m h 0 vNoise
    s.validRead m h p rv) := by
  unfold State.readMeta
  extract_lets _ one put fail
  have hone : one = fun s plane noise => s.metaWord m h plane noise := rfl
  have hput : put = fun s plane v => s.putMeta m h plane v := rfl
  have hfail : fail = fun s => s.metaFailed m := rfl
  clear_value one put fail
  subst hone hput hfail
  dsimp only
  obtain ⟨rp, t⟩ := s.metaWord m h 1 pNoise
  cases rp
  all_goals
    dsimp only [State.poisonRead]
    generalize State.metaWord _ m h 0 vNoise = z
    obtain ⟨rv, u⟩ := z
    cases rv <;> dsimp only [State.validRead]

/-! ### The operations of the state -/

theorem State.rget_accessBy (k : Nat) : (s.accessBy i).rget k = s.rget k := rfl
theorem State.chan_accessBy (m : Nat) : (s.accessBy i).chan m = s.chan m := rfl
theorem State.modChan_accessBy (m : Nat) (f : Chan → Chan) : (s.accessBy i).modChan m f = (s.modChan m f).accessBy i := rfl

theorem State.count_accessBy (k n : Nat) : (s.accessBy i).count k n = (s.count k n).accessBy i := by
  rw [State.count, State.count, apply_ite (State.accessBy · i)]
  dsimp only
  rw [apply_ite (State.accessBy · i)]
  rfl

theorem State.inject_accessBy (k inst addr : Nat) : (s.accessBy i).inject k inst addr = accessSnd i (s.inject k inst addr) := by
  unfold State.inject
  dsimp only
  rw [apply_ite (accessSnd i), apply_ite (accessSnd i)]
  refine congrArg (ite _ _) (congrArg (ite _ · _) (congrArg (Prod.mk _) ?_))
  dsimp only
  rw [apply_ite (State.accessBy · i)]
  rfl

/-! ### Reports -/

theorem State.each_accessBy {f : State → Nat → State} (hf : ∀ t n, f (t.accessBy i) n = (f t n).accessBy i) (ns : List Nat) :
    (s.accessBy i).each ns f = (s.each ns f).accessBy i := by
  induction ns generalizing s with
  | nil => rfl
  | cons n ns ih => exact (congrArg (State.each · ns f) (hf s n)).trans (ih (f s n))

theorem State.queueEvent_accessBy (code : Nat) : (s.accessBy i).queueEvent code = (s.queueEvent code).accessBy i := by
  have hqueue (t : State) (n : Nat) : (if (t.accessBy i).mgmtActive n then
      (t.accessBy i).modLink n (fun l => { l with events := insertOnce l.events code }) else t.accessBy i) =
      (if t.mgmtActive n then t.modLink n (fun l => { l with events := insertOnce l.events code }) else t).accessBy i := by
    rw [apply_ite (State.accessBy · i)]; rfl
  exact congrArg (State.reason · 0) (s.each_accessBy i hqueue (s.links.map Prod.fst))

theorem State.trap_accessBy (n : Nat) (wait : Bool) : (s.accessBy i).trap n wait = (s.trap n wait).accessBy i := by
  rw [State.trap, State.trap, apply_ite (State.accessBy · i)]; rfl

theorem State.onset_accessBy (n mask : Nat) (wait : Bool) :
    (s.accessBy i).onset n mask wait = (s.onset n mask wait).accessBy i := by
  rw [State.onset, State.onset, apply_ite (State.accessBy · i), ← State.trap_accessBy, apply_ite (State.accessBy · i),
    ← State.queueEvent_accessBy]

theorem State.asksBlock_accessBy (code inst : Nat) : (s.accessBy i).asksBlock code inst = (s.asksBlock code inst).accessBy i := rfl

theorem State.report_accessBy (n inst : Nat) : (s.accessBy i).report n inst = (s.report n inst).accessBy i := by
  have honset (wait : Bool) : (if s.faults.sticky.getLsbD n then (s.latched n).accessBy i else
      ((s.latched n).accessBy i).onset n (s.reaction n) wait) =
      (if s.faults.sticky.getLsbD n then s.latched n else (s.latched n).onset n (s.reaction n) wait).accessBy i := by
    rw [apply_ite (State.accessBy · i), State.onset_accessBy]
  rw [State.report, State.report, State.reportAt_eq, State.reportAt_eq, apply_ite (State.accessBy · i),
    apply_ite (State.accessBy · i), apply_ite (State.accessBy · i), apply_ite (State.accessBy · i), ← State.asksBlock_accessBy,
    ← honset]
  rfl

/-! ### A read of a block -/

theorem State.regionByteLost_accessBy (m r : Nat) : (s.accessBy i).regionByteLost m r = (s.regionByteLost m r).accessBy i := by
  rw [State.regionByteLost, State.modChan_accessBy, State.count_accessBy, State.report_accessBy]
  rfl

theorem State.regionFilled_accessBy (m r : Nat) : (s.accessBy i).regionFilled m r = (s.regionFilled m r).accessBy i := by
  rw [State.regionFilled, State.regionFilled, apply_ite (State.accessBy · i)]
  rfl

theorem State.regionChecked_accessBy (m r : Nat) (bad : Bool) (x : Nat × State) :
    State.regionChecked m r bad (accessSnd i x) = (State.regionChecked m r bad x).accessBy i := by
  rw [State.regionChecked, State.regionChecked, apply_ite (State.accessBy · i), ← State.regionByteLost_accessBy]
  rfl

theorem State.lookupRegion_accessBy (m r : Nat) (bad : Bool) :
    (s.accessBy i).lookupRegion m r bad = accessSnd i (s.lookupRegion m r bad) := by
  rw [State.lookupRegion_eq, State.lookupRegion_eq, State.inject_accessBy, State.regionChecked_accessBy, State.regionFilled_accessBy]
  rfl

theorem State.metaWord_accessBy (m h plane noise : Nat) :
    (s.accessBy i).metaWord m h plane noise = accessSnd i (s.metaWord m h plane noise) := by
  have hpat : (if nfield (s.rget (ekey 0x1800 0x63)) 52 52 = plane then accessSnd i (s.inject 3 m h) else (0, s.accessBy i)) =
      accessSnd i (if nfield (s.rget (ekey 0x1800 0x63)) 52 52 = plane then s.inject 3 m h else (0, s)) := by
    rw [apply_ite (accessSnd i)]
    rfl
  rw [State.metaWord, State.metaWord, State.rget_accessBy, State.inject_accessBy, hpat]
  obtain ⟨pat, t⟩ := (if nfield (s.rget (ekey 0x1800 0x63)) 52 52 = plane then s.inject 3 m h else (0, s))
  dsimp only [accessSnd]
  rw [apply_ite (State.accessBy · i), State.chan_accessBy]
  rfl

theorem State.metaFailed_accessBy (m : Nat) : (s.accessBy i).metaFailed m = (s.metaFailed m).accessBy i := by
  rw [State.metaFailed, State.count_accessBy, State.report_accessBy]
  rfl

theorem State.putMeta_accessBy (m h plane v : Nat) : (s.accessBy i).putMeta m h plane v = (s.putMeta m h plane v).accessBy i := rfl

theorem State.poisonRead_accessBy (m h : Nat) (d : MetaDecoded) :
    (s.accessBy i).poisonRead m h d = accessSnd i (s.poisonRead m h d) := by
  cases d with
  | clean w => rfl
  | corrected w => rw [State.poisonRead, State.putMeta_accessBy, State.count_accessBy]; rfl
  | failed => rw [State.poisonRead, State.putMeta_accessBy, State.metaFailed_accessBy]; rfl

theorem State.validRead_accessBy (m h p : Nat) (d : MetaDecoded) : (s.accessBy i).validRead m h p d =
    ((s.validRead m h p d).1, accessSnd i (s.validRead m h p d).2) := by
  cases d with
  | clean w => rfl
  | corrected w => rw [State.validRead, State.putMeta_accessBy, State.count_accessBy]; rfl
  | failed => rw [State.validRead, State.putMeta_accessBy, State.putMeta_accessBy, State.metaFailed_accessBy]; rfl

theorem State.readMeta_accessBy (m h vNoise pNoise : Nat) : (s.accessBy i).readMeta m h vNoise pNoise =
    ((s.readMeta m h vNoise pNoise).1, accessSnd i (s.readMeta m h vNoise pNoise).2) := by
  rw [State.readMeta_eq, State.readMeta_eq, State.metaWord_accessBy]
  obtain ⟨rp, t⟩ := s.metaWord m h 1 pNoise
  dsimp only [accessSnd]
  rw [State.poisonRead_accessBy]
  obtain ⟨p, u⟩ := t.poisonRead m h rp
  dsimp only [accessSnd]
  rw [State.metaWord_accessBy]
  obtain ⟨rv, v⟩ := u.metaWord m h 0 vNoise
  dsimp only [accessSnd]
  rw [State.validRead_accessBy]
  rfl

/-- The noise of a read, with an injected pattern. -/
def flipped (pat noise : Nat) : Nat := noise ^^^ ((2 ^ (8 * pat) - 1) * 2 ^ 512)

/-- A decode is of the word that the channel holds. -/
theorem State.decodeWord_fst (m h noise : Nat) : (s.decodeWord m h noise).1 =
    let x := s.inject 2 m h
    decodeBlock x.2.free (x.2.eccMode m) (x.2.chan m).erased (x.2.arrayWord m h) (flipped x.1 noise) := by
  unfold State.decodeWord
  obtain ⟨pat, t⟩ := s.inject 2 m h
  dsimp only
  split <;> rfl

theorem State.decodeWord_accessBy (m h noise : Nat) : ((s.accessBy i).decodeWord m h noise).1 = (s.decodeWord m h noise).1 := by
  have hword (t : State) : (t.accessBy i).arrayWord m h = t.arrayWord m h := rfl
  have hmode (t : State) : (t.accessBy i).eccMode m = t.eccMode m := rfl
  have hfree (t : State) : (t.accessBy i).free = t.free := rfl
  rw [State.decodeWord_fst, State.decodeWord_fst, State.inject_accessBy]
  dsimp only [accessSnd]
  rw [hword, hmode, hfree, State.chan_accessBy]

/-- What a reader gets goes by the two words and the decode. -/
def ReadOut.of (v p h : Nat) (r : Decoded) : ReadOut :=
  if !nbit v (h % 64) then {} else
    match r with
    | .clean d => { data := d, poisoned := nbit p (h % 64), valid := true }
    | .corrected d _ => { data := d, poisoned := nbit p (h % 64), corrected := true, valid := true }
    | .failed d => { data := d, poisoned := true, failed := true, valid := true }

theorem State.readValid_fst (m h noise v p : Nat) : (s.readValid m h noise v p).1 = ReadOut.of v p h (s.decodeWord m h noise).1 := by
  unfold State.readValid ReadOut.of
  split
  · rfl
  · obtain ⟨r, t⟩ := s.decodeWord m h noise
    cases r <;> dsimp only <;> split <;> simp_all

theorem State.readBlock_accessBy (m h noise : Nat) (env : ChanEnv) :
    ((s.accessBy i).readBlock m h noise env).1 = (s.readBlock m h noise env).1 := by
  rw [State.readBlock, State.readBlock, State.lookupRegion_accessBy]
  obtain ⟨r, t⟩ := s.lookupRegion m (regionOf h) env.rmapBad
  dsimp only [accessSnd]
  split
  · rfl
  · rw [State.readColumn, State.readColumn, State.readMeta_accessBy]
    obtain ⟨v, p, u⟩ := t.readMeta m h env.vNoise env.pNoise
    dsimp only [accessSnd]
    rw [State.readValid_fst, State.readValid_fst, State.decodeWord_accessBy]

/-! ### What an entry shows -/

theorem State.entryNow_accessBy (j l : Nat) : (s.accessBy i).entryNow j l = s.entryNow j l := by
  have hmap : (s.accessBy i).map = s.map := rfl
  have hblock : (s.accessBy i).linkBlock j l = s.linkBlock j l := rfl
  have hlost (a : Nat) : (s.accessBy i).blockLost a = s.blockLost a := rfl
  have hslice : (s.accessBy i).slice j = s.slice j := rfl
  unfold State.entryNow
  simp only [hmap, hblock, hlost, hslice, State.readBlock_accessBy]

theorem State.headInfo_accessBy (q : Nat) : (s.accessBy i).headInfo q = s.headInfo q := by
  have hqueue : (s.accessBy i).queue q = s.queue q := rfl
  have hslice : (s.accessBy i).sliceOf q = s.sliceOf q := rfl
  have hpool : (s.accessBy i).poolK = s.poolK := rfl
  unfold State.headInfo
  simp only [hqueue, hslice, hpool, State.entryNow_accessBy]

theorem State.queueView_accessBy (sub : Nat) : (s.accessBy i).queueView sub = s.queueView sub := by
  unfold State.queueView
  simp only [State.headInfo_accessBy]
  rfl

/-- DECODE_RESULT as one function of the state. (Its equation at a state makes the kernel compute the decoder: the two sides are
compared as functions.) -/
theorem State.decodeResult_def : State.decodeResult = fun s =>
    match decodeAddr s.map (s.rget (ekey 0x1C00 0xC6)) with
    | none => 2 ^ 31
    | some (m, h) => b2n (s.retired m) * 2 ^ 30 + m * 2 ^ 23 + bankOf h * 2 ^ 19 + rowOf h * 2 ^ 4 + colOf h := rfl

theorem State.decodeResult_accessBy : (s.accessBy i).decodeResult = s.decodeResult := by
  have hmap : (s.accessBy i).map = s.map := rfl
  have hretired : (s.accessBy i).retired = s.retired := rfl
  rw [State.decodeResult_def]
  beta_reduce
  rw [hmap, hretired, State.rget_accessBy]

theorem State.repairView_accessBy (sub : Nat) : (s.accessBy i).repairView sub = s.repairView sub := by
  have hmap : (s.accessBy i).map = s.map := rfl
  have hrecords : (s.accessBy i).repair = s.repair ∧ (s.accessBy i).freeRecords = s.freeRecords ∧
      (s.accessBy i).evacWord = s.evacWord ∧ (s.accessBy i).nextMap = s.nextMap := ⟨rfl, rfl, rfl, rfl⟩
  have hlayers (k : Nat) : (s.accessBy i).layerStatus k = s.layerStatus k ∧ (s.accessBy i).layer k = s.layer k := ⟨rfl, rfl⟩
  have hcoils : (s.accessBy i).coilSelected = s.coilSelected ∧ (s.accessBy i).coilMargins = s.coilMargins ∧
      (s.accessBy i).jointStatus = s.jointStatus := ⟨rfl, rfl, rfl⟩
  unfold State.repairView
  simp only [State.decodeResult_accessBy, hmap, hrecords, hlayers, hcoils, State.rget_accessBy, State.chan_accessBy]

theorem State.linkView_accessBy (n sub : Nat) : (s.accessBy i).linkView n sub = s.linkView n sub := rfl
theorem State.chanView_accessBy (m sub : Nat) : (s.accessBy i).chanView m sub = s.chanView m sub := rfl
theorem State.classView_accessBy (c sub : Nat) : (s.accessBy i).classView c sub = s.classView c sub := rfl
theorem State.portView_accessBy (p sub : Nat) : (s.accessBy i).portView p sub = s.portView p sub := rfl
theorem State.sourceView_accessBy (n sub : Nat) : (s.accessBy i).sourceView n sub = s.sourceView n sub := rfl
theorem State.metaView_accessBy (sub : Nat) : (s.accessBy i).metaView sub = s.metaView sub := rfl
theorem State.identityView_accessBy (sub : Nat) : (s.accessBy i).identityView sub = s.identityView sub := rfl
theorem State.lifeView_accessBy (sub : Nat) : (s.accessBy i).lifeView sub = s.lifeView sub := rfl
theorem State.powerView_accessBy (sub : Nat) : (s.accessBy i).powerView sub = s.powerView sub := rfl
theorem State.thermView_accessBy (sub : Nat) : (s.accessBy i).thermView sub = s.thermView sub := rfl
theorem State.clockView_accessBy (sub : Nat) : (s.accessBy i).clockView sub = s.clockView sub := rfl
theorem State.refreshView_accessBy (sub : Nat) : (s.accessBy i).refreshView sub = s.refreshView sub := rfl
theorem State.integView_accessBy (sub : Nat) : (s.accessBy i).integView sub = s.integView sub := rfl
theorem State.urgView_accessBy (sub : Nat) : (s.accessBy i).urgView sub = s.urgView sub := rfl
theorem State.engineView_accessBy (sub : Nat) : (s.accessBy i).engineView sub = s.engineView sub := rfl
theorem State.collectorView_accessBy (sub : Nat) : (s.accessBy i).collectorView sub = s.collectorView sub := rfl
theorem State.testView_accessBy (sub : Nat) : (s.accessBy i).testView sub = s.testView sub := rfl
theorem State.granView_accessBy (sub : Nat) : (s.accessBy i).granView sub = s.granView sub := rfl
theorem State.busView_accessBy (sub : Nat) : (s.accessBy i).busView sub = s.busView sub := rfl
theorem State.teleView_accessBy (sub : Nat) : (s.accessBy i).teleView sub = s.teleView sub := rfl
theorem State.stageView_accessBy (sub : Nat) : (s.accessBy i).stageView sub = s.stageView sub := rfl

theorem State.view_accessBy (k : Nat) : (s.accessBy i).view k = s.view k := by
  unfold State.view
  simp only [State.linkView_accessBy, State.metaView_accessBy, State.identityView_accessBy, State.lifeView_accessBy,
    State.powerView_accessBy,
    State.thermView_accessBy, State.clockView_accessBy, State.chanView_accessBy, State.refreshView_accessBy, State.integView_accessBy,
    State.repairView_accessBy, State.classView_accessBy, State.portView_accessBy, State.urgView_accessBy, State.engineView_accessBy,
    State.queueView_accessBy, State.collectorView_accessBy, State.sourceView_accessBy, State.testView_accessBy, State.granView_accessBy,
    State.busView_accessBy, State.teleView_accessBy, State.stageView_accessBy]

theorem State.entryBytes_accessBy (k : Nat) : (s.accessBy i).entryBytes k = s.entryBytes k := by
  unfold State.entryBytes
  simp only [State.view_accessBy]
  rfl

theorem State.judge_accessBy (k : Nat) : (s.accessBy i).judge k = s.judge k := rfl

/-- A read answers the same whoever had the turn before. -/
theorem State.readEntry_accessBy (k : Nat) : (s.accessBy i).readEntry k = s.readEntry k := by
  unfold State.readEntry
  rw [State.judge_accessBy, State.entryBytes_accessBy]

end

end Sys2Proof.Machine
end

section
/-!
PROOFS. Slice0/BusAccess: the write parts of the dictionary's bus commands, their acceptance, and how an access ends (R428–R441).
-/

namespace Sys2Proof.Machine

/-! ### What a report leaves of the target -/

/-- Of the target nothing changes but the reasons for attention. -/
def SameTarget (s t : State) : Prop := t.bus = { s.bus with reasons := t.bus.reasons }

namespace SameTarget

variable {s t u : State}

theorem refl (s : State) : SameTarget s s := rfl

theorem congr (h : SameTarget s t) (hb : u.bus = t.bus) : SameTarget s u := by
  rw [SameTarget, hb]
  exact h

theorem ite {c : Prop} [Decidable c] (ht : SameTarget s t) (hu : SameTarget s u) : SameTarget s (if c then t else u) := by
  split
  · exact ht
  · exact hu

theorem queueEvent (h : SameTarget s t) (code : Nat) : SameTarget s (t.queueEvent code) := by
  have hevents : SameTarget s (t.each (t.links.map Prod.fst) (fun t n =>
      if t.mgmtActive n then t.modLink n (fun l => { l with events := insertOnce l.events code }) else t)) :=
    t.each_keeps (SameTarget s) _ _ h fun _ _ hu => .ite (hu.congr rfl) hu
  rw [SameTarget, State.queueEvent, State.reason, hevents]

theorem onset (h : SameTarget s t) (n mask : Nat) (wait : Bool) : SameTarget s (t.onset n mask wait) :=
  have hevent : SameTarget s (if nbit mask 0 then t.queueEvent n else t) := .ite (h.queueEvent n) h
  .ite (hevent.congr (State.trap_bus _ _ _)) hevent

theorem reportAt (n code inst : Nat) : SameTarget s (s.reportAt n code inst) := by
  have hlatched : SameTarget s (s.latched n) := rfl
  have honset (wait : Bool) : SameTarget s (if s.faults.sticky.getLsbD n then s.latched n else
      (s.latched n).onset n (s.reaction n) wait) := .ite hlatched (hlatched.onset _ _ _)
  rw [State.reportAt_eq]
  exact .ite (.refl s) (.ite hlatched (.ite (hlatched.congr rfl) (.ite ((honset _).congr rfl) (honset _))))

end SameTarget

section
variable (s : State)

/-- A flag of the target is set, and of the target nothing else changes but the reasons. -/
theorem State.busFlag_bus {i : Nat} (hi : i < 16) : ∃ flags reasons,
    (s.busFlag i).bus = { s.bus with flags := flags, reasons := reasons } ∧
    flags.getLsbD i = true := by
  rw [State.busFlag]
  split
  next h => exact ⟨s.bus.flags, s.bus.reasons, rfl, h⟩
  · exact ⟨vset s.bus.flags i true, _, SameTarget.reportAt _ _ _, vset_getLsbD _ _ _ hi⟩

theorem State.addrByte_congr {s t : State} (h : t.clk = s.clk) (read : Bool) : t.addrByte read = s.addrByte read := by
  rw [State.addrByte, State.addrByte, h]

/-! ### Write parts (R429, R432) -/

variable {head : List Byte} {count : Nat} {data : List Byte}

theorem State.writePart_short (h : data.length < count) : s.writePart head count data = .short := if_pos h

theorem State.writePart_long (h : count + 1 < data.length) : s.writePart head count data = .long := by
  rw [State.writePart, if_neg (by omega), if_pos h]

/-- The counted bytes came, without a PEC where none is required, or with one that does not fail. -/
def State.GoodPart (s : State) (head : List Byte) (count : Nat) (data : List Byte) : Prop :=
  (data.length = count ∧ s.flag (ekey 0x5800 0x03) = false) ∨ (data.length = count + 1 ∧ pecOf (head ++ data) = 0)

theorem State.writePart_good (h : s.GoodPart head count data) : s.writePart head count data = .taken (data.take count) := by
  rcases h with ⟨hlen, hflag⟩ | ⟨hlen, hpec⟩
  · rw [State.writePart, if_neg (by omega), if_neg (by omega), if_pos hlen, if_neg (by simp [hflag]), List.take_of_length_le hlen.le]
  · rw [State.writePart, if_neg (by omega), if_neg (by omega), if_neg (by omega), if_pos hpec]

theorem State.writePart_bad (hlow : count ≤ data.length) (hhigh : data.length ≤ count + 1) (h : ¬ s.GoodPart head count data) :
    s.writePart head count data = .refused := by
  rw [State.writePart, if_neg (by omega), if_neg (by omega)]
  split
  next hlen => rw [if_pos (by simpa using fun hflag => h (.inl ⟨hlen, hflag⟩))]
  next hlen => rw [if_neg (fun hpec => h (.inr ⟨by omega, hpec⟩))]

/-! ### Access commands (R433–R435) -/

/-- DICT_READ or DICT_WRITE. -/
def dictAccess (read : Bool) (count : Nat) (data : List Byte) (within : Option BusEnd) (us : Nat) : Instr :=
  if read then .dictRead count data within us else .dictWrite count data

/-- What either does with its write part, `served` with the counted bytes. -/
def State.dictServe (s : State) (read : Bool) (count : Nat) (data : List Byte) (served : State → List Byte → State) : State :=
  if !s.busAnswers then s
  else if s.bus.acc.isSome then s.busBusy
  else match s.busSilent.writePart [s.addrByte false, if read then 0x01 else 0x02, BitVec.ofNat 8 count] count data with
    | .taken bs => served s.busSilent bs
    | w => s.busSilent.partRefused w

/-- An access that ends within the stretch of DICT_READ, or goes on. -/
def State.stretched (s : State) : Option BusEnd → State
  | some how => s.busComplete how {}
  | none => s

/-- The read phase of DICT_READ, of an access that has been accepted. -/
def State.readPhase (s : State) (head : List Byte) (within : Option BusEnd) (us : Nat) : State :=
  let s := s.stretched within
  let s := s.peak (ekey 0x5800 0x14) (if s.bus.acc.isSome then 100 else us) 65535
  (s.returnFrame (head ++ [s.addrByte true])).busStop

/-- What an access command does with its counted bytes. -/
def dictServed (read : Bool) (count : Nat) (data : List Byte) (within : Option BusEnd) (us : Nat) (t : State) (bs : List Byte) : State :=
  if read then (t.busTake true count bs).readPhase ([t.addrByte false, 0x01, BitVec.ofNat 8 count] ++ data) within us
  else (t.busTake false count bs).busStop

theorem exec_dictAccess (read : Bool) (within : Option BusEnd) (us : Nat) (hwf : (dictAccess read count data within us).wf = true) :
    exec (dictAccess read count data within us) s =
      .next (s.dictServe read count data (dictServed read count data within us)).settle := by
  cases read with
  | false => exact (finish_wf hwf (s.dictWrite count data)).trans (congrArg (fun t : State => Host.Outcome.next t.settle) rfl)
  | true => exact (finish_wf hwf (s.dictRead count data within us)).trans (congrArg (fun t : State => Host.Outcome.next t.settle) rfl)

/-- The write part of an access command. -/
def State.accessPart (s : State) (read : Bool) (count : Nat) (data : List Byte) : WritePart :=
  s.busSilent.writePart [s.addrByte false, if read then 0x01 else 0x02, BitVec.ofNat 8 count] count data

section
variable {s : State} {read : Bool} {served : State → List Byte → State}

theorem State.dictServe_silent (h : s.busAnswers = false) : s.dictServe read count data served = s := if_pos (by simp [h])

theorem State.dictServe_busy (h : s.busAnswers = true) (hacc : s.bus.acc ≠ none) : s.dictServe read count data served = s.busBusy := by
  rw [State.dictServe, if_neg (by simp [h]), if_pos (Option.isSome_iff_ne_none.mpr hacc)]

theorem State.dictServe_free (h : s.busAnswers = true) (hacc : s.bus.acc = none) : s.dictServe read count data served =
    match s.accessPart read count data with
    | .taken bs => served s.busSilent bs
    | w => s.busSilent.partRefused w := by
  rw [State.dictServe, if_neg (by simp [h]), if_neg (by simp [hacc])]
  rfl

theorem State.dictServe_taken (h : s.busAnswers = true) (hacc : s.bus.acc = none) {bs : List Byte}
    (hpart : s.accessPart read count data = .taken bs) : s.dictServe read count data served = served s.busSilent bs := by
  rw [State.dictServe_free h hacc, hpart]

theorem State.dictServe_refused (h : s.busAnswers = true) (hacc : s.bus.acc = none) {w : WritePart}
    (hpart : s.accessPart read count data = w) (hw : ∀ bs, w ≠ .taken bs) :
    s.dictServe read count data served = s.busSilent.partRefused w := by
  rw [State.dictServe_free h hacc, hpart]
  cases w with
  | taken bs => exact absurd rfl (hw bs)
  | short => rfl
  | long => rfl
  | refused => rfl

end

theorem State.busBusy_bus : s.busBusy.bus = { s.bus with out := [] } := by
  rw [State.busBusy, State.busStop, State.count_bus, State.busSilent]
  simp only [State.count_bus]

theorem State.busBusy_counts (h : s.rget (ekey 0x5800 0x12) + 1 < 2 ^ 32) :
    s.busBusy.rget (ekey 0x5800 0x12) = s.rget (ekey 0x5800 0x12) + 1 := by
  have hcount : (s.count (ekey 0x5800 0x12) 1).rget (ekey 0x5800 0x12) = s.rget (ekey 0x5800 0x12) + 1 := by
    rw [State.count_u32 _ _ _ (by decide) h, State.rget_rset, if_pos rfl]
  exact (State.count_rget_other _ _ _ _ (by decide)).trans hcount

/-! ### The frame that is returned -/

/-- What the read phase returns: the frame of an access that has ended, or that is told pending. -/
theorem State.readPhase_bus (t : State) (head : List Byte) (within : Option BusEnd) (us : Nat) :
    (t.readPhase head within us).bus = { (t.stretched within).bus with
      out := (t.stretched within).resultFrame ++
        [pecOf (head ++ [(t.stretched within).addrByte true] ++ (t.stretched within).resultFrame)]
      acc := (t.stretched within).bus.acc.map (fun a => { a with told := true }) } := by
  simp only [State.readPhase, State.busStop, State.count_bus]
  rfl

/-! ### How an access ends (R430, R435) -/

section
variable {s : State} {a : BusAcc}

theorem State.busComplete_none (how : BusEnd) (h : s.bus.acc = none) : s.busComplete how {} = s := by
  rw [State.busComplete, h]

theorem State.busComplete_waits (how : BusEnd) (h : s.bus.acc = some a) (hw : a.waits = true) : s.busComplete how {} = s := by
  rw [State.busComplete, h]
  exact if_pos hw

theorem State.busComplete_done_read (h : s.bus.acc = some a) (hw : a.waits = false) (hread : a.read = true) :
    s.busComplete .done {} = (s.accessBy 128).busDone (s.readEntry a.key).1 (s.readEntry a.key).2 := by
  have hrun : s.busComplete .done {} =
      (s.accessBy 128).busDone ((s.accessBy 128).readEntry a.key).1 ((s.accessBy 128).readEntry a.key).2 := by
    simp [State.busComplete, State.busRun, h, hw, hread]
  rw [hrun, State.readEntry_accessBy]

theorem State.busComplete_done_write (h : s.bus.acc = some a) (hw : a.waits = false) (hread : a.read = false) {st : Nat} {t : State}
    (hdone : (s.accessBy 128).writeEntry .bus a.key a.val {} = (some st, t)) : s.busComplete .done {} = t.busDone st [] := by
  simp only [State.busComplete, State.busRun, h, hw, hread, hdone, Bool.false_eq_true, if_false]

theorem State.busComplete_requestBad (h : s.bus.acc = some a) (hw : a.waits = false) :
    s.busComplete .requestBad {} = (s.busFlag 6).busDone 0x010A [] := by
  rw [State.busComplete, h]
  exact if_neg (by simp [hw])

theorem State.busComplete_resultBad (h : s.bus.acc = some a) (hw : a.waits = false) (hread : a.read = true) :
    s.busComplete .resultBad {} = ((s.busFlag 6).accessBy 128).busLost := by
  simp [State.busComplete, h, hw, hread]

/-- An access that has ended leaves STATE idle, its status, and with OK its value; RESULT is set where it was told pending. -/
theorem State.busDone_bus (st : Nat) (bs : List Byte) (h : s.bus.acc = some a) : (s.busDone st bs).bus = { s.bus with
    state := 0, status := st, value := if st = 0 then bs else [], acc := none
    reasons := if a.told then nset s.bus.reasons 1 true else s.bus.reasons } := by
  cases htold : a.told <;> simp [State.busDone, State.reason, h, htold]

theorem State.busLost_bus (h : s.bus.acc = some a) : s.busLost.bus = { s.bus with
    state := 3, status := 0, value := [], acc := none
    reasons := if a.told then nset s.bus.reasons 1 true else s.bus.reasons } := by
  cases htold : a.told <;> simp [State.busLost, State.reason, h, htold]

theorem State.busDone_clk (st : Nat) (bs : List Byte) : (s.busDone st bs).clk = s.clk := by
  rw [State.busDone]
  split
  · rfl
  · dsimp only
    split <;> rfl

theorem State.busLost_clk : s.busLost.clk = s.clk := by
  rw [State.busLost]
  split
  · rfl
  · dsimp only
    split <;> rfl

theorem State.busFlag_clk (i : Nat) : (s.busFlag i).clk = s.clk := by
  rw [State.busFlag]
  split
  · rfl
  · rw [State.report_clk]

end

/-! ### An access that is taken (R429, R433) -/

section
variable {s : State} {bs : List Byte}

/-- The target holds a new access, under the next sequence number. -/
def State.takes (s : State) (a : BusAcc) : State := s.busSilent.busAccept a

theorem State.busTake_write (h : 3 ≤ count) :
    s.busTake false count bs = s.busAccept { read := false, key := frameKey bs, val := bs.drop 3 } := if_neg (by simp; omega)

theorem State.busTake_read : s.busTake true 3 (data.take 3) = s.busAccept { read := true, key := frameKey (data.take 3), val := [] } := by
  have hval : (data.take 3).drop 3 = [] := List.drop_eq_nil_of_le (List.length_take_le 3 data)
  rw [State.busTake, if_neg (by simp), hval]

theorem State.busTake_malformed (h : count < 3) : s.busTake false count bs = { s with bus := { s.bus with
    seq := s.bus.seq + 1, state := 0, status := 0x010A, value := [], acc := none } } := if_pos (.inl h)

end

/-- The result frame of a target (Table 2). -/
def busFrame (b : Bus) : List Byte :=
  BitVec.ofNat 8 (4 + b.value.length) :: BitVec.ofNat 8 b.state :: b.seq :: (natBytes 2 b.status ++ b.value)

/-- The target `b` with its result frame and the PEC of all the bytes of a DICT_READ returned, and a pending access told so. -/
def State.showing (s : State) (head data : List Byte) (b : Bus) : Bus :=
  { b with
    out := busFrame b ++ [pecOf (head ++ data ++ [s.addrByte true] ++ busFrame b)]
    acc := b.acc.map (fun a => { a with told := true }) }

section
variable {s : State} {within : Option BusEnd} {us : Nat} {key : Nat}

/-- The access of a DICT_READ. -/
def readAcc (key : Nat) : BusAcc := { read := true, key := key, val := [] }

theorem State.readServed_bus (hclk : ((s.takes (readAcc (frameKey (data.take 3)))).stretched within).clk = s.clk) :
    (dictServed true 3 data within us s.busSilent (data.take 3)).bus = s.showing [s.addrByte false, 0x01, BitVec.ofNat 8 3] data
      ((s.takes (readAcc (frameKey (data.take 3)))).stretched within).bus := by
  have htake : s.busSilent.busTake true 3 (data.take 3) = s.takes (readAcc (frameKey (data.take 3))) := State.busTake_read
  rw [dictServed, if_pos rfl, htake, State.readPhase_bus, State.addrByte_congr hclk]
  rfl

/-- How the access of a DICT_READ stands after the stretch. -/
theorem State.stretched_none : ((s.takes (readAcc key)).stretched none).bus = { s.bus with
    out := [], seq := s.bus.seq + 1, state := 1, status := 0, value := [], acc := some (readAcc key) } := rfl

theorem State.stretched_done : ((s.takes (readAcc key)).stretched (some .done)).bus = { s.bus with
    out := [], seq := s.bus.seq + 1, state := 0, status := ((s.takes (readAcc key)).readEntry key).1
    value := if ((s.takes (readAcc key)).readEntry key).1 = 0 then ((s.takes (readAcc key)).readEntry key).2 else []
    acc := none } := by
  rw [State.stretched, State.busComplete_done_read (a := readAcc key) rfl rfl rfl, State.busDone_bus (a := readAcc key) _ _ rfl]
  rfl

theorem State.stretched_requestBad : ∃ flags reasons, ((s.takes (readAcc key)).stretched (some .requestBad)).bus = { s.bus with
    out := [], seq := s.bus.seq + 1, state := 0, status := 0x010A, value := [], acc := none, flags := flags, reasons := reasons } ∧
    flags.getLsbD 6 = true := by
  obtain ⟨flags, reasons, hbus, hset⟩ := (s.takes (readAcc key)).busFlag_bus (i := 6) (by decide)
  refine ⟨flags, reasons, ?_, hset⟩
  rw [State.stretched, State.busComplete_requestBad (a := readAcc key) rfl rfl,
    State.busDone_bus (a := readAcc key) _ _ (congrArg Bus.acc hbus), hbus]
  rfl

theorem State.stretched_resultBad : ∃ flags reasons, ((s.takes (readAcc key)).stretched (some .resultBad)).bus = { s.bus with
    out := [], seq := s.bus.seq + 1, state := 3, status := 0, value := [], acc := none, flags := flags, reasons := reasons } ∧
    flags.getLsbD 6 = true := by
  obtain ⟨flags, reasons, hbus, hset⟩ := (s.takes (readAcc key)).busFlag_bus (i := 6) (by decide)
  have hpointer : (((s.takes (readAcc key)).busFlag 6).accessBy 128).bus = ((s.takes (readAcc key)).busFlag 6).bus := rfl
  refine ⟨flags, reasons, ?_, hset⟩
  rw [State.stretched, State.busComplete_resultBad (a := readAcc key) rfl rfl rfl,
    State.busLost_bus (a := readAcc key) (hpointer ▸ congrArg Bus.acc hbus), hpointer, hbus]
  rfl

theorem State.stretched_clk : ((s.takes (readAcc key)).stretched within).clk = s.clk := by
  rcases within with _ | _ | _ | _
  · rfl
  · rw [State.stretched, State.busComplete_done_read (a := readAcc key) rfl rfl rfl, State.busDone_clk]; rfl
  · rw [State.stretched, State.busComplete_requestBad (a := readAcc key) rfl rfl, State.busDone_clk, State.busFlag_clk]; rfl
  · have hpointer (t : State) : (t.accessBy 128).clk = t.clk := rfl
    rw [State.stretched, State.busComplete_resultBad (a := readAcc key) rfl rfl rfl, State.busLost_clk, hpointer, State.busFlag_clk]
    rfl

end

/-- Settles O59: every write part is judged once for both commands (`dictServe_refused`, `dictServe_taken`); the ends of an access
are the cases of `busComplete`. -/
theorem busServesTheDictionary : Obligations.BusServesTheDictionary := by
  intro s
  have hcomplete (how : BusEnd) : exec (.busAccessComplete how) s = .next (s.busComplete how {}).settle := finish_wf rfl _
  have hresult : exec .dictResult s = .next s.dictResult.settle := finish_wf rfl _
  refine ⟨?_, fun h => ?_, fun h => ?_, fun how h => ?_,
    fun a hacc hwaits => ⟨fun hread => ?_, fun st t hread hdone => ?_, ?_, fun hread => ?_⟩⟩
  · intro read count data within us i head bytes good key hwf
    have hexec : exec i s = .next (s.dictServe read count data (dictServed read count data within us)).settle :=
      exec_dictAccess s read within us hwf
    refine ⟨fun h => ?_, fun h hacc => ?_, fun h hacc => ⟨fun hlen => ?_, fun hlen => ?_, fun hlow hhigh hbad => ?_,
      fun hgood hread hcount => ?_, fun hgood hread hcount => ?_, fun hgood hread hcount => ?_⟩⟩
    · rw [hexec, State.dictServe_silent h]
    · rw [State.dictServe_busy h hacc] at hexec
      exact ⟨s.busBusy, hexec, s.busBusy_bus, s.busBusy_counts⟩
    · rw [hexec, State.dictServe_refused h hacc (State.writePart_short _ hlen) (by simp)]
      rfl
    · rw [hexec, State.dictServe_refused h hacc (State.writePart_long _ hlen) (by simp)]
      rfl
    · rw [hexec, State.dictServe_refused h hacc (State.writePart_bad _ hlow hhigh hbad) (by simp)]
      rfl
    · subst hread
      rw [hexec, State.dictServe_taken h hacc (State.writePart_good _ hgood), dictServed, if_neg (by simp),
        State.busTake_write hcount]
      rfl
    · subst hread
      rw [hexec, State.dictServe_taken h hacc (State.writePart_good _ hgood), dictServed, if_neg (by simp),
        State.busTake_malformed hcount]
      rfl
    · subst hread hcount
      rw [State.dictServe_taken h hacc (State.writePart_good _ hgood)] at hexec
      have hbus := s.readServed_bus (us := us) (data := data) (within := within) State.stretched_clk
      intro a taken shown
      have hshown (b : Bus) (hb : ((s.takes (readAcc key)).stretched within).bus = b) (hseq : b.seq = s.bus.seq + 1) :
          shown (dictServed true 3 data within us s.busSilent (data.take 3)) := by
        have hbus := hbus.trans (congrArg (s.showing _ _) hb)
        exact ⟨hexec, (congrArg Bus.seq hbus).trans hseq, by rw [hbus]; rfl⟩
      refine ⟨fun hw => ?_, fun hw => ?_, fun hw => ?_, fun hw => ?_⟩ <;> subst hw
      · exact ⟨_, hshown _ State.stretched_none rfl, congrArg Bus.acc hbus, congrArg Bus.state hbus⟩
      · have hbus := hbus.trans (congrArg (s.showing _ _) State.stretched_done)
        exact ⟨_, hshown _ State.stretched_done rfl, congrArg Bus.acc hbus, congrArg Bus.state hbus, congrArg Bus.status hbus,
          congrArg Bus.value hbus⟩
      · obtain ⟨flags, reasons, hend, hset⟩ := State.stretched_requestBad (s := s) (key := key)
        have hbus := hbus.trans (congrArg (s.showing _ _) hend)
        exact ⟨_, hshown _ hend rfl, congrArg Bus.state hbus, congrArg Bus.status hbus,
          (congrArg (fun b : Bus => b.flags.getLsbD 6) hbus).trans hset⟩
      · obtain ⟨flags, reasons, hend, hset⟩ := State.stretched_resultBad (s := s) (key := key)
        have hbus := hbus.trans (congrArg (s.showing _ _) hend)
        exact ⟨_, hshown _ hend rfl, congrArg Bus.state hbus, (congrArg (fun b : Bus => b.flags.getLsbD 6) hbus).trans hset⟩
  · rw [hresult, State.dictResult, if_neg (by simp [h])]
    rfl
  · rw [hresult, State.dictResult, if_pos (by simp [h])]
  · rcases h with h | h
    · rw [hcomplete, State.busComplete_none how h]
    · obtain ⟨a, hacc, hwaits⟩ := Option.any_eq_true _ _ |>.mp h
      rw [hcomplete, State.busComplete_waits how hacc hwaits]
  · have hbus := State.busDone_bus (s := s.accessBy 128) (s.readEntry a.key).1 (s.readEntry a.key).2 hacc
    rw [hcomplete, State.busComplete_done_read hacc hwaits hread]
    refine ⟨_, rfl, congrArg Bus.acc hbus, congrArg Bus.state hbus, congrArg Bus.status hbus, fun htold => ?_⟩
    rw [hbus, htold]
    exact (nbit_nset s.bus.reasons 1 1 true).trans (if_pos rfl)
  · rw [hcomplete, State.busComplete_done_write hacc hwaits hread hdone]
  · rw [hcomplete, State.busComplete_requestBad hacc hwaits]
  · rw [hcomplete, State.busComplete_resultBad hacc hwaits hread]

end

end Sys2Proof.Machine
end

section
/-!
PROOFS. Slice0/FaultRegisters: the bits of the collector after a report, a wire fault and a clear, and the writes of its registers
(R377–R382).
-/

namespace Sys2Proof.Machine

/-! ### What a report sets (R378, R381) -/

section
variable (s : State) {n : Nat} (code inst j : Nat)

/-- A report sets the sticky bit of its source and no other; a pair that reads equal lets no report through. -/
theorem State.reportAt_sticky (hboot : s.boot ≠ .held) (hn : n < 128) : (s.reportAt n code inst).faults.sticky.getLsbD j =
    (s.faults.sticky.getLsbD j || (decide (j = n) && !s.faults.equal.getLsbD n)) := by
  rw [State.reportAt_eq]
  by_cases hequal : s.faults.equal.getLsbD n = true
  · rw [if_pos (.inr hequal), hequal, Bool.not_true, Bool.and_false, Bool.or_false]
  · have hlatched : (s.latched n).faults.sticky.getLsbD j = (s.faults.sticky.getLsbD j || decide (j = n)) :=
      vset_true_getLsbD _ hn j
    have honset (wait : Bool) : (if s.faults.sticky.getLsbD n then s.latched n else
        (s.latched n).onset n (s.reaction n) wait).faults.sticky = (s.latched n).faults.sticky := by
      split
      · rfl
      · rw [State.onset_sticky]
    rw [if_neg (by simp [hboot, hequal]), Bool.eq_false_of_not_eq_true hequal, Bool.not_false, Bool.and_true, ← hlatched]
    split
    · rfl
    · split
      · rfl
      · split
        · exact congrArg (fun b : BitVec 128 => b.getLsbD j) (honset _)
        · rw [honset]

theorem State.report_sticky_bit (hboot : s.boot ≠ .held) (hn : n < 128) : (s.report n inst).faults.sticky.getLsbD j =
    (s.faults.sticky.getLsbD j || (decide (j = n) && !s.faults.equal.getLsbD n)) :=
  s.reportAt_sticky _ inst j hboot hn

/-- A change with IRQ sets the FAULT reason. -/
theorem State.onset_reason {mask : Nat} (wait : Bool) (h : nbit mask 0 = true) :
    nbit (s.onset code mask wait).bus.reasons 0 = true := by
  have hevent : nbit (s.queueEvent code).bus.reasons 0 = true := (nbit_nset _ 0 0 true).trans (if_pos rfl)
  rw [State.onset, if_pos h]
  split
  · rwa [State.trap_bus]
  · exact hevent

variable {s code inst}
variable (hboot : s.boot ≠ .held) (hequal : s.faults.equal.getLsbD n = false)
include hboot hequal

/-- An armed source with CHIPRST asks for a chip reset. -/
theorem State.report_chip (hquiet : ¬ (isLevel n = true ∧ s.faults.sticky.getLsbD n = true))
    (hchip : nbit (s.reaction n) 3 = true ∧ s.faults.disarmed.getLsbD n = false) : n ∈ (s.report n inst).faults.chipReq := by
  rw [State.report, State.reportAt_eq, if_neg (by simp [hboot, hequal]), if_neg (by simpa using hquiet), if_pos (by simpa using hchip)]
  exact mem_insertOnce.mpr (.inl rfl)

variable (hchip : ¬ (nbit (s.reaction n) 3 = true ∧ s.faults.disarmed.getLsbD n = false))
include hchip

/-- The change of a bit with IRQ sets the FAULT reason, whether a block reset is asked for or not. -/
theorem State.report_reason (hirq : nbit (s.reaction n) 0 = true) (hwas : s.faults.sticky.getLsbD n = false) :
    nbit (s.report n inst).bus.reasons 0 = true := by
  rw [State.report, State.reportAt_eq, if_neg (by simp [hboot, hequal]), if_neg (by simp [hwas]), if_neg (by simpa using hchip),
    if_neg (c := s.faults.sticky.getLsbD n = true) (by simp [hwas])]
  split
  · exact State.onset_reason _ _ _ hirq
  · exact State.onset_reason _ _ _ hirq

/-- BLOCKRST asks for the reset of the block of the source. -/
theorem State.report_block (hquiet : ¬ (isLevel n = true ∧ s.faults.sticky.getLsbD n = true)) (hrst : nbit (s.reaction n) 2 = true)
    {b : Nat} (hb : sourceBlock n = some b) : (b, inst) ∈ (s.report n inst).faults.blockReq := by
  rw [State.report, State.reportAt_eq, if_neg (by simp [hboot, hequal]), if_neg (by simpa using hquiet), if_neg (by simpa using hchip),
    if_pos (by simp [hrst, hb]), hb]
  exact List.mem_append_right _ List.mem_cons_self

end

/-! ### Wire faults (R377) -/

section
variable (s : State) (n j : Nat)

/-- The WIRE bit of a source is set. -/
def State.wired : State := { s with faults := { s.faults with wire := vset s.faults.wire n true } }

theorem State.setWire_eq : s.setWire n =
    if s.faults.wire.getLsbD n then s else (s.wired n).onset (0x100 + n) s.wireReaction false := rfl

theorem State.setWire_levels : SameLevels (s.wired n) ((s.wired n).onset (0x100 + n) s.wireReaction false) :=
  SameLevels.onset ⟨rfl, rfl, rfl, rfl⟩ _ _ _

theorem State.setWire_wire {n : Nat} (hn : n < 128) :
    (s.setWire n).faults.wire.getLsbD j = (s.faults.wire.getLsbD j || decide (j = n)) := by
  rw [State.setWire_eq]
  split
  next h =>
    by_cases hj : j = n
    · rw [hj, h, Bool.true_or]
    · rw [decide_eq_false hj, Bool.or_false]
  · rw [(s.setWire_levels n).wire]
    exact vset_true_getLsbD _ hn j

@[simp] theorem State.setWire_sticky : (s.setWire n).faults.sticky = s.faults.sticky := by
  rw [State.setWire_eq]
  split
  · rfl
  · rw [State.onset_sticky]
    rfl

@[simp] theorem State.setWire_equal : (s.setWire n).faults.equal = s.faults.equal := by
  rw [State.setWire_eq]
  split
  · rfl
  · rw [(s.setWire_levels n).equal]
    rfl

/-- The change of a WIRE bit with IRQ sets the FAULT reason. -/
theorem State.setWire_reason (hirq : nbit s.wireReaction 0 = true) (hwas : s.faults.wire.getLsbD n = false) :
    nbit (s.setWire n).bus.reasons 0 = true := by
  rw [State.setWire_eq, if_neg (by simp [hwas])]
  exact State.onset_reason _ _ _ hirq

end

/-! ### Clears (R379, R382) -/

section
variable (s : State) (ns : List Nat) (j : Nat)

theorem State.each_report_sticky (hns : ∀ n ∈ ns, n < 128) (hboot : s.boot ≠ .held) :
    (s.each ns (fun t n => t.report n)).faults.sticky.getLsbD j =
      (s.faults.sticky.getLsbD j || (decide (j ∈ ns) && !s.faults.equal.getLsbD j)) := by
  induction ns generalizing s with
  | nil => exact (Bool.or_false _).symm
  | cons n ns ih =>
    have hstep := ih (s.report n) (fun k hk => hns k (List.mem_cons_of_mem _ hk)) (by simpa using hboot)
    rw [s.report_sticky_bit 0 j hboot (hns n List.mem_cons_self), State.report_equal] at hstep
    refine hstep.trans ?_
    by_cases hj : j = n
    · subst hj
      cases s.faults.equal.getLsbD j <;> simp
    · simp [hj]

theorem State.each_setWire_wire (hns : ∀ n ∈ ns, n < 128) :
    (s.each ns (fun t n => t.setWire n)).faults.wire.getLsbD j = (s.faults.wire.getLsbD j || decide (j ∈ ns)) := by
  induction ns generalizing s with
  | nil => exact (Bool.or_false _).symm
  | cons n ns ih =>
    have hstep := ih (s.setWire n) (fun k hk => hns k (List.mem_cons_of_mem _ hk))
    rw [s.setWire_wire j (hns n List.mem_cons_self)] at hstep
    refine hstep.trans ?_
    by_cases hj : j = n <;> simp [hj]

end

section
variable (s : State) (ns : BitVec 128)

/-- The sticky bits, CHIPRST's re-arming and the traps that wait, of the sources to clear. -/
def State.stickyDropped : State :=
  { s with faults := { s.faults with
    sticky := s.faults.sticky &&& ~~~ns, disarmed := s.faults.disarmed &&& ~~~ns
    nmiWait := s.faults.nmiWait.filter (fun n => !(decide (n < 128) && ns.getLsbD n)) } }

/-- The WIRE bits and the traps that wait, of the sources to clear. -/
def State.wireDropped : State :=
  { s with faults := { s.faults with
    wire := s.faults.wire &&& ~~~ns
    nmiWait := s.faults.nmiWait.filter (fun n => !(decide (256 ≤ n) && ns.getLsbD (n - 256))) } }

theorem State.clearSticky_eq : s.clearSticky ns = (s.stickyDropped ns).each
    ((List.range 128).filter (fun n => ns.getLsbD n && s.faults.now.getLsbD n)) (fun t n => t.report n) := rfl

theorem State.clearWire_eq : s.clearWire ns = (s.wireDropped ns).each
    ((List.range 128).filter (fun n => ns.getLsbD n && s.faults.equal.getLsbD n)) (fun t n => t.setWire n) := rfl

theorem State.clearSticky_levels : SameLevels (s.stickyDropped ns) (s.clearSticky ns) := by
  rw [State.clearSticky_eq]
  exact State.each_keeps (SameLevels (s.stickyDropped ns)) _ _ _ ⟨rfl, rfl, rfl, rfl⟩ fun _ n h => h.trans (.reportAt n _ 0)

theorem State.clearSticky_disarmed {n : Nat} (hn : n < 128) :
    (s.clearSticky (BitVec.ofNat 128 (2 ^ n))).faults.disarmed.getLsbD n = false := by
  rw [(s.clearSticky_levels _).disarmed]
  change (s.faults.disarmed &&& ~~~(BitVec.ofNat 128 (2 ^ n))).getLsbD n = false
  rw [BitVec.getLsbD_and, BitVec.getLsbD_not, getLsbD_two_pow hn]
  simp

theorem mem_filter_sources {p : Nat → Bool} {j : Nat} (hj : j < 128) : decide (j ∈ (List.range 128).filter p) = p j := by
  simp [List.mem_filter, hj]

theorem lt_of_mem_filter_sources {p : Nat → Bool} {n : Nat} (h : n ∈ (List.range 128).filter p) : n < 128 :=
  List.mem_range.mp (List.mem_filter.mp h).1

/-- What is cleared stays set only where a level source still reports through a good pair. -/
theorem State.clearSticky_sticky (hboot : s.boot ≠ .held) {j : Nat} (hj : j < 128) : (s.clearSticky ns).faults.sticky.getLsbD j =
    if ns.getLsbD j then s.faults.now.getLsbD j && !s.faults.equal.getLsbD j else s.faults.sticky.getLsbD j := by
  have hdropped : (s.stickyDropped ns).faults.sticky.getLsbD j = (s.faults.sticky.getLsbD j && !ns.getLsbD j) := by
    change (s.faults.sticky &&& ~~~ns).getLsbD j = _
    simp [hj]
  have hequal : (s.stickyDropped ns).faults.equal = s.faults.equal := rfl
  rw [State.clearSticky_eq,
    State.each_report_sticky (s.stickyDropped ns) _ _ (fun _ => lt_of_mem_filter_sources) hboot, mem_filter_sources hj,
    hdropped, hequal]
  cases ns.getLsbD j <;> simp

/-- What is cleared stays set only where the pair still reads equal. -/
theorem State.clearWire_wire {j : Nat} (hj : j < 128) : (s.clearWire ns).faults.wire.getLsbD j =
    if ns.getLsbD j then s.faults.equal.getLsbD j else s.faults.wire.getLsbD j := by
  have hdropped : (s.wireDropped ns).faults.wire.getLsbD j = (s.faults.wire.getLsbD j && !ns.getLsbD j) := by
    change (s.faults.wire &&& ~~~ns).getLsbD j = _
    simp [hj]
  rw [State.clearWire_eq, State.each_setWire_wire _ _ _ (fun _ => lt_of_mem_filter_sources), mem_filter_sources hj, hdropped]
  cases ns.getLsbD j <;> simp

theorem State.clearWire_sticky : (s.clearWire ns).faults.sticky = s.faults.sticky := by
  rw [State.clearWire_eq]
  exact State.each_keeps (fun t => t.faults.sticky = s.faults.sticky) _ _ _ rfl fun t n h => (t.setWire_sticky n).trans h

/-- The collector judges a pair by the stack's start, its power and its resets. -/
theorem State.judges_congr {s t : State} (hboot : t.boot = s.boot) (hpower : t.power = s.power) (hclk : t.clk = s.clk) (n : Nat) :
    t.judges n = s.judges n := by
  simp only [State.judges, State.inReset, hboot, hpower, hclk]

theorem State.clearSticky_judges (n : Nat) : (s.clearSticky ns).judges n = s.judges n := by
  rw [State.clearSticky_eq]
  refine State.each_keeps (fun t => t.judges n = s.judges n) _ _ _ rfl fun t k h => ?_
  exact (State.judges_congr (t.report_boot k 0) (t.report_power k 0) (t.report_clk k 0) n).trans h

theorem State.clearSticky_boot : (s.clearSticky ns).boot = s.boot := by
  rw [State.clearSticky_eq]
  exact State.each_keeps (fun t => t.boot = s.boot) _ _ _ rfl fun t k h => (t.report_boot k 0).trans h

theorem State.boot_of_judges {n : Nat} (h : s.judges n = true) : s.boot ≠ .held := by
  simp only [State.judges, Bool.and_eq_true, decide_eq_true_eq] at h
  exact h.1.1

theorem State.boot_of_judge {k : Nat} (h : s.judge k = 0) : s.boot ≠ .held := by
  have hruns : s.mpRuns = true := by
    by_contra hdown
    rw [State.judge, if_pos (by simpa using hdown)] at h
    cases h
  simp only [State.mpRuns, Bool.and_eq_true, decide_eq_true_eq] at hruns
  exact hruns.1.1

end

/-! ### Writes of the collector's registers -/

/-- The rows of a source and of the collector (Tables 3 and 6). -/
def bitRow (sub : Nat) : EntryRow := { lo := sub, hi := sub, ty := .bool, right := .rw, gate := .field, len := 1 }
def clearRow (sub : Nat) : EntryRow := { lo := sub, hi := sub, ty := .blob, right := .wo, gate := .field, len := 16, dflt := none }
def maskRow (sub : Nat) (dflt : Option Nat) : EntryRow :=
  { lo := sub, hi := sub, ty := .u8, right := .rw, gate := .field, len := 1, dflt := dflt, mask := some 0x1F }

theorem entryRow_source {n : Nat} (hn : n < 128) : entryRow (sourceKey n 1) = some (bitRow 1) ∧
    entryRow (sourceKey n 2) = some (bitRow 2) ∧ entryRow (sourceKey n 3) = some (maskRow 3 none) := by
  revert n
  decide +kernel

/-- A write of a value, of an entry that is there to be written, is answered with what becomes of the value. -/
theorem State.writeBy_value {s : State} {m : Master} {k : Nat} {r : EntryRow} {val : List Byte} {env : AccEnv}
    (hhears : s.hears m = true) (hjudge : s.judge k = 0) (hrow : entryRow k = some r) (hty : r.ty ≠ .cmd)
    (hright : r.right = .rw ∨ r.right = .wo) (hlen : val.length = r.len) (hmax : r.len ≤ 16)
    (hok : (typeOk r.ty (bytesNat val) && (s.asks m k val).valueOk k r (maskOf r (bytesNat val))) = true) :
    s.writeBy m k val env =
      ((s.asks m k val).putValue k (maskOf r (bytesNat val)) env).2.tells s.dict.mpDown m k
        ((s.asks m k val).putValue k (maskOf r (bytesNat val)) env).1 := by
  have hvalue : (s.asks m k val).writeValue k r val env = (s.asks m k val).putValue k (maskOf r (bytesNat val)) env := by
    rw [State.writeValue, if_neg (by rcases hright with h | h <;> simp [h]), if_neg (by simp [hlen]), if_neg (by simpa using hok),
      if_neg (by rcases hright with h | h <;> simp [h])]
  have hwrite := State.writeEntry_value (s.asks m k val) m k r val env
    (by rw [State.judgeWrite_asks, State.judgeWrite_zero hjudge]) hrow hty
  rw [hvalue] at hwrite
  exact State.writeBy_told s _ m k _ val env hhears (by omega) hwrite

section
variable {s : State} {m : Master} {n : Nat} {env : AccEnv}

/-- What becomes of a value of a source's register. -/
theorem State.putValue_source (t : State) (hn : n < 128) (v : Nat) :
    t.putValue (sourceKey n 1) v env = (0, t.writeBit n false v env.again) ∧
    t.putValue (sourceKey n 2) v env = (0, t.writeBit n true v env.again) ∧
    t.putValue (sourceKey n 3) v env = t.writeReaction (some n) v := by
  have hindex (sub : Nat) (hsub : sub < 256) : sourceKey n sub / 256 = 0x4000 + n ∧ sourceKey n sub % 256 = sub := by
    simp only [sourceKey, ekey]; omega
  have hlow : 0x4000 ≤ 0x4000 + n ∧ 0x4000 + n ≤ 0x407F := by omega
  obtain ⟨hdiv1, hmod1⟩ := hindex 1 (by decide)
  obtain ⟨hdiv2, hmod2⟩ := hindex 2 (by decide)
  obtain ⟨hdiv3, hmod3⟩ := hindex 3 (by decide)
  refine ⟨?_, ?_, ?_⟩
  · rw [State.putValue, hdiv1, hmod1]
    exact (if_pos ⟨hlow.1, hlow.2, rfl⟩).trans (by rw [Nat.add_sub_cancel_left])
  · rw [State.putValue, hdiv2, hmod2]
    exact (if_neg (by simp)).trans ((if_pos ⟨hlow.1, hlow.2, rfl⟩).trans (by rw [Nat.add_sub_cancel_left]))
  · rw [State.putValue, hdiv3, hmod3]
    exact (if_neg (by simp)).trans ((if_neg (by simp)).trans ((if_pos ⟨hlow.1, hlow.2, rfl⟩).trans
      (by rw [Nat.add_sub_cancel_left])))

theorem bytesNat_byte (b : Byte) : bytesNat [b] = b.toNat := by simp [bytesNat]

/-- STICKY and WIRE of a source take a 0 or a 1. -/
theorem State.writeBy_bit {wire : Bool} {b : Byte} (hn : n < 128) (hb : b.toNat ≤ 1) (hhears : s.hears m = true)
    (hjudge : s.judge (sourceKey n (if wire then 2 else 1)) = 0) :
    s.writeBy m (sourceKey n (if wire then 2 else 1)) [b] env =
      ((s.asks m (sourceKey n (if wire then 2 else 1)) [b]).writeBit n wire b.toNat env.again).tells s.dict.mpDown m
        (sourceKey n (if wire then 2 else 1)) 0 := by
  obtain ⟨hsticky, hwire, -⟩ := entryRow_source hn
  have hput := State.putValue_source (env := env) (s.asks m (sourceKey n (if wire then 2 else 1)) [b]) hn b.toNat
  have hok (sub : Nat) (t : State) (k : Nat) :
      (typeOk (bitRow sub).ty (bytesNat [b]) && t.valueOk k (bitRow sub) (maskOf (bitRow sub) (bytesNat [b]))) = true := by
    simp [bitRow, typeOk, State.valueOk, bytesNat_byte, hb]
  have hnum (sub : Nat) : maskOf (bitRow sub) (bytesNat [b]) = b.toNat := bytesNat_byte b
  cases wire with
  | false =>
    refine (State.writeBy_value hhears hjudge hsticky (by decide) (.inl rfl) rfl (by decide) (hok _ _ _)).trans ?_
    rw [hnum]
    exact congrArg (fun x : Nat × State => x.2.tells s.dict.mpDown m (sourceKey n 1) x.1) hput.1
  | true =>
    refine (State.writeBy_value hhears hjudge hwire (by decide) (.inl rfl) rfl (by decide) (hok _ _ _)).trans ?_
    rw [hnum]
    exact congrArg (fun x : Nat × State => x.2.tells s.dict.mpDown m (sourceKey n 2) x.1) hput.2.1

/-- STICKY_CLEAR and WIRE_CLEAR take 128 bits. -/
theorem State.writeBy_clear {wire : Bool} {val : List Byte} (hhears : s.hears m = true)
    (hjudge : s.judge (ekey 0x4000 (if wire then 0x83 else 0x82)) = 0) (hlen : val.length = 16) :
    s.writeBy m (ekey 0x4000 (if wire then 0x83 else 0x82)) val env =
      (if wire then (s.asks m (ekey 0x4000 0x83) val).clearWire (BitVec.ofNat 128 (bytesNat val))
        else (s.asks m (ekey 0x4000 0x82) val).clearSticky (BitVec.ofNat 128 (bytesNat val))).tells s.dict.mpDown m
          (ekey 0x4000 (if wire then 0x83 else 0x82)) 0 := by
  have hok (sub : Nat) (t : State) (k v : Nat) :
      (typeOk (clearRow sub).ty v && t.valueOk k (clearRow sub) (maskOf (clearRow sub) v)) = true := rfl
  cases wire with
  | false =>
    exact State.writeBy_value (r := clearRow 0x82) hhears hjudge (by decide) (by decide) (.inr rfl) hlen (by decide) (hok _ _ _ _)
  | true =>
    exact State.writeBy_value (r := clearRow 0x83) hhears hjudge (by decide) (by decide) (.inr rfl) hlen (by decide) (hok _ _ _ _)

/-- REACTION and WIRE_REACTION take five bits. -/
theorem State.writeBy_reaction {source : Option Nat} {v : Byte} (hsource : source.all isSourceNum = true) (hhears : s.hears m = true)
    (hjudge : s.judge (source.elim (ekey 0x4000 0x84) (fun n => sourceKey n 3)) = 0) :
    s.writeBy m (source.elim (ekey 0x4000 0x84) (fun n => sourceKey n 3)) [v] env =
      ((s.asks m (source.elim (ekey 0x4000 0x84) (fun n => sourceKey n 3)) [v]).writeReaction source (v.toNat % 32)).2.tells
        s.dict.mpDown m (source.elim (ekey 0x4000 0x84) (fun n => sourceKey n 3))
        ((s.asks m (source.elim (ekey 0x4000 0x84) (fun n => sourceKey n 3)) [v]).writeReaction source (v.toNat % 32)).1 := by
  have hok (sub : Nat) (d : Option Nat) (t : State) (k v : Nat) :
      (typeOk (maskRow sub d).ty v && t.valueOk k (maskRow sub d) (maskOf (maskRow sub d) v)) = true := rfl
  have hmask (sub : Nat) (d : Option Nat) : maskOf (maskRow sub d) (bytesNat [v]) = v.toNat % 32 := by
    rw [bytesNat_byte]
    exact Nat.and_two_pow_sub_one_eq_mod v.toNat 5
  cases source with
  | none =>
    refine (State.writeBy_value (r := maskRow 0x84 (some 0x11)) hhears hjudge (by decide) (by decide) (.inl rfl) rfl (by decide)
      (hok _ _ _ _ _)).trans ?_
    rw [hmask]
    rfl
  | some n =>
    have hn : n < 128 := by simpa [isSourceNum] using hsource
    refine (State.writeBy_value hhears hjudge (entryRow_source hn).2.2 (by decide) (.inl rfl) rfl (by decide)
      (hok _ _ _ _ _)).trans ?_
    rw [hmask]
    exact congrArg (fun x : Nat × State => x.2.tells s.dict.mpDown m (sourceKey n 3) x.1) (State.putValue_source _ hn _).2.2

end

theorem nbit_mod_32 (v i : Nat) (hi : i < 5) : nbit (v % 32) i = nbit v i := by
  rw [nbit, nbit, show (32 : Nat) = 2 ^ 5 from rfl, Nat.testBit_mod_two_pow]
  simp [hi]

/-- The masks that are refused: BLOCKRST of a source without a block, either reset in WIRE_REACTION. -/
def badMask (source : Option Nat) (v : Nat) : Bool :=
  source.elim (nbit v 2 || nbit v 3) (fun n => isSource n && nbit v 2 && (sourceBlock n).isNone)

theorem State.writeReaction_bad {s : State} {source : Option Nat} {v : Nat} (h : badMask source v = true) :
    s.writeReaction source (v % 32) = (0x0105, s) := by
  cases source with
  | none => exact if_pos (by rw [nbit_mod_32 v 2 (by decide), nbit_mod_32 v 3 (by decide)]; exact h)
  | some n =>
    obtain ⟨⟨hsource, hrst⟩, hblock⟩ : (isSource n = true ∧ nbit v 2 = true) ∧ (sourceBlock n).isNone = true := by
      simpa only [badMask, Option.elim, Bool.and_eq_true] using h
    rw [State.writeReaction, if_neg (by simp [hsource]), if_pos (by simp [nbit_mod_32 v 2 (by decide), hrst, hblock])]

theorem State.writeReaction_good {s : State} {source : Option Nat} {v : Nat} (h : badMask source v = false)
    (hsource : source.all isSource = true) : s.writeReaction source (v % 32) =
      (0, s.rset (source.elim (ekey 0x4000 0x84) (fun n => sourceKey n 3)) (v % 32)) := by
  have hmod : v % 32 % 32 = v % 32 := Nat.mod_mod v 32
  cases source with
  | none =>
    rw [State.writeReaction, if_neg (by rw [nbit_mod_32 v 2 (by decide), nbit_mod_32 v 3 (by decide)]; simpa [badMask] using h), hmod]
    rfl
  | some n =>
    have hsource : isSource n = true := hsource
    have hrst : (nbit v 2 && (sourceBlock n).isNone) = false := by simpa [badMask, hsource] using h
    rw [State.writeReaction, if_neg (by simp [hsource]), if_neg (by rw [nbit_mod_32 v 2 (by decide), hrst]; decide), hmod]
    rfl

/-- A report that the surroundings name after a clear, of a source that is no level source. -/
theorem State.writeBit_again {s : State} {n v : Nat} {ci : Nat × Nat} (hsource : isSource n = true) (hlevel : isLevel n = false)
    (hjudges : s.judges n = true) (hequal : s.faults.equal.getLsbD n = false) (hn : n < 128) :
    (s.writeBit n false v (some ci)).faults.sticky.getLsbD n = true := by
  obtain ⟨t, ht⟩ : ∃ t, t = if v = 0 then s else s.clearSticky (BitVec.ofNat 128 (2 ^ n)) := ⟨_, rfl⟩
  obtain ⟨hboot, hequal, hjudges⟩ : t.boot ≠ .held ∧ t.faults.equal.getLsbD n = false ∧ t.judges n = true := by
    rw [ht]
    split
    · exact ⟨s.boot_of_judges hjudges, hequal, hjudges⟩
    · rw [State.clearSticky_boot, (s.clearSticky_levels _).equal, State.clearSticky_judges]
      exact ⟨s.boot_of_judges hjudges, hequal, hjudges⟩
  have hbit : s.writeBit n false v (some ci) =
      if sourceBlock n = some 0xFE then t.reportAt n ci.1 ci.2 else t.report n ci.2 := by
    rw [ht] at hjudges ⊢
    exact if_neg (by simpa [hlevel, hsource] using hjudges)
  rw [hbit]
  split
  · rw [State.reportAt_sticky _ _ _ _ hboot hn, hequal]
    simp
  · rw [State.report_sticky_bit _ _ _ hboot hn, hequal]
    simp

/-- Settles O56: a report by the branches of `reportAt`, the clears bit by bit, the writes through `writeBy_value`. -/
theorem faultsAreRecordedAndCleared : Obligations.FaultsAreRecordedAndCleared := by
  intro s
  refine ⟨?_, fun n hn => ⟨fun hjudges => ?_, fun hjudges => ?_, ?_⟩, ?_, ?_, ?_,
    fun hruns => ⟨?_, ?_⟩, fun hruns => ⟨?_, ?_⟩⟩
  · intro n inst hn hboot hequal
    refine ⟨?_, fun j hj hne => ?_, State.report_chip hboot hequal, State.report_reason hboot hequal,
      fun b hquiet hchip hrst hb => State.report_block hboot hequal hchip hquiet hrst hb⟩
    · rw [State.report_sticky_bit _ _ _ hboot hn, hequal]
      simp
    · rw [State.report_sticky_bit _ _ _ hboot hn, decide_eq_false hne, Bool.false_and, Bool.or_false]
  · have hexec : exec (.wireFault n true) s = .next (s.wireFault n true).settle := finish_wf (decide_eq_true hn) _
    rw [State.wireFault, if_pos rfl, if_pos hjudges] at hexec
    refine ⟨_, hexec, ?_, ?_, fun j hj hne => ?_, fun hirq hwas => State.setWire_reason _ n hirq hwas⟩
    · rw [State.setWire_equal]
      exact vset_getLsbD _ _ _ hn
    · rw [State.setWire_wire _ _ hn]
      simp
    · rw [State.setWire_wire _ _ hn, decide_eq_false hne, Bool.or_false]
  · have hexec : exec (.wireFault n true) s = .next (s.wireFault n true).settle := finish_wf (decide_eq_true hn) _
    rw [hexec, State.wireFault, if_pos rfl, if_neg (by simp [hjudges])]
  · have hexec : exec (.wireFault n false) s = .next (s.wireFault n false).settle := finish_wf (decide_eq_true hn) _
    have hjudges : ({ s with faults := { s.faults with equal := vset s.faults.equal n false } } : State).judges n = s.judges n :=
      State.judges_congr rfl rfl rfl n
    rw [hexec, State.wireFault, if_neg (by decide)]
    simp only [hjudges, Bool.and_eq_true, and_assoc]
  · intro m n wire val again key hwf hhears hjudge
    have hexec : exec (.stickyWrite m n wire val again) s = .next (s.writeBy m key val { again := again }).settle := finish_wf hwf _
    obtain ⟨⟨⟨-, hn⟩, -⟩, -⟩ : ((m.wf = true ∧ n < 128) ∧ _) ∧ _ := by
      simpa only [Instr.wf, isSourceNum, Bool.and_eq_true, decide_eq_true_eq] using hwf
    have hboot : (s.asks m key val).boot ≠ .held := by simpa using s.boot_of_judge hjudge
    have hbit (b : Byte) (hb : b.toNat ≤ 1) := State.writeBy_bit (env := { again := again }) (wire := wire) hn hb hhears hjudge
    refine ⟨?_, ?_, ?_⟩
    · rintro rfl rfl
      rw [hexec, hbit 0 (by decide)]
      rfl
    · rintro rfl rfl
      rw [hbit 1 (by decide)] at hexec
      refine ⟨_, hexec, fun hwire => ?_, fun hwire => ?_⟩
      · subst hwire
        have hclear : (s.asks m key [1]).writeBit n false (1 : Byte).toNat none =
            (s.asks m key [1]).clearSticky (BitVec.ofNat 128 (2 ^ n)) := rfl
        rw [hclear]
        refine ⟨?_, State.clearSticky_disarmed _ hn, fun j hj hne => ?_⟩
        · rw [State.clearSticky_sticky _ _ hboot hn, getLsbD_two_pow hn, if_pos (by simp), State.asks_faults]
        · rw [State.clearSticky_sticky _ _ hboot hj, getLsbD_two_pow hn, if_neg (by simp [hne]), State.asks_faults]
      · subst hwire
        have hclear : (s.asks m key [1]).writeBit n true (1 : Byte).toNat none =
            (s.asks m key [1]).clearWire (BitVec.ofNat 128 (2 ^ n)) := rfl
        rw [hclear]
        refine ⟨?_, fun j hj hne => ?_⟩
        · rw [State.clearWire_wire _ _ hn, getLsbD_two_pow hn, if_pos (by simp), State.asks_faults]
        · rw [State.clearWire_wire _ _ hj, getLsbD_two_pow hn, if_neg (by simp [hne]), State.asks_faults]
    · rintro rfl hagain hwire hsource hlevel hjudges hequal
      subst hwire
      obtain ⟨ci, rfl⟩ := Option.ne_none_iff_exists'.mp hagain
      rw [hbit 1 (by decide)] at hexec
      refine ⟨_, hexec, State.writeBit_again hsource hlevel ?_ ?_ hn⟩
      · rw [State.judges_congr (State.asks_boot ..) (State.asks_power ..) (State.asks_clk ..), hjudges]
      · rw [State.asks_faults, hequal]
  · intro m wire val key ns hwf hhears hjudge hlen
    have hexec : exec (.stickyClear m wire val) s = .next (s.writeBy m key val {}).settle :=
      finish_wf (by simp [Instr.wf, hwf, isVal, hlen]) _
    rw [State.writeBy_clear hhears hjudge hlen] at hexec
    refine ⟨_, hexec, fun j hj => ⟨fun hwire => ?_, fun hwire => ?_⟩⟩
    · subst hwire
      have hboot : (s.asks m (ekey 0x4000 0x82) val).boot ≠ .held := by simpa using s.boot_of_judge hjudge
      rw [if_neg (by decide), State.clearSticky_sticky _ _ hboot hj, (State.clearSticky_levels _ _).wire, State.stickyDropped,
        State.asks_faults]
      exact ⟨rfl, rfl⟩
    · subst hwire
      rw [if_pos rfl, State.clearWire_wire _ _ hj, State.clearWire_sticky, State.asks_faults]
      exact ⟨rfl, rfl⟩
  · intro m source v key u bad hwf hhears hjudge
    have hexec : exec (.reactionWrite m source [v]) s = .next (s.writeBy m key [v] {}).settle := finish_wf hwf _
    have hsource : source.all isSourceNum = true := by
      simp only [Instr.wf, Bool.and_eq_true] at hwf
      exact hwf.1.2
    rw [State.writeBy_reaction hsource hhears hjudge] at hexec
    refine ⟨fun hbad => ?_, fun hbad hall => ?_⟩
    · rw [hexec, State.writeReaction_bad (show badMask source v.toNat = true from hbad)]
    · rw [hexec, State.writeReaction_good (show badMask source v.toNat = false from hbad) hall]
  · have hexec : exec .mgmtWdtWarn s = .next (s.watchdog 80).settle := finish_wf rfl _
    rw [hexec, State.watchdog, if_pos hruns]
  · have hexec : exec .mgmtWdt s = .next (s.watchdog 81).settle := finish_wf rfl _
    rw [hexec, State.watchdog, if_pos hruns]
  · have hexec : exec .mgmtWdtWarn s = .next (s.watchdog 80).settle := finish_wf rfl _
    rw [hexec, State.watchdog, if_neg (by simp [hruns])]
  · have hexec : exec .mgmtWdt s = .next (s.watchdog 81).settle := finish_wf rfl _
    rw [hexec, State.watchdog, if_neg (by simp [hruns])]

end Sys2Proof.Machine
end

section
/-!
PROOFS. Slice0/DataPath: what the work of ports, channels and the engine leaves unchanged of the stack: the variant, the boot
state, and the thermal evaluator but for its count of activations (R321).
-/

namespace Sys2Proof.Machine

/-- The variant and the boot state are the same, and the thermal evaluator but for the activations it has counted. -/
structure DataFrame (s t : State) : Prop where
  fixed : (t.variant, t.boot) = (s.variant, s.boot)
  therm : t.therm = { s.therm with actNow := t.therm.actNow }

namespace DataFrame

variable {s t u : State}

theorem variant (h : DataFrame s t) : t.variant = s.variant := congrArg Prod.fst h.fixed
theorem boot (h : DataFrame s t) : t.boot = s.boot := congrArg Prod.snd h.fixed

theorem refl (s : State) : DataFrame s s := ⟨rfl, rfl⟩

theorem trans (h : DataFrame s t) (h' : DataFrame t u) : DataFrame s u :=
  ⟨h'.fixed.trans h.fixed, h'.therm.trans (by rw [h.therm])⟩

/-! ### The ways in which a state changes -/

theorem congr (h : DataFrame s t) (hf : (u.variant, u.boot) = (t.variant, t.boot)) (ht : u.therm = t.therm) :
    DataFrame s u := ⟨hf.trans h.fixed, ht ▸ h.therm⟩

theorem ite {c : Prop} [Decidable c] (ht : DataFrame s t) (hu : DataFrame s u) : DataFrame s (if c then t else u) := by
  split
  · exact ht
  · exact hu

theorem iteSnd {α : Type} {c : Prop} [Decidable c] {x y : α × State} (hx : DataFrame s x.2) (hy : DataFrame s y.2) :
    DataFrame s (if c then x else y).2 := by
  split
  · exact hx
  · exact hy

theorem foldl {α : Type} (h : DataFrame s t) (xs : List α) {f : State → α → State}
    (hf : ∀ v x, DataFrame s v → DataFrame s (f v x)) : DataFrame s (xs.foldl f t) :=
  List.foldlRecOn xs f h (fun v hv x _ => hf v x hv)

theorem each (h : DataFrame s t) (ns : List Nat) {f : State → Nat → State} (hf : ∀ v n, DataFrame s v → DataFrame s (f v n)) :
    DataFrame s (t.each ns f) := h.foldl ns hf

theorem setLink (h : DataFrame s t) (n : Nat) (x : Link) : DataFrame s (t.setLink n x) := h.congr rfl rfl
theorem modLink (h : DataFrame s t) (n : Nat) (f : Link → Link) : DataFrame s (t.modLink n f) := h.congr rfl rfl
theorem setPort (h : DataFrame s t) (n : Nat) (x : Port) : DataFrame s (t.setPort n x) := h.congr rfl rfl
theorem modPort (h : DataFrame s t) (n : Nat) (f : Port → Port) : DataFrame s (t.modPort n f) := h.congr rfl rfl
theorem setChan (h : DataFrame s t) (n : Nat) (x : Chan) : DataFrame s (t.setChan n x) := h.congr rfl rfl
theorem modChan (h : DataFrame s t) (n : Nat) (f : Chan → Chan) : DataFrame s (t.modChan n f) := h.congr rfl rfl
theorem modMem (h : DataFrame s t) (m : Nat) (f : ChanMem → ChanMem) : DataFrame s (t.modMem m f) := h.congr rfl rfl
theorem setLayer (h : DataFrame s t) (n : Nat) (x : Layer) : DataFrame s (t.setLayer n x) := h.congr rfl rfl
theorem modLayer (h : DataFrame s t) (n : Nat) (f : Layer → Layer) : DataFrame s (t.modLayer n f) := h.congr rfl rfl
theorem setSlice (h : DataFrame s t) (n : Nat) (x : QSlice) : DataFrame s (t.setSlice n x) := h.congr rfl rfl
theorem setQueue (h : DataFrame s t) (n : Nat) (x : Queue) : DataFrame s (t.setQueue n x) := h.congr rfl rfl
theorem modSlice (h : DataFrame s t) (n : Nat) (f : QSlice → QSlice) : DataFrame s (t.modSlice n f) := h.congr rfl rfl
theorem modQueue (h : DataFrame s t) (n : Nat) (f : Queue → Queue) : DataFrame s (t.modQueue n f) := h.congr rfl rfl
theorem rset (h : DataFrame s t) (k v : Nat) : DataFrame s (t.rset k v) := h.congr rfl rfl
theorem peak (h : DataFrame s t) (k v top : Nat) : DataFrame s (t.peak k v top) := h.congr rfl rfl
theorem tick (h : DataFrame s t) : DataFrame s t.tick := h.congr rfl rfl
theorem cmdEnd (h : DataFrame s t) (k st : Nat) : DataFrame s (t.cmdEnd k st) := h.congr rfl rfl
theorem withRepair (h : DataFrame s t) (r : Repair) : DataFrame s { t with repair := r } := h.congr rfl rfl
theorem withQe (h : DataFrame s t) (q : Engine) : DataFrame s { t with qe := q } := h.congr rfl rfl
theorem withClk (h : DataFrame s t) (c : Clocks) : DataFrame s { t with clk := c } := h.congr rfl rfl
theorem countActs (h : DataFrame s t) (m n : Nat) : DataFrame s (t.countActs m n) := h.trans ⟨rfl, rfl⟩

theorem count (h : DataFrame s t) (k n : Nat) : DataFrame s (t.count k n) :=
  h.congr (Prod.ext (t.count_variant k n) (t.count_boot k n)) (t.count_therm k n)

theorem reportAt (h : DataFrame s t) (n c i : Nat) : DataFrame s (t.reportAt n c i) :=
  h.congr (Prod.ext (t.reportAt_variant n c i) (t.reportAt_boot n c i)) (t.reportAt_therm n c i)

theorem report (h : DataFrame s t) (n i : Nat) : DataFrame s (t.report n i) := h.reportAt n _ i

/-! ### Ports and the engine -/

theorem returnReq (h : DataFrame s t) (n k : Nat) : DataFrame s (t.returnReq n k) := h.modLink n _
theorem returnQdat (h : DataFrame s t) (n k : Nat) : DataFrame s (t.returnQdat n k) := h.modLink n _
theorem noExec (h : DataFrame s t) (n tag opc st : Nat) : DataFrame s (t.noExec n tag opc st) := h.congr rfl rfl
theorem modResp (h : DataFrame s t) (n tag : Nat) (f : Resp → Resp) : DataFrame s (t.modResp n tag f) := h.modLink n _
theorem closeGroup (h : DataFrame s t) (n grp : Nat) : DataFrame s (t.closeGroup n grp) := .ite h (h.returnReq n 1)
theorem giveCell (h : DataFrame s t) (i l : Nat) : DataFrame s (t.giveCell i l) := (h.modSlice i _).withQe _

theorem refuseQcmds (h : DataFrame s t) (n st : Nat) : DataFrame s (t.refuseQcmds n st) :=
  h.foldl _ (fun _ _ hv => ((hv.modPort n _).noExec n _ _ _).closeGroup n _)

theorem leftPort (h : DataFrame s t) (p : Nat) (r : Held) : DataFrame s (t.leftPort p r) := by
  unfold State.leftPort
  split
  · exact .ite (h.returnQdat _ _) h
  · exact (DataFrame.ite h (h.returnReq p _)).closeGroup p _

theorem refuseHeld (h : DataFrame s t) (n st : Nat) (f : Held → Bool) : DataFrame s (t.refuseHeld n st f) :=
  h.foldl _ (fun _ r hv => ((hv.modPort n _).modResp n _ _).leftPort n r)

theorem refuseWaiting (h : DataFrame s t) (n : Nat) : DataFrame s (t.refuseWaiting n) :=
  (h.modLink n _).foldl _ (fun _ _ hv =>
    have hanswered := DataFrame.ite hv (hv.noExec n _ 0x40 3)
    ((DataFrame.ite hanswered (hanswered.returnQdat n _)).modQueue _ _).modSlice _ _)

theorem stopPorts (h : DataFrame s t) : DataFrame s t.stopPorts :=
  h.each _ (fun _ n hv => ((hv.refuseHeld n 3 _).refuseQcmds n 3).refuseWaiting n)

theorem finishDeq (h : DataFrame s t) (n : Nat) (d : DeqJob) : DataFrame s (t.finishDeq n d) :=
  have hdone := h.modLink n _
  .ite hdone (((hdone.count _ 1).count _ _).modLink n _)

theorem cellRead (h : DataFrame s t) (n id j : Nat) (o : ReadOut) : DataFrame s (t.cellRead n id j o) := by
  unfold State.cellRead
  split
  · exact h
  · have hgiven (c : Prop) [Decidable c] (i l : Nat) : DataFrame s (if c then t.giveCell i l else t) := .ite (h.giveCell i l) h
    exact .ite ((hgiven _ _ _).finishDeq n _) ((hgiven _ _ _).modLink n _)

theorem engineDone (h : DataFrame s t) (r : Held) (o : ReadOut) : DataFrame s (t.engineDone r o) :=
  .ite (h.modLink _ _) (h.cellRead _ _ _ _)

theorem dropEngineWrites (h : DataFrame s t) (m : Nat) : DataFrame s (t.dropEngineWrites m) :=
  (DataFrame.modChan (h.each _ (fun _ p hv => (hv.modPort p _).foldl _ (fun _ r hw => (hw.leftPort p r).engineDone r _))) m
    _).foldl _ (fun _ e hv => hv.engineDone e.req _)

theorem refuseQueued (h : DataFrame s t) (m st : Nat) : DataFrame s (t.refuseQueued m st) :=
  (h.setChan m _).foldl _ (fun _ _ hv => hv.modResp _ _ _)

theorem discardEnq (h : DataFrame s t) (n : Nat) (j : EnqJob) : DataFrame s (t.discardEnq n j) := by
  unfold State.discardEnq
  extract_lets i k q y queue slice engine due port
  have hdue : DataFrame s due := ((h.setQueue _ _).setSlice _ _).withQe _
  exact (hdue.modPort _ _).modLink n _

theorem linkReset (h : DataFrame s t) (n cause : Nat) : DataFrame s (t.linkReset n cause) := by
  unfold State.linkReset
  extract_lets dropped st link port ports
  have hdropped : DataFrame s dropped := h.foldl _ (fun _ j hv => hv.discardEnq n j)
  have hports : DataFrame s ports := ((hdropped.modLink n _).modPort n _).each _ (fun _ i hv => hv.modPort (128 + i) _)
  clear_value ports
  exact hports.congr rfl rfl

/-! ### Evacuation, retirement and spares -/

theorem evacStart (h : DataFrame s t) (src dst : Nat) (answered : Bool) : DataFrame s (t.evacStart src dst answered) :=
  (((((h.withRepair _).modLayer src _).modLayer dst _).each _ (fun _ m hv => hv.modChan m _))).report 25 0

theorem startAssigned (h : DataFrame s t) : DataFrame s t.startAssigned := by
  unfold State.startAssigned
  extract_lets go
  have hgo (v : State) (src : Option Nat) (dst : Nat) (hv : DataFrame s v) : DataFrame s (go v src dst) := by
    unfold go
    split
    · exact .ite hv (hv.evacStart _ _ _)
    · exact hv
  exact hgo _ _ _ (hgo _ _ _ h)

theorem trimRepeaters (h : DataFrame s t) : DataFrame s t.trimRepeaters := h.each _ (fun _ k hv => hv.modLayer k _)

theorem evacEnd (h : DataFrame s t) (st status : Nat) : DataFrame s (t.evacEnd st status) :=
  .ite ((h.withRepair _).cmdEnd _ _) (h.withRepair _)

theorem note (h : DataFrame s t) (r : Nat) : DataFrame s (t.note r) := h.withRepair _

theorem evacCheck (h : DataFrame s t) : DataFrame s t.evacCheck :=
  .ite h (.ite (.ite (h.withRepair _) h) (.ite (((((h.modLayer _ _).trimRepeaters).evacEnd 6 0x0403).report 25 0).startAssigned)
    ((((DataFrame.ite (((h.modLayer _ _).modLayer _ _).withRepair _) ((((h.modLayer _ _).modLayer _ _).withRepair _).note _)).evacEnd
      5 0).report 25 0).startAssigned)))

theorem rateSettle (h : DataFrame s t) : DataFrame s t.rateSettle := by
  unfold State.rateSettle
  split
  · exact h
  · exact .ite ((h.rset _ _).count _ 1) h

theorem retire (h : DataFrame s t) (m cause : Nat) : DataFrame s (t.retire m cause) := by
  unfold State.retire
  refine .ite h ?_
  extract_lets refused dropped channel kept record recorded noted
  have hdropped : DataFrame s dropped := ((h.each _ (fun _ n hv => hv.refuseHeld n 4 _)).refuseQueued m 4).dropEngineWrites m
  have hrecorded : DataFrame s recorded := ((hdropped.modChan m _).rset _ _).withRepair _
  have hnoted : DataFrame s noted := .ite hrecorded (hrecorded.note _)
  exact (hnoted.rateSettle.report 18 m).evacCheck

theorem loseLock (h : DataFrame s t) (k : Nat) : DataFrame s (t.loseLock k) :=
  .ite h (((h.setLayer k _).withClk _).each _ (fun _ m hv => hv.modChan m _))

theorem evacFail (h : DataFrame s t) : DataFrame s t.evacFail := by
  unfold State.evacFail
  refine .ite h ?_
  extract_lets src dst failed kept homes retired told again
  have hhomes : DataFrame s homes := (((h.modLayer _ _).evacEnd _ _).modLayer _ _).each _ (fun _ m hv => hv.modChan m _)
  have htold : DataFrame s told := ((hhomes.each _ (fun _ m hv => hv.retire m 5)).trimRepeaters).report 25 0
  have hagain : DataFrame s again := by
    unfold again
    split
    · split
      · exact htold.evacStart _ _ _
      · exact htold
    · exact htold
  exact hagain.startAssigned

theorem layerFail (h : DataFrame s t) (k cause : Nat) : DataFrame s (t.layerFail k cause) :=
  have hfailed := (h.modLayer k _).report 19 0
  (DataFrame.ite hfailed.evacFail hfailed).each _ (fun _ m hv => hv.retire m cause)

theorem ck0Fail (h : DataFrame s t) (m : Nat) (spared : Bool) : DataFrame s (t.ck0Fail m spared) := by
  have hback := h.modChan m (fun c => { c with vl := { c.vl with refFallback := true } })
  unfold State.ck0Fail
  refine .ite ?_ hback
  split
  · exact (hback.modLayer _ _).loseLock _
  · exact .ite hback (hback.layerFail _ 3)

theorem coilUnspared (h : DataFrame s t) (m f : Nat) (powerUp : Bool) : DataFrame s (t.coilUnspared m f powerUp) :=
  have hretired (cause : Nat) := (h.modChan m (fun c => { c with vl := { c.vl with coilRetired := true } })).retire m cause
  .ite (.ite h (.ite ((h.setChan m _).report 17 m) (hretired _))) (.ite (.ite (hretired 4) (h.ck0Fail m false)) (hretired _))

theorem takeSpare (h : DataFrame s t) (m : Nat) (x : Site) (f sp : Nat) : DataFrame s (t.takeSpare m x f sp) := h.modChan m _

theorem substitute (h : DataFrame s t) (m : Nat) : DataFrame s (t.substitute m) := by
  refine (h.modChan m _).foldl _ (fun v x hv => ?_)
  split
  · exact hv.coilUnspared m _ _
  · exact ((hv.takeSpare m _ _ _).count _ 1).note _

theorem measure (h : DataFrame s t) (m : Nat) : DataFrame s (t.measure m) := (h.modChan m _).tick

theorem windowDone (h : DataFrame s t) (m len : Nat) : DataFrame s (t.windowDone m len) := ((h.measure m).count _ 1).peak _ _ _

theorem spareGone (h : DataFrame s t) (m hop : Nat) : DataFrame s (t.spareGone m hop) := by
  unfold State.spareGone
  refine .ite h ?_
  split
  · exact (h.setChan m _).coilUnspared m _ _
  · exact h

theorem coilFail (h : DataFrame s t) (m : Nat) (powerUp : Bool) (x : Site) : DataFrame s (t.coilFail m powerUp x) := by
  have hcounted := (h.count (chanKey m 0xC2) 1).report 16 m
  have hmarked := hcounted.modChan m
  exact .ite h (.ite ((hmarked _).spareGone m _) (.ite (.ite ((hmarked _).takeSpare m _ _ _)
    (.ite (((hmarked _).modChan m _).ck0Fail m true) ((hmarked _).modChan m _))) ((hmarked _).coilUnspared m _ _)))

/-! ### Activations and refresh -/

theorem maintained (h : DataFrame s t) (m : Nat) : DataFrame s (t.maintained m) := (h.modChan m _).count _ 1

theorem activate (h : DataFrame s t) (m k w : Nat) : DataFrame s (t.activate m k w) := by
  have hchan := (h.countActs m 1).setChan m
  refine .peak (.ite (.count (.ite (.count (.ite (.count (hchan _) ..) (hchan _)) ..)
    (.ite (.count (hchan _) ..) (hchan _))) ..) (.ite (.count (.ite (.count (hchan _) ..) (hchan _)) ..)
    (.ite (.count (hchan _) ..) (hchan _)))) _ _ _

theorem serveRows (h : DataFrame s t) (m : Nat) (rows : List (Nat × Nat)) : DataFrame s (t.serveRows m rows) := by
  induction rows generalizing t with
  | nil => exact h
  | cons r rest ih => exact ih ((((h.setChan m _).maintained m).count _ _).countActs m _)

theorem abortSlice (h : DataFrame s t) (m : Nat) : DataFrame s (t.abortSlice m) := by
  unfold State.abortSlice
  split
  · exact h
  · exact ((DataFrame.ite (((h.serveRows m _).activate m _ _).maintained m) h).modChan m _).count _ 1

theorem refreshCmds (h : DataFrame s t) (m n : Nat) : DataFrame s (t.refreshCmds m n) := by
  induction n generalizing t with
  | zero => exact h
  | succ n ih => exact ih (((h.setChan m _).count _ 1).countActs m 1)

theorem burstCmds (h : DataFrame s t) (m n : Nat) : DataFrame s (t.burstCmds m n) := by
  induction n generalizing t with
  | zero => exact h
  | succ n ih => exact ih ((((h.setChan m _).count _ 1).count _ 1).countActs m 1)

theorem payDebt (h : DataFrame s t) (m : Nat) : DataFrame s (t.payDebt m) := (h.burstCmds m _).refreshCmds m _

theorem sre (h : DataFrame s t) (m : Nat) (st : ChanState) : DataFrame s (t.sre m st) :=
  have hentered := h.modChan m _
  (DataFrame.ite hentered hentered.tick).count _ 1

theorem srx (h : DataFrame s t) (m : Nat) (full : Bool) : DataFrame s (t.srx m full) := (h.setChan m _).count _ 1

theorem forceNow (h : DataFrame s t) (m : Nat) : DataFrame s (t.forceNow m) :=
  .ite ((DataFrame.ite ((h.abortSlice m).payDebt m) h).sre m _) h

theorem force (h : DataFrame s t) (m : Nat) : DataFrame s (t.force m) := .ite h ((h.modChan m _).forceNow m)

theorem forceAll (h : DataFrame s t) : DataFrame s t.forceAll := h.each _ (fun _ m hv => hv.force m)

theorem resumeChan (h : DataFrame s t) (m : Nat) : DataFrame s (t.resumeChan m) :=
  .ite h (.ite (h.modChan m _) ((DataFrame.ite (h.modChan m _) (((h.modChan m _).setChan m _).count _ 1)).forceNow m))

theorem steepEnd (h : DataFrame s t) (m : Nat) (outside : List Site) (len : Nat) : DataFrame s (t.steepEnd m outside len) :=
  have hdone := (h.modChan m _).windowDone m len
  .ite (((DataFrame.ite (hdone.substitute m) hdone).foldl _ (fun _ x hv => hv.coilFail m false x)).resumeChan m) h

theorem exitCheckEnd (h : DataFrame s t) (m : Nat) (outside afterFull : List Site) (wait len : Nat) :
    DataFrame s (t.exitCheckEnd m outside afterFull wait len) := by
  unfold State.exitCheckEnd
  refine .ite ?_ h
  extract_lets full ended counted measured checked declared
  have hcounted : DataFrame s counted := ((h.setChan m _).peak _ _ _).count _ _
  have hmeasured : DataFrame s measured := (hcounted.measure m).peak _ _ _
  have hchecked : DataFrame s checked := .ite ((hcounted.windowDone m len).substitute m) (.ite hmeasured (hmeasured.count _ 1))
  have hdeclared : DataFrame s declared := .ite ((hchecked.modChan m _).foldl _ (fun _ x hv => hv.coilFail m false x)) hchecked
  exact hdeclared.resumeChan m

/-! ### Reading a block -/

theorem inject (h : DataFrame s t) (k inst addr : Nat) : DataFrame s (t.inject k inst addr).2 :=
  .iteSnd h (.iteSnd (.ite ((h.rset _ _).rset _ _) (h.rset _ _)) h)

theorem sramError (h : DataFrame s t) (code inst : Nat) : DataFrame s (t.sramError code inst) := (h.count _ 1).reportAt 11 code inst

theorem lookupRegion (h : DataFrame s t) (m r : Nat) (bad : Bool) : DataFrame s (t.lookupRegion m r bad).2 := by
  have hhit := h.inject 5 m r
  have hmark (f : Chan → Chan) := ((hhit.modChan m f).count (chanKey m 0xA7) 1).report 10 m
  exact .ite (.modChan (.ite (hmark _) hhit) m _) (.ite (hmark _) hhit)

theorem noSpare (h : DataFrame s t) (e : BitVec 64) : DataFrame s (t.noSpare e) := by
  unfold State.noSpare
  extract_lets evacuating repair listed told
  have htold : DataFrame s told := (h.withRepair _).report 24 0
  refine .ite h ?_
  split
  · split
    · exact htold.evacStart _ _ _
    · exact htold
  · exact htold

theorem addCandidate (h : DataFrame s t) (e : BitVec 64) : DataFrame s (t.addCandidate e) := by
  unfold State.addCandidate
  extract_lets l known put judge
  have hjudge (l : List (BitVec 64)) : DataFrame s (judge (put t l)) := .ite ((h.withRepair _).noSpare e) (h.withRepair _)
  exact .ite (hjudge _) (.ite (hjudge _) (.ite (hjudge _) (.ite (hjudge _) (h.count _ 1))))

theorem ceRow (h : DataFrame s t) (m a : Nat) : DataFrame s (t.ceRow m a) := by
  unfold State.ceRow
  extract_lets k w lim send
  have hsend (f : Chan → Chan) := (h.modChan m f).addCandidate
  split
  · exact .ite (hsend _ _) (h.modChan m _)
  · split
    · exact .ite (hsend _ _) (h.modChan m _)
    · exact h.count _ 1

theorem decodeWord (h : DataFrame s t) (m a noise : Nat) : DataFrame s (t.decodeWord m a noise).2 := by
  have hinj := h.inject 2 m a
  unfold State.decodeWord
  split
  next pat v hv =>
    rw [hv] at hinj
    extract_lets flip c w r v'
    have hword : DataFrame s v' := .ite hinj hinj.tick
    clear_value r
    split
    · exact (((hword.modChan m _).count _ 1).count _ _).ceRow m a
    · exact hword

theorem setMeta (h : DataFrame s t) (m a : Nat) (v p : Bool) : DataFrame s (t.setMeta m a v p) := h.modMem m _

theorem readMeta (h : DataFrame s t) (m a vNoise pNoise : Nat) : DataFrame s (t.readMeta m a vNoise pNoise).2.2 := by
  unfold State.readMeta
  extract_lets i one put fail
  have hone (v : State) (plane noise : Nat) (hv : DataFrame s v) : DataFrame s (one v plane noise).2 := by
    have hinj (c : Prop) [Decidable c] : DataFrame s (if c then v.inject 3 m a else (0, v)).2 := .iteSnd (hv.inject 3 m a) hv
    exact .ite (hinj _) (hinj _).tick
  have hput (v : State) (plane w : Nat) (hv : DataFrame s v) : DataFrame s (put v plane w) := hv.modMem m _
  have hfail (v : State) (hv : DataFrame s v) : DataFrame s (fail v) := (hv.count _ 1).report 9 m
  clear_value one put fail
  have hp := hone t 1 pNoise h
  split
  next rp v hv =>
    rw [hv] at hp
    split
    next p v2 hv2 =>
      have h2 : DataFrame s v2 := by
        cases rp with
        | clean w => cases hv2; exact hp
        | corrected w => cases hv2; exact (hput v 1 _ hp).count _ 1
        | failed => cases hv2; exact hfail _ (hput v 1 ones64 hp)
      have h3 := hone v2 0 vNoise h2
      split
      next rv v3 hv3 =>
        rw [hv3] at h3
        cases rv with
        | clean w => exact h3
        | corrected w => exact (hput v3 0 w h3).count _ 1
        | failed => exact hfail _ (hput _ 1 ones64 (hput v3 0 ones64 h3))

theorem readValid (h : DataFrame s t) (m a noise v p : Nat) : DataFrame s (t.readValid m a noise v p).2 := by
  have hdecoded := h.decodeWord m a noise
  unfold State.readValid
  split
  · exact h
  · extract_lets was
    split
    next r w hw =>
      rw [hw] at hdecoded
      have hpoisoned := hdecoded.count (chanKey m 0xA3) 1
      split
      · exact .iteSnd hpoisoned hdecoded
      · exact .iteSnd hpoisoned hdecoded
      · exact .iteSnd hpoisoned (((((hpoisoned.setMeta m a true true).count (chanKey m 0xA2) 1).rset _ _).report 8 m).addCandidate _)

theorem readColumn (h : DataFrame s t) (m a noise vNoise pNoise : Nat) :
    DataFrame s (t.readColumn m a noise vNoise pNoise).2 := by
  have hmeta := h.readMeta m a vNoise pNoise
  unfold State.readColumn
  split
  next v p w hw =>
    rw [hw] at hmeta
    exact hmeta.readValid m a noise v p

theorem readBlock (h : DataFrame s t) (m a noise : Nat) (env : ChanEnv) : DataFrame s (t.readBlock m a noise env).2.2 := by
  have hregion := h.lookupRegion m (regionOf a) env.rmapBad
  unfold State.readBlock
  split
  next r v hv =>
    rw [hv] at hregion
    have hcolumn := hregion.readColumn m a noise env.vNoise env.pNoise
    split
    · exact hregion
    · split
      next o w hw =>
        rw [hw] at hcolumn
        exact hcolumn

/-! ### Executing an entry -/

theorem openRow (h : DataFrame s t) (m a : Nat) : DataFrame s (t.openRow m a) := .ite h ((h.activate m _ _).modChan m _)

theorem columnAccess (h : DataFrame s t) (m a : Nat) (last : Bool) : DataFrame s (t.columnAccess m a last) :=
  have hopen := (h.count (chanKey m _) 1).openRow m a
  .ite (hopen.modChan m _) hopen

theorem readOne (h : DataFrame s t) (m a noise : Nat) (env : ChanEnv) (last : Bool) :
    DataFrame s (t.readOne m a noise env last).2.2 := by
  have hread := h.readBlock m a noise env
  unfold State.readOne
  split
  next o r v hv =>
    rw [hv] at hread
    show DataFrame s (if r = true then v.columnAccess m a last else v)
    exact .ite (hread.columnAccess m a last) hread

theorem answerEntry (h : DataFrame s t) (e : QEntry) (status psn : Nat) (value : BitVec 32) (flits : List Flit) :
    DataFrame s (t.answerEntry e status psn value flits) := by
  unfold State.answerEntry
  split
  · exact h.engineDone _ _
  · exact h.modResp _ _ _

theorem writeData (h : DataFrame s t) (m a d : Nat) (poison written : Bool) : DataFrame s (t.writeData m a d poison written) :=
  have hinit : DataFrame s (t.initRegion m (regionOf a) written) := .ite h ((h.modMem m _).count _ 1)
  have hstored := (hinit.modChan m _).setMeta m a true poison
  .ite (hstored.count _ 1) hstored

theorem execRead (h : DataFrame s t) (m : Nat) (e : QEntry) (env : ChanEnv) : DataFrame s (t.execRead m e env) := by
  unfold State.execRead
  extract_lets open'
  have hfirst := h.readOne m e.h env.noise0 env (!open')
  split
  next o r v hv =>
    rw [hv] at hfirst
    replace hfirst : DataFrame s v := hfirst
    split
    · exact (DataFrame.ite hfirst (hfirst.count _ 1)).answerEntry _ _ _ _ _
    next h2 _ =>
      have hsecond := hfirst.readOne m h2 env.noise1 {} true
      split
      next o2 r2 v2 hv2 =>
        rw [hv2] at hsecond
        extract_lets counted psn
        have hcounted : DataFrame s counted := .ite hsecond (hsecond.count _ 1)
        exact hcounted.answerEntry _ _ _ _ _

theorem execWrite (h : DataFrame s t) (m : Nat) (e : QEntry) (env : ChanEnv) : DataFrame s (t.execWrite m e env) := by
  have hregion := h.lookupRegion m (regionOf e.h) env.rmapBad
  unfold State.execWrite
  split
  next w v hv =>
    rw [hv] at hregion
    exact ((hregion.columnAccess m e.h true).writeData m _ _ _ _).answerEntry _ _ _ _ _

theorem execMasked (h : DataFrame s t) (m : Nat) (e : QEntry) (env : ChanEnv) : DataFrame s (t.execMasked m e env) := by
  have hread := h.readOne m e.h env.noise0 env false
  unfold State.execMasked
  split
  next o w v hv =>
    rw [hv] at hread
    exact (((DataFrame.ite hread (hread.count _ 1)).columnAccess m e.h true).writeData m _ _ _ _).answerEntry _ _ _ _ _

theorem execAtomic (h : DataFrame s t) (m : Nat) (e : QEntry) (env : ChanEnv) : DataFrame s (t.execAtomic m e env) := by
  have hread := h.readOne m e.h env.noise0 env false
  unfold State.execAtomic
  split
  next o w v hv =>
    rw [hv] at hread
    extract_lets k counted old closed new
    have hcounted : DataFrame s counted := .ite hread (hread.count _ 1)
    exact .ite ((DataFrame.ite (hcounted.modChan m _) hcounted).answerEntry _ _ _ _ _)
      (((hcounted.columnAccess m e.h true).writeData m _ _ _ _).answerEntry _ _ _ _ _)

theorem execRequest (h : DataFrame s t) (m : Nat) (e : QEntry) (env : ChanEnv) : DataFrame s (t.execRequest m e env) :=
  .ite (h.execRead m e env) (.ite (h.execWrite m e env) (.ite (.ite (h.answerEntry _ _ _ _ _)
    (.ite (h.execWrite m e env) (h.execMasked m e env))) (h.execAtomic m e env)))

theorem prepare (h : DataFrame s t) (m : Nat) (used hs : List Nat) : DataFrame s (t.prepare m used hs) := by
  induction hs generalizing t used with
  | nil => exact h
  | cons a r ih => exact .ite h (.ite (ih h used) (ih (h.openRow m a) _))

theorem leaveQueue (h : DataFrame s t) (m : Nat) (e : QEntry) : DataFrame s (t.leaveQueue m e) :=
  (((h.modChan m _).count _ 1).peak _ _ _).forceNow m

theorem maintCheck (h : DataFrame s t) (m : Nat) (env : ChanEnv) : DataFrame s (t.maintCheck m env) := by
  have hfirst := ((h.count (chanKey m 0xC5) env.caCorr).count (chanKey m 0xC6) env.caBad).inject 4 5 m
  unfold State.maintCheck State.caCount
  split
  next p v hv =>
    rw [hv] at hfirst
    have hsecond := (hfirst.sramError 1 m).inject 4 5 m
    refine .ite hfirst ?_
    split
    next q w hw =>
      rw [hw] at hsecond
      exact .ite ((hsecond.sramError 1 m).retire m 6) hsecond

theorem entryParity (h : DataFrame s t) (m : Nat) (env : ChanEnv) : DataFrame s (t.entryParity m env).2 :=
  .ite ((h.inject 4 1 m).sramError 1 m) (h.inject 4 1 m)

theorem entryExecute (h : DataFrame s t) (m : Nat) (env : ChanEnv) : DataFrame s (t.entryExecute m env) := by
  unfold State.entryExecute
  split
  · exact h
  next e rest _ =>
    refine .ite h ?_
    have hparity := h.entryParity m env
    split
    next bad v hv =>
      rw [hv] at hparity
      split
      · split
        · exact hparity
        · exact (hparity.modResp _ _ _).leaveQueue m e
      · extract_lets checked done next' prepared
        have hchecked : DataFrame s checked := hparity.maintCheck m env
        have hdone : DataFrame s done := hchecked.execRequest m e env
        have hprepared : DataFrame s prepared := .ite (hdone.prepare m _ _) hdone
        exact .ite hchecked (hprepared.leaveQueue m e)

/-! ### The orderly stop, and the wipe of a channel -/

theorem completeWork (h : DataFrame s t) (m : Nat) : DataFrame s (t.completeWork m) :=
  have hwindow := DataFrame.ite (h.exitCheckEnd m [] [] 0 0) (.ite (h.steepEnd m [] 0) h)
  (hwindow.foldl _ (fun _ _ hv => hv.entryExecute m {})).refuseQueued m 3

theorem stopWork (h : DataFrame s t) : DataFrame s t.stopWork := h.stopPorts.each _ (fun _ m hv => hv.completeWork m)

theorem completeRead (h : DataFrame s t) (r : Held) : DataFrame s (t.completeRead r) := by
  unfold State.completeRead
  refine .ite ?_ h
  split
  next m a _ =>
    refine .ite (h.engineDone r _) ?_
    have hread := h.readOne m a 0 {} true
    split
    next o _ v hv =>
      rw [hv] at hread
      exact hread.engineDone r o
  next => exact h.engineDone r _

theorem dropJobs (h : DataFrame s t) (n : Nat) : DataFrame s (t.dropJobs n) :=
  (h.modLink n _).foldl _ (fun _ _ hv =>
    have hanswered := DataFrame.ite hv (hv.noExec n _ 0x40 3)
    .ite hanswered (hanswered.returnQdat n _))

theorem engineEmpty (h : DataFrame s t) : DataFrame s t.engineEmpty := by
  unfold State.engineEmpty
  extract_lets chans ports links _ flush
  have hchans : DataFrame s chans := h.each _ (fun _ m hv => (hv.modChan m _).foldl _ (fun _ e hw => hw.completeRead e.req))
  have hports : DataFrame s ports :=
    hchans.each _ (fun _ p hv => (hv.setPort p _).foldl _ (fun _ r hw => (hw.leftPort p r).completeRead r))
  have hlinks : DataFrame s links := hports.each _ (fun _ n hv => (hv.refuseQcmds n 3).dropJobs n)
  have hflush : DataFrame s flush := by
    unfold flush
    split
    · exact (hlinks.withQe _).cmdEnd kFlush 0
    · exact hlinks
  exact hflush.withQe _

theorem wipeRows (h : DataFrame s t) (m k n : Nat) : DataFrame s (t.wipeRows m k n) := by
  induction n with
  | zero => exact h
  | succ n ih => exact (ih.activate m k n).serveRows m _

theorem wipeChannel (h : DataFrame s t) (m : Nat) : DataFrame s (t.wipeChannel m) := by
  unfold State.wipeChannel
  extract_lets awake wiped
  have hawake : DataFrame s awake := .ite ((h.srx m false).modChan m _) (.ite (h.modChan m _) h)
  have hwiped : DataFrame s wiped := hawake.each _ (fun _ k hv => hv.wipeRows m k 32768)
  exact hwiped.modChan m _

end DataFrame

end Sys2Proof.Machine
end

section
/-!
PROOFS. Slice0/Commands: a command that its master may give, from how the operation takes it to the answer (R39).
-/

namespace Sys2Proof.Machine

section
variable {s t : State} {m : Master} {k st : Nat} {arg : List Byte} {env : AccEnv} {i : Instr}
  (hobeys : s.obeys m k arg = true) (hexec : exec i s = finish i.wf (s.writeBy m k arg env)) (hwf : i.wf = (m.wf && isVal arg))
include hobeys hexec hwf

/-- A command that is answered at once. -/
theorem exec_command {r : Taken × State} (hrun : (s.asks m k arg).runCmd m k arg env = r)
    (hclose : State.closeCmd k r = (some st, t)) : exec i s = .next (t.tells s.dict.mpDown m k st).settle := by
  obtain ⟨hm, -, hlen, -⟩ := State.obeys_parts hobeys
  have hok : i.wf = true := by
    rw [hwf, hm, Bool.true_and]
    exact decide_eq_true (by omega)
  rw [hexec, finish_wf hok, State.obeys_told hobeys (hrun ▸ hclose)]

/-- A command that is refused before it starts. -/
theorem exec_command_refused (hrun : (s.asks m k arg).runCmd m k arg env = (.refused st, t)) (hdict : t.dict = (s.asks m k arg).dict) :
    exec i s = .next (State.settle ((t.setCmd k { s.cmd k with refused := true }).tells s.dict.mpDown m k st)) := by
  have hcmd : t.cmd k = s.cmd k := by rw [State.cmd, hdict, ← State.cmd, State.cmd_asks]
  exact exec_command hobeys hexec hwf hrun (by rw [State.closeCmd, hcmd])

/-- A command that has ended at once. -/
theorem exec_command_ended (hrun : (s.asks m k arg).runCmd m k arg env = (.ended st, t)) :
    exec i s = .next (State.settle ((t.cmdEnd k st).tells s.dict.mpDown m k 0)) := exec_command hobeys hexec hwf hrun rfl

/-- A command whose write completes with its status. -/
theorem exec_command_sync (hrun : (s.asks m k arg).runCmd m k arg env = (.sync st, t)) :
    exec i s = .next (State.settle ((t.cmdEnd k st).tells s.dict.mpDown m k st)) := exec_command hobeys hexec hwf hrun rfl

end

end Sys2Proof.Machine
end

section
/-!
PROOFS. Slice0/LifeCycle: programming a mark, and the transitions to FIELD, RETURN and VOID (R404, R409, R415–R421).
-/

namespace Sys2Proof.Machine

/-! ### Programming (R404) -/

/-- What programming fuses leaves alone. -/
structure FuseFrame (s t : State) : Prop where
  lc : t.lc = s.lc
  variant : t.variant = s.variant
  chans : t.chans = s.chans

namespace FuseFrame

variable {s t u : State}

theorem refl (s : State) : FuseFrame s s := ⟨rfl, rfl, rfl⟩

theorem trans (h : FuseFrame s t) (h' : FuseFrame t u) : FuseFrame s u :=
  ⟨h'.lc.trans h.lc, h'.variant.trans h.variant, h'.chans.trans h.chans⟩

end FuseFrame

section
variable (s : State) (w : Nat) (mask : BitVec 32)

theorem and_eq_of_missing_zero {x mask : BitVec 32} (h : mask &&& ~~~x = 0) : x &&& mask = mask := by
  ext i hi
  have hbit := congrArg (fun v : BitVec 32 => v[i]) h
  simp only [BitVec.getElem_and, BitVec.getElem_not, BitVec.ofNat_eq_ofNat, BitVec.getElem_zero] at hbit ⊢
  cases hm : mask[i] <;> simp_all

theorem or_missing_and (x mask : BitVec 32) : (x ||| (mask &&& ~~~x)) &&& mask = mask := by
  ext i hi
  simp only [BitVec.getElem_and, BitVec.getElem_or, BitVec.getElem_not]
  cases mask[i] <;> cases x[i] <;> rfl

/-- Fuses that verify: every bit of the mask reads 1 at margin sense. -/
theorem State.programWord_verifies : (s.programWord w mask 0).1 = true ∧
    gword (s.programWord w mask 0).2.gran.margin w &&& mask = mask ∧ FuseFrame s (s.programWord w mask 0).2 := by
  unfold State.programWord
  extract_lets g need good bad weak add n programmed counted
  split
  next hneed => exact ⟨rfl, and_eq_of_missing_zero hneed, .refl s⟩
  next =>
    have hbad : bad = 0 := BitVec.and_zero
    have hgood : good = need := BitVec.and_allOnes
    refine ⟨decide_eq_true hbad, ?_, ?_⟩
    · rw [if_pos hbad, State.count_gran]
      change gword (mset 0 g.margin w (gword g.margin w ||| good)) w &&& mask = mask
      rw [gword, mget_mset_same, hgood]
      exact or_missing_and _ _
    · rw [if_pos hbad]
      have hcounted : FuseFrame s counted :=
        ⟨State.count_lc programmed _ _, State.count_variant programmed _ _, State.count_chans programmed _ _⟩
      clear_value counted
      exact hcounted

/-- A command whose fuses verify ends well. -/
theorem State.programStep_eq (i : Nat) : s.programStep w mask {} i = (.ok, (s.programWord w mask 0).2) := by
  have hstep : s.programStep w mask {} i = (if (s.programWord w mask 0).1 then .ok else .failed, (s.programWord w mask 0).2) := rfl
  rw [hstep, if_pos (s.programWord_verifies w mask).1]

end

/-! ### Marks (R409, R415) -/

/-- A mark whose bits all read 1. -/
theorem markCount_full {v : SMap (BitVec 32)} {k : Nat} (hk : k < 3) (h : gword v (markWord k) &&& markMask k = markMask k) :
    markCount v k = 16 := by
  have hnat := congrArg BitVec.toNat h
  rw [BitVec.toNat_and] at hnat
  have hcount (m : Nat) (hm : m % 65536 = 65535) : weightGo 16 (m % 65536) = 16 := by rw [hm]; decide
  obtain rfl | rfl | rfl : k = 0 ∨ k = 1 ∨ k = 2 := by omega
  · exact hcount _ ((congrArg (· % 65536) (Nat.div_one _)).trans ((Nat.and_two_pow_sub_one_eq_mod _ 16).symm.trans hnat))
  · refine hcount _ ((Nat.and_two_pow_sub_one_eq_mod _ 16).symm.trans ?_)
    exact (Nat.and_div_two_pow (n := 16)).symm.trans (congrArg (· / 2 ^ 16) hnat)
  · exact hcount _ ((congrArg (· % 65536) (Nat.div_one _)).trans ((Nat.and_two_pow_sub_one_eq_mod _ 16).symm.trans hnat))

/-- The life-cycle state changes, with what does not. -/
theorem State.lcEnter_frame (s : State) (st : LcState) : (s.lcEnter st).lc = { s.lc with st := st } ∧ (s.lcEnter st).gran = s.gran ∧
    (s.lcEnter st).variant = s.variant ∧ (s.lcEnter st).chans = s.chans := by
  have hjudge (t : State) : t.tapJudge.lc = t.lc ∧ t.tapJudge.gran = t.gran ∧ t.tapJudge.variant = t.variant ∧
      t.tapJudge.chans = t.chans := by
    unfold State.tapJudge
    split <;> exact ⟨rfl, rfl, rfl, rfl⟩
  obtain ⟨hlc, hgran, hvariant, hchans⟩ := hjudge { s with lc := { s.lc with st := st } }
  rw [State.lcEnter, State.report_lc, State.report_gran, State.report_variant, State.report_chans]
  exact ⟨hlc, hgran, hvariant, hchans⟩

/-- A transition whose mark verifies. -/
theorem State.programMark_verifies (s : State) {k : Nat} (hk : k < 3) (st : LcState) :
    s.programMark k st {} = (.ok, (s.programWord (markWord k) (markMask k) 0).2.lcEnter st) := by
  obtain ⟨-, hmargin, -⟩ := s.programWord_verifies (markWord k) (markMask k)
  have hmark : s.programMark k st {} = ((s.programStep (markWord k) (markMask k) {} 0).1,
      if 9 ≤ markCount (s.programStep (markWord k) (markMask k) {} 0).2.gran.margin k
      then (s.programStep (markWord k) (markMask k) {} 0).2.lcEnter st else (s.programStep (markWord k) (markMask k) {} 0).2) := rfl
  rw [hmark, State.programStep_eq, if_pos (by rw [markCount_full hk hmargin]; decide)]

/-! ### What a command of the life cycle looks at -/

section
variable {s : State} {m : Master} {k : Nat} {v : List Byte}

theorem State.progOk_asks : (s.asks m k v).progOk = s.progOk := by
  simp only [State.progOk, State.tempIn, State.asks_power, State.asks_therm]

theorem State.lcKnown_asks : (s.asks m k v).lcKnown = s.lcKnown := by simp only [State.lcKnown, State.asks_boot]

theorem State.authorized_asks : (s.asks m k v).authorized = s.authorized := by
  unfold State.authorized State.shadowBytes State.shadow
  rw [State.rget_asks, State.asks_gran, State.asks_lc]

theorem State.evacRuns_asks : (s.asks m k v).evacRuns = s.evacRuns := by simp only [State.evacRuns, State.asks_repair]

theorem State.authRefusal_free : s.authRefusal.free = s.free := by rw [State.authRefusal, State.report_free]

theorem State.lcKnown_of (hboot : s.boot ≠ .held) (hsensing : s.boot ≠ .sensing) : s.lcKnown = true := by
  simp [State.lcKnown, hboot, hsensing]

end

/-! ### Into FIELD (R416) -/

/-- What LC_TO_FIELD needs. -/
def State.MayField (s : State) : Prop :=
  s.lc.st = .mfg ∧ s.progOk = true ∧ ∀ r ∈ [0, 1, 2, 4, 5], nbit s.gran.crcChecked r = true ∧ nbit s.gran.crcFail r = false

section
variable {s : State} (hknown : s.lcKnown = true)
include hknown

theorem State.toField_refused (env : ProgEnv) (h : ¬ s.MayField) : s.toField env = (.refused 0x0109, s) := by
  rw [State.toField, if_neg (by simp [hknown])]
  refine if_pos ?_
  by_contra hno
  simp only [not_or, not_not, Bool.not_eq_true', Bool.not_eq_false, List.all_eq_true, Bool.and_eq_true] at hno
  exact h ⟨hno.1, hno.2.1, fun r hr => hno.2.2 r hr⟩

theorem State.toField_ends (h : s.MayField) :
    s.toField {} = (.ended 0, (s.programWord (markWord 0) (markMask 0) 0).2.lcEnter .field) := by
  obtain ⟨hst, hprog, hgood⟩ := h
  have hall : [0, 1, 2, 4, 5].all (fun r => nbit s.gran.crcChecked r && !nbit s.gran.crcFail r) = true :=
    List.all_eq_true.mpr fun r hr => by simp [hgood r hr]
  rw [State.toField, if_neg (by simp [hknown])]
  refine (if_neg (by simp only [hst, hprog, hall]; simp)).trans ?_
  rw [State.programMark_verifies s (by decide)]
  rfl

/-! ### Into RETURN (R417–R420) -/

/-- What stands in the way of LC_RETURN. -/
def State.ReturnBarred (s : State) : Prop :=
  s.lc.st ≠ .field ∨ s.progOk = false ∨ s.evacRuns = true ∨ s.therm.testHeld = true ∨ s.therm.stop ≠ 0 ∨
    s.therm.trip = true ∨ s.power.st ≠ 0 ∨ s.power.changing = true

section
variable (us : Nat) (env : ProgEnv)

theorem State.lcReturn_spent (h : 4 ≤ s.lc.refusals) :
    s.lcReturn us env = (.refused 0x0422, s.authRefusal.drawNonce) := by
  rw [State.lcReturn, if_neg (by simp [hknown]), if_pos h]

variable (hleft : s.lc.refusals < 4)
include hleft

theorem State.lcReturn_policy (h : nbit s.gran.policy 4 = true) :
    s.lcReturn us env = (.refused 0x0421, s.authRefusal.drawNonce) := by
  rw [State.lcReturn, if_neg (by simp [hknown]), if_neg (by omega), if_pos h]

variable (hpolicy : nbit s.gran.policy 4 = false)
include hpolicy

theorem State.lcReturn_barred (h : s.ReturnBarred) : s.lcReturn us env = (.refused 0x0109, s.drawNonce) := by
  rw [State.lcReturn, if_neg (by simp [hknown]), if_neg (by omega), if_neg (by simp [hpolicy]),
    if_pos (by simpa only [State.ReturnBarred, Bool.not_eq_true'] using h)]

variable (hfree : ¬ s.ReturnBarred)
include hfree

theorem State.lcReturn_free : s.lcReturn us env = if !s.authorized then (.ended 0x0420, s.authRefusal.drawNonce)
    else (.ended (s.returnSteps us env).1, (s.returnSteps us env).2.drawNonce) := by
  rw [State.lcReturn, if_neg (by simp [hknown]), if_neg (by omega), if_neg (by simp [hpolicy]),
    if_neg (by simpa only [State.ReturnBarred, Bool.not_eq_true'] using hfree)]

end

end

/-- Every channel that is in service is wiped. -/
def State.wipeAll (s : State) : State := s.each (s.map.filter (fun m => !s.retired m)) State.wipeChannel

theorem DataFrame.wipeAll {s t : State} (h : DataFrame s t) : DataFrame s t.wipeAll := h.each _ fun _ m hv => hv.wipeChannel m

/-- The time that the wipe took. -/
def State.wipedIn (s : State) (us : Nat) : State := { s with lc := { s.lc with wipeUs := us } }

/-- The mark of RETURN, then the read lock of region 7. -/
def State.markReturn (s : State) (env : ProgEnv) : Nat × State :=
  let (e, s) := s.programMark 1 .ret env
  if e ≠ .ok then (e.status, s)
  else
    let (e, s) := s.programStep 1003 0x80 env 1
    (e.status, s.takeLocks)

theorem State.returnSteps_eq (s : State) (us : Nat) (env : ProgEnv) :
    s.returnSteps us env = (s.stopWork.engineEmpty.wipeAll.clearRegions.wipedIn us).markReturn env := by
  unfold State.returnSteps State.markReturn State.wipeAll State.wipedIn
  rfl

theorem State.clearRegions_rmap (s : State) {c : Nat} (hc : c < enabled s.variant) : (s.clearRegions.chan c).mem.rmap = [] := by
  refine State.foldl_reaches (fun c t => (t.chan c).mem.rmap = []) (fun t m => ?_) (fun t m c h => ?_) s _ (List.mem_range.mpr hc)
  · rw [State.chan_modChan, if_pos rfl]
  · rw [State.chan_modChan]
    split
    · rfl
    · exact h

/-- Fuses that verify lead into RETURN, with the channels as they were. -/
theorem State.markReturn_ends (s : State) : (s.markReturn {}).1 = 0 ∧ (s.markReturn {}).2.lc = { s.lc with st := .ret } ∧
    nbit (s.markReturn {}).2.gran.rlock 7 = true ∧ (s.markReturn {}).2.chans = s.chans := by
  obtain ⟨u, hu⟩ : ∃ u, u = (s.programWord (markWord 1) (markMask 1) 0).2.lcEnter .ret := ⟨_, rfl⟩
  obtain ⟨v, hv⟩ : ∃ v, v = (u.programWord 1003 0x80 0).2 := ⟨_, rfl⟩
  have hsteps : s.markReturn {} = (0, v.takeLocks) := by
    rw [State.markReturn, State.programMark_verifies _ (by decide), ← hu]
    dsimp only
    rw [if_neg (by simp), State.programStep_eq, ← hv]
    rfl
  obtain ⟨-, -, hmark⟩ := s.programWord_verifies (markWord 1) (markMask 1)
  obtain ⟨hlc, -, -, hchans⟩ := State.lcEnter_frame (s.programWord (markWord 1) (markMask 1) 0).2 .ret
  obtain ⟨-, hlock, hlocked⟩ := u.programWord_verifies 1003 0x80
  rw [← hu] at hlc hchans
  rw [← hv] at hlock hlocked
  rw [hsteps]
  refine ⟨rfl, ?_, ?_, ?_⟩
  · change v.lc = _
    rw [hlocked.lc, hlc, hmark.lc]
  · have hbit : nbit ((gword v.gran.margin 1003).toNat % 512) 7 = true := by
      have hset := congrArg (fun x : BitVec 32 => x.getLsbD 7) hlock
      simp only [BitVec.getLsbD_and] at hset
      rw [nbit, show (512 : Nat) = 2 ^ 9 from rfl, Nat.testBit_mod_two_pow, BitVec.testBit_toNat]
      simpa using hset
    change nbit (v.gran.rlock ||| ((gword v.gran.margin 1003).toNat % 512)) 7 = true
    rw [nbit, Nat.testBit_or, ← nbit, ← nbit, hbit, Bool.or_true]
  · change v.chans = _
    rw [hlocked.chans, hchans, hmark.chans]

/-- The authorized return, with fuses that verify. -/
theorem State.returnSteps_ends (s : State) (us : Nat) : (s.returnSteps us {}).1 = 0 ∧ (s.returnSteps us {}).2.lc.st = .ret ∧
    (s.returnSteps us {}).2.lc.wipeUs = us ∧ nbit (s.returnSteps us {}).2.gran.rlock 7 = true ∧
    ∀ c, c < enabled s.variant → ((s.returnSteps us {}).2.chan c).mem.rmap = [] := by
  have hframe : DataFrame s s.stopWork.engineEmpty.wipeAll := (DataFrame.refl s).stopWork.engineEmpty.wipeAll
  obtain ⟨w, hw⟩ : ∃ w, w = s.stopWork.engineEmpty.wipeAll := ⟨_, rfl⟩
  rw [← hw] at hframe
  rw [State.returnSteps_eq, ← hw]
  obtain ⟨hend, hlc, hlock, hchans⟩ := (w.clearRegions.wipedIn us).markReturn_ends
  refine ⟨hend, by rw [hlc], by rw [hlc]; rfl, hlock, fun c hc => ?_⟩
  rw [State.chan, hchans]
  exact w.clearRegions_rmap (hframe.variant.symm ▸ hc)

/-! ### Into VOID (R421) -/

/-- A link is reset and disabled. -/
def State.disableLink (s : State) (n : Nat) : State :=
  (s.linkReset n (s.link n).cause).modLink n (fun l => { l with st := .disabled })

theorem State.each_disableLink {ns : List Nat} (hns : ∀ n ∈ ns, n < 128) (s : State) : (s.each ns State.disableLink).lc = s.lc ∧
    ∀ k, k ∈ ns ∨ (s.link k).st = .disabled → ((s.each ns State.disableLink).link k).st = .disabled := by
  induction ns generalizing s with
  | nil => exact ⟨rfl, fun k hk => hk.resolve_left (List.not_mem_nil)⟩
  | cons n ns ih =>
    obtain ⟨hlc, hlinks⟩ := ih (fun k hk => hns k (List.mem_cons_of_mem _ hk)) (s.disableLink n)
    obtain ⟨-, hothers, -, -, -, hrest⟩ := s.linkReset_frame n (s.link n).cause (hns n List.mem_cons_self)
    have hkept : (s.disableLink n).lc = s.lc := by
      rw [State.disableLink, State.modLink_lc, hrest]
    refine ⟨hlc.trans hkept, fun k hk => hlinks k ?_⟩
    by_cases hkn : k = n
    · exact .inr (by rw [State.disableLink, State.link_modLink, if_pos hkn])
    · refine hk.imp (fun h => (List.mem_cons.mp h).resolve_left hkn) fun h => ?_
      rw [State.disableLink, State.link_modLink, if_neg hkn, hothers k hkn, h]

theorem State.each_unpowered (s : State) : (s.each (List.range 18) (fun t k => t.modLayer k Layer.unpowered)).lc = s.lc ∧
    (∀ n, (s.each (List.range 18) (fun t k => t.modLayer k Layer.unpowered)).link n = s.link n) ∧
    ∀ l, l < 18 → ((s.each (List.range 18) (fun t k => t.modLayer k Layer.unpowered)).layer l).supply = 0 := by
  refine ⟨s.each_keeps (fun t => t.lc = s.lc) _ _ rfl fun _ _ h => h, fun n =>
    s.each_keeps (fun t => t.link n = s.link n) _ _ rfl fun _ _ h => h, fun l hl => ?_⟩
  refine State.foldl_reaches (fun l t => (t.layer l).supply = 0) (fun t k => ?_) (fun t k l h => ?_) s _ (List.mem_range.mpr hl)
  · rw [State.layer_modLayer, if_pos rfl]
    rfl
  · rw [State.layer_modLayer]
    split
    · rfl
    · exact h

/-- What LC_VOID needs besides its key. -/
def State.MayVoid (s : State) : Prop := (s.lc.st = .mfg ∨ s.lc.st = .ret) ∧ s.progOk = true

section
variable {s : State} (hknown : s.lcKnown = true)
include hknown

theorem State.lcVoid_keyless {arg : Nat} (env : ProgEnv) (h : arg ≠ 0x44494F56) : s.lcVoid arg env = (.refused 0x0105, s) := by
  rw [State.lcVoid, if_neg (by simp [hknown]), if_pos h]

theorem State.lcVoid_refused (env : ProgEnv) (h : ¬ s.MayVoid) : s.lcVoid 0x44494F56 env = (.refused 0x0109, s) := by
  rw [State.lcVoid, if_neg (by simp [hknown]), if_neg (by simp)]
  refine if_pos ?_
  by_contra hno
  rw [not_or, not_not, Bool.not_eq_true', Bool.not_eq_false] at hno
  exact h hno

/-- The command ends in VOID, with the links disabled and the layers off. -/
theorem State.lcVoid_ends (h : s.MayVoid) : ∃ t : State, s.lcVoid 0x44494F56 {} = (.ended 0, t) ∧ t.lc.st = .void ∧
    (∀ l, l < enabled s.variant → (t.link l).st = .disabled) ∧ ∀ l, l < 18 → (t.layer l).supply = 0 := by
  obtain ⟨u, hu⟩ : ∃ u, u = (s.stopWork.programWord (markWord 2) (markMask 2) 0).2.lcEnter .void := ⟨_, rfl⟩
  obtain ⟨-, -, hmark⟩ := s.stopWork.programWord_verifies (markWord 2) (markMask 2)
  obtain ⟨hlc, -, hvariant, -⟩ := State.lcEnter_frame (s.stopWork.programWord (markWord 2) (markMask 2) 0).2 .void
  rw [← hu] at hlc hvariant
  have hvariant : u.variant = s.variant := by rw [hvariant, hmark.variant, ((DataFrame.refl s).stopWork).variant]
  obtain ⟨hkept, hlinks⟩ := State.each_disableLink (ns := linkNums u)
    (fun n hn => lt_of_lt_of_le (List.mem_range.mp hn) (enabled_le _)) u
  obtain ⟨hsame, hlinked, hoff⟩ := (u.each (linkNums u) State.disableLink).each_unpowered
  refine ⟨_, ?_, ?_, fun l hl => ?_, hoff⟩
  · rw [State.lcVoid, if_neg (by simp [hknown]), if_neg (by simp),
      if_neg (by simp only [h.1, h.2]; simp), State.programMark_verifies _ (by decide), ← hu]
    rfl
  · rw [hsame, hkept, hlc]
  · rw [hlinked, hlinks l (.inl (List.mem_range.mpr (hvariant.symm ▸ hl)))]

end

/-! ### The three commands -/

section
variable {s : State} {m : Master} {arg : List Byte}

theorem exec_lcToField_eq (env : ProgEnv) : exec (.lcToField m arg env) s =
    finish (Instr.lcToField m arg env).wf (s.writeBy m (ekey 0x0200 0x05) arg { prog := env }) := rfl

theorem exec_lcReturn_eq (us : Nat) (env : ProgEnv) : exec (.lcReturn m arg us env) s =
    finish (Instr.lcReturn m arg us env).wf (s.writeBy m (ekey 0x0200 0x06) arg { prog := env, wipeUs := us }) := rfl

theorem exec_lcVoid_eq (env : ProgEnv) : exec (.lcVoid m arg env) s =
    finish (Instr.lcVoid m arg env).wf (s.writeBy m (ekey 0x0200 0x07) arg { prog := env }) := rfl

/-- The keys of the three commands are no other command's. -/
theorem State.runCmd_lifeCycle (env : AccEnv) : s.runCmd m (ekey 0x0200 0x05) arg env = s.toField env.prog ∧
    s.runCmd m (ekey 0x0200 0x06) arg env = s.lcReturn env.wipeUs env.prog ∧
    s.runCmd m (ekey 0x0200 0x07) arg env = s.lcVoid (bytesNat arg) env.prog := by
  simp [State.runCmd, ekey, kCommit, kDiscard, kPower, kRawWrite, kRawRead, kEvacuate, kFlush]

end

/-- Settles O58: the transitions are `toField_ends`, `returnSteps_ends` and `lcVoid_ends`; the refusals go by the order of their
checks. -/
theorem lifeCycleMovesOnlyForward : Obligations.LifeCycleMovesOnlyForward := by
  intro s m arg hboot hsensing n refusal ended
  have hknown (k : Nat) : (s.asks m k arg).lcKnown = true := by rw [State.lcKnown_asks, State.lcKnown_of hboot hsensing]
  refine ⟨?_, ?_, ?_⟩
  · intro k good may hobeys
    have hmay : (s.asks m k arg).MayField ↔ may := by
      simp only [State.MayField, State.asks_lc, State.progOk_asks, State.asks_gran]
      rfl
    refine ⟨fun env hno => ?_, fun hyes => ?_⟩
    · exact exec_command_refused hobeys (exec_lcToField_eq env) rfl
        ((State.runCmd_lifeCycle _).1.trans (State.toField_refused (hknown k) env (mt hmay.mp hno))) rfl
    · obtain ⟨-, hmargin, -⟩ := (s.asks m k arg).programWord_verifies (markWord 0) (markMask 0)
      obtain ⟨hlc, hgran, -, -⟩ := State.lcEnter_frame ((s.asks m k arg).programWord (markWord 0) (markMask 0) 0).2 .field
      refine ⟨_, exec_command_ended hobeys (exec_lcToField_eq {}) rfl
        ((State.runCmd_lifeCycle _).1.trans (State.toField_ends (hknown k) (hmay.mpr hyes))), by rw [hlc], ?_⟩
      rw [hgran]
      exact hmargin
  · intro us env k i u told fresh barred hobeys
    have hlc : u.lc = s.lc := s.asks_lc m k arg
    have hgran : u.gran = s.gran := s.asks_gran m k arg
    have hfresh (t : State) (hfree : t.free = s.free) : t.drawNonce = fresh t :=
      congrArg (fun f => State.tick { t with lc := { t.lc with nonce := Config.nonce f } }) hfree
    have hdraw : u.drawNonce = fresh u := hfresh u (s.asks_free m k arg)
    have hrefused : u.authRefusal = told := by simp only [State.authRefusal, told, hlc]
    have htold : u.authRefusal.drawNonce = fresh told := by
      rw [hfresh _ (State.authRefusal_free.trans (s.asks_free m k arg)), hrefused]
    have hdict : (fresh told).dict = u.dict := State.report_dict _ _ _
    have hbarred : u.ReturnBarred ↔ barred := by
      simp only [u, State.ReturnBarred, State.asks_lc, State.progOk_asks, State.evacRuns_asks, State.asks_therm, State.asks_power]
      rfl
    have hauth : u.authorized = s.authorized := State.authorized_asks
    have hrun : u.runCmd m k arg { prog := env, wipeUs := us } = u.lcReturn us env := (State.runCmd_lifeCycle _).2.1
    refine ⟨fun hspent => ?_, fun hleft hpolicy => ?_, fun hleft hpolicy hbar => ?_, fun hleft hpolicy hbar hno => ?_,
      fun hleft hpolicy hbar hyes henv => ?_⟩
    · exact exec_command_refused hobeys (exec_lcReturn_eq us env) rfl
        (hrun.trans ((State.lcReturn_spent (hknown k) us env (hlc ▸ hspent)).trans (by rw [htold]))) hdict
    · exact exec_command_refused hobeys (exec_lcReturn_eq us env) rfl
        (hrun.trans ((State.lcReturn_policy (hknown k) us env (hlc ▸ hleft) (hgran ▸ hpolicy)).trans (by rw [htold]))) hdict
    · exact exec_command_refused hobeys (exec_lcReturn_eq us env) rfl
        (hrun.trans ((State.lcReturn_barred (hknown k) us env (hlc ▸ hleft) (hgran ▸ hpolicy) (hbarred.mpr hbar)).trans
          (by rw [hdraw]))) rfl
    · have hfree := State.lcReturn_free (hknown k) us env (hlc ▸ hleft) (hgran ▸ hpolicy) (mt hbarred.mp hbar)
      rw [hauth, hno, htold, if_pos (by simp)] at hfree
      exact exec_command_ended hobeys (exec_lcReturn_eq us env) rfl (hrun.trans hfree)
    · subst henv
      have hfree := State.lcReturn_free (hknown k) us {} (hlc ▸ hleft) (hgran ▸ hpolicy) (mt hbarred.mp hbar)
      obtain ⟨hend, hst, hus, hlock, hmap⟩ := u.returnSteps_ends us
      rw [hauth, hyes, hend, if_neg (by simp)] at hfree
      have hvariant : u.variant = s.variant := s.asks_variant m k arg
      exact ⟨_, exec_command_ended hobeys (exec_lcReturn_eq us {}) rfl (hrun.trans hfree), hst, hus, hlock,
        fun c hc => hmap c (hvariant.symm ▸ hc)⟩
  · intro k may hobeys
    have hmay : (s.asks m k arg).MayVoid ↔ may := by
      simp only [State.MayVoid, State.asks_lc, State.progOk_asks]
      rfl
    have hrun (env : ProgEnv) : (s.asks m k arg).runCmd m k arg { prog := env } = (s.asks m k arg).lcVoid n env :=
      (State.runCmd_lifeCycle _).2.2
    refine ⟨fun env hkey => ?_, fun env hkey hno => ?_, fun hkey hyes => ?_⟩
    · exact exec_command_refused hobeys (exec_lcVoid_eq env) rfl ((hrun env).trans (State.lcVoid_keyless (hknown k) env hkey)) rfl
    · rw [hkey] at hrun
      exact exec_command_refused hobeys (exec_lcVoid_eq env) rfl
        ((hrun env).trans (State.lcVoid_refused (hknown k) env (mt hmay.mp hno))) rfl
    · rw [hkey] at hrun
      obtain ⟨t, hend, hst, hlinks, hoff⟩ := State.lcVoid_ends (hknown k) (hmay.mpr hyes)
      rw [State.asks_variant] at hlinks
      exact ⟨t, exec_command_ended hobeys (exec_lcVoid_eq {}) rfl ((hrun {}).trans hend), hst, hlinks, hoff⟩

end Sys2Proof.Machine
end

section
/-!
PROOFS. Slice0/Sparge: how a slice of the Sparge starts, moves on and ends, and test hold (R302–R311).
-/

namespace Sys2Proof.Machine

/-! ### The causes of a deferral (Table 6) -/

/-- A word that is made of seven bits, the lowest first, holds them. -/
theorem nbit_sum (a b c d e f g : Bool) :
    let v := b2n a + 2 * b2n b + 4 * b2n c + 8 * b2n d + 16 * b2n e + 32 * b2n f + 64 * b2n g
    nbit v 1 = b ∧ nbit v 2 = c ∧ nbit v 3 = d := by
  revert a b c d e f g
  decide

section
variable (s : State) (m k w : Nat)

theorem State.deferCauses_bits : nbit (s.deferCauses m k w) 1 = !s.railsOk m ∧
    nbit (s.deferCauses m k w) 2 = decide (s.therm.zone ≠ 0) ∧
    nbit (s.deferCauses m k w) 3 = ((s.chan m).forced || decide ((s.chan m).st = .inSr)) := nbit_sum _ _ _ _ _ _ _

/-- The supplies are within 3 % of their nominal values. -/
theorem State.railsOk_eq : s.railsOk m =
    let within := fun (sub nominal : Nat) => decide (97 * nominal ≤ 100 * s.rget (ekey 0x6000 sub) ∧
      100 * s.rget (ekey 0x6000 sub) ≤ 103 * nominal)
    within (0x90 + s.home m) 105000 && within (0xA2 + s.home m) 70000 && within (0xB4 + s.home m) 180000 && within 0x84 120000 := by
  simp only [State.railsOk, State.within3, Bool.decide_and]

end

/-! ### A slice falls due -/

section
variable {s : State} {m : Nat}

theorem State.sliceDue_idle (h : s.spargeRuns m = false ∨ (s.chan m).rep.slice ≠ none) : s.sliceDue m = s := by
  refine if_pos ?_
  rw [Bool.or_eq_true, Bool.not_eq_true', Option.isSome_iff_ne_none]
  exact h

/-- The slice is deferred, skipped or started at the position's bank and row. -/
theorem State.sliceDue_eq (hruns : s.spargeRuns m = true) (hslice : (s.chan m).rep.slice = none) : s.sliceDue m =
    let pos := s.rget (chanKey m 0xF0)
    let why := s.deferCauses m (pos % 16) (pos / 16)
    if why ≠ 0 then (s.modChan m (fun c => { c with rep := { c.rep with lastDefer := why } })).count (chanKey m 0xF2) 1
    else if 64 ≤ mget 0 (s.chan m).rep.usedRows (pos % 16) then (s.count (chanKey m 0xF5) 1).spargeNext m
    else s.modChan m (fun c => { c with rep := { c.rep with slice := some { bank := pos % 16, row := pos / 16 } } }) :=
  if_neg (by simp [hruns, hslice])

/-! ### An entry of a slice -/

variable {x : Slice} {diffs rereads : List BitAt} {env : ChanEnv}

theorem State.spargeEntry_idle (h : (s.chan m).rep.slice = none ∨ s.mayRun m = false) : s.spargeEntry m diffs rereads env = s := by
  rw [State.spargeEntry]
  split
  · rfl
  next x hslice => exact if_pos (by simpa [hslice] using h)

/-- The entry aborts its slice: a cause stands before E1 to E8, or a forced self-refresh is to come. -/
def State.SliceStops (s : State) (m : Nat) (x : Slice) : Prop :=
  (1 ≤ x.entry ∧ x.entry ≤ 8 ∧ s.spargeCauses m ≠ 0) ∨ (s.chan m).forced = true

section
variable (hslice : (s.chan m).rep.slice = some x) (hmay : s.mayRun m = true)
include hslice hmay

theorem State.spargeEntry_retired (h : (s.maintCheck m env).retired m = true) :
    s.spargeEntry m diffs rereads env = s.maintCheck m env := by
  rw [State.spargeEntry, hslice]
  exact (if_neg (by simp [hmay])).trans (if_pos h)

variable (hin : (s.maintCheck m env).retired m = false)
include hin

theorem State.spargeEntry_stops (h : (s.maintCheck m env).SliceStops m x) :
    s.spargeEntry m diffs rereads env = (s.maintCheck m env).abortSlice m := by
  rw [State.spargeEntry, hslice]
  refine (if_neg (by simp [hmay])).trans ((if_neg (by simp [hin])).trans (if_pos ?_))
  simpa [State.SliceStops, and_assoc] using h

theorem State.spargeEntry_runs (h : ¬ (s.maintCheck m env).SliceStops m x) :
    s.spargeEntry m diffs rereads env = (s.maintCheck m env).sliceEntry m x diffs rereads := by
  rw [State.spargeEntry, hslice]
  refine (if_neg (by simp [hmay])).trans ((if_neg (by simp [hin])).trans (if_neg fun hstops => h ?_))
  simpa [State.SliceStops, and_assoc] using hstops

end

/-- The row of the slice is activated, as maintenance, and its bank closed. -/
def State.sliceRow (s : State) (m : Nat) (x : Slice) : State :=
  ((s.activate m x.bank x.row).maintained m).modChan m (fun c => { c with openRows := mdel c.openRows x.bank })

theorem State.sliceEntry_moves (h : x.entry < 9) : s.sliceEntry m x diffs rereads =
    let found := if x.entry ∈ [2, 3, 4, 5, 6, 8]
      then confirmed (s.chan m).erased (decide (x.entry = 4 ∨ x.entry = 5)) diffs rereads else none
    (s.sliceRow m x).modChan m (fun c => { c with rep := { c.rep with
      slice := some { x with entry := x.entry + 1, fail := if x.fail.isSome then x.fail else found } } }) := if_pos h

/-- The slice of a channel is over. -/
def State.sliceOver (s : State) (m : Nat) (x : Slice) : State :=
  (s.sliceRow m x).modChan m (fun c => { c with rep := { c.rep with slice := none } })

theorem State.sliceEntry_passes (h : 9 ≤ x.entry) (hfail : x.fail = none) :
    s.sliceEntry m x diffs rereads = ((s.sliceOver m x).count (chanKey m 0xF1) 1).spargeNext m := by
  refine (if_neg (by omega)).trans ?_
  rw [hfail]
  rfl

theorem State.sliceEntry_fails (h : 9 ≤ x.entry) {b : BitAt} (hfail : x.fail = some b) :
    s.sliceEntry m x diffs rereads = (((s.sliceOver m x).sliceFailed m x b).count (chanKey m 0xF1) 1).spargeNext m := by
  refine (if_neg (by omega)).trans ?_
  rw [hfail]
  rfl

end

/-! ### Test hold (R302) -/

theorem State.runCmd_testHold (s : State) (m : Master) (arg : List Byte) (env : AccEnv) :
    s.runCmd m (ekey 0x4800 0x10) arg env = (.sync 0, s.testHold) := by
  simp [State.runCmd, ekey, kCommit, kDiscard, kPower, kRawWrite, kRawRead, kEvacuate, kFlush]

/-- Settles O47, row by row: the cases of `sliceDue` and of `spargeEntry`, and the command of test hold. -/
theorem spargeTestsOneRowAtATime : Obligations.SpargeTestsOneRowAtATime := by
  intro s m hm c pos onward
  have hdue : exec (.spargeSliceDue m ()) s = .next (s.sliceDue m).settle := finish_wf (decide_eq_true hm) _
  refine ⟨fun hruns hslice => ?_, fun h => ?_, ?_, ?_⟩
  · obtain ⟨hrails, hzone, hself⟩ := s.deferCauses_bits m (pos % 16) (pos / 16)
    rw [State.railsOk_eq] at hrails
    rw [State.sliceDue_eq hruns hslice] at hdue
    refine ⟨hrails, hzone, hself, fun hwhy => ?_, fun hwhy hused => ?_, fun hwhy hused => ?_⟩
    · rw [hdue]
      exact congrArg (fun t : State => Host.Outcome.next t.settle) (if_pos hwhy)
    · rw [hdue]
      exact congrArg (fun t : State => Host.Outcome.next t.settle) ((if_neg (not_not.mpr hwhy)).trans (if_pos hused))
    · rw [hdue]
      exact congrArg (fun t : State => Host.Outcome.next t.settle)
        ((if_neg (not_not.mpr hwhy)).trans (if_neg (Nat.not_le.mpr hused)))
  · rw [hdue, State.sliceDue_idle h]
  · intro diffs rereads env hwf entry s' ran stops
    have hentry : entry = .next (s.spargeEntry m diffs rereads env).settle := finish_wf hwf _
    refine ⟨fun x hslice hmay hretired => ?_, fun x hslice hmay hin hstops => ?_, fun x hslice hmay hin hno hx => ?_,
      fun x hslice hmay hin hno hx => ⟨fun hfail => ?_, fun b hfail => ?_⟩, fun h => ?_⟩
    · rw [hentry, State.spargeEntry_retired hslice hmay hretired]
    · rw [hentry, State.spargeEntry_stops hslice hmay hin hstops]
    · rw [hentry, State.spargeEntry_runs hslice hmay hin hno, State.sliceEntry_moves hx]
      rfl
    · rw [hentry, State.spargeEntry_runs hslice hmay hin hno, State.sliceEntry_passes hx hfail]
      rfl
    · rw [hentry, State.spargeEntry_runs hslice hmay hin hno, State.sliceEntry_fails hx hfail]
      rfl
    · rw [hentry, State.spargeEntry_idle h]
  · intro by' arg k u hobeys
    exact exec_command_sync hobeys rfl rfl (State.runCmd_testHold _ by' arg {})

end Sys2Proof.Machine
end

section
/-!
PROOFS. Slice0/Repairs: soft row and column repair (R281–R284). What the checks of a maintenance entry keep, what the judging of the
candidates keeps (R289), and the fields of an asked-for candidate (R279, Table 2).
-/

namespace Sys2Proof.Machine

variable {s t : State} {m : Nat}

/-! ### The checks of an entry -/

theorem State.inject_keeps (s : State) (k inst addr : Nat) :
    (s.inject k inst addr).2.repair = s.repair ∧ (s.inject k inst addr).2.chans = s.chans := by
  unfold State.inject
  extract_lets ctrl mode who mtch left s1
  split_ifs <;> exact ⟨rfl, rfl⟩

theorem State.chan_congr (h : t.chans = s.chans) (k : Nat) : t.chan k = s.chan k := by rw [State.chan, State.chan, h]

/-- The look-up of a region changes no repair. -/
theorem State.lookupRegion_keeps (r : Nat) (bad : Bool) :
    (s.lookupRegion m r bad).2.repair = s.repair ∧ ((s.lookupRegion m r bad).2.chan m).rep = (s.chan m).rep := by
  have hchan := State.chan_congr (s.inject_keeps 5 m r).2 m
  simp only [State.lookupRegion]
  split <;> split <;>
    simp [State.chan_congr (State.report_chans _ _ _), State.chan_congr (State.count_chans _ _ _), State.inject_keeps, hchan]

/-- An entry whose check leaves its channel in service changes no repair. -/
theorem State.maintCheck_keeps (env : ChanEnv) (h : (s.maintCheck m env).retired m = false) :
    (s.maintCheck m env).repair = s.repair ∧ (s.maintCheck m env).chans = s.chans := by
  revert h
  simp only [State.maintCheck]
  split
  · simp [State.inject_keeps, State.caCount]
  · split
    · simp [(State.retire_frame _ m 6).2]
    · simp [State.inject_keeps, State.caCount, State.sramError]

/-! ### Judging the candidates (R289) -/

/-- Of a channel nothing changes but its part in an evacuation. -/
def Chan.SameWork (c d : Chan) : Prop :=
  d = { c with rep := { c.rep with evac := d.rep.evac, copyAt := d.rep.copyAt }
               vl := { c.vl with extHops := d.vl.extHops, extSlices := d.vl.extSlices } }

theorem Chan.SameWork.refl (c : Chan) : c.SameWork c := rfl

theorem Chan.SameWork.trans {c d e : Chan} (h : c.SameWork d) (h' : d.SameWork e) : c.SameWork e := by
  unfold Chan.SameWork at h h' ⊢
  rw [h', h]

/-- What the start of an evacuation keeps of what lets an entry run. -/
structure EvacFrame (s t : State) : Prop where
  boot : t.boot = s.boot
  variant : t.variant = s.variant
  power : t.power = s.power
  therm : t.therm = s.therm
  clk : t.clk = s.clk
  locked : ∀ k, (t.layer k).locked = (s.layer k).locked
  chan : ∀ k, (s.chan k).SameWork (t.chan k)

namespace EvacFrame

variable {u : State}

theorem refl (s : State) : EvacFrame s s := ⟨rfl, rfl, rfl, rfl, rfl, fun _ => rfl, fun _ => .refl _⟩

theorem trans (h : EvacFrame s t) (h' : EvacFrame t u) : EvacFrame s u :=
  ⟨h'.boot.trans h.boot, h'.variant.trans h.variant, h'.power.trans h.power, h'.therm.trans h.therm, h'.clk.trans h.clk,
    fun k => (h'.locked k).trans (h.locked k), fun k => (h.chan k).trans (h'.chan k)⟩

theorem withRepair (s : State) (r : Repair) : EvacFrame s { s with repair := r } :=
  ⟨rfl, rfl, rfl, rfl, rfl, fun _ => rfl, fun _ => rfl⟩

theorem report (s : State) (n i : Nat) : EvacFrame s (s.report n i) :=
  ⟨s.report_boot n i, s.report_variant n i, s.report_power n i, s.report_therm n i, s.report_clk n i,
    fun k => by rw [State.layer, State.report_layers, ← State.layer],
    fun k => by rw [State.chan_congr (s.report_chans n i)]; exact .refl _⟩

theorem modLayer (s : State) (n : Nat) (st : Nat) : EvacFrame s (s.modLayer n (fun l => l.become st)) := by
  refine ⟨rfl, rfl, rfl, rfl, rfl, fun k => ?_, fun _ => .refl _⟩
  rw [State.layer_modLayer]
  split
  · next h => rw [h, Layer.become]; split <;> rfl
  · rfl

theorem modChan (s : State) (n : Nat) {f : Chan → Chan} (hf : (s.chan n).SameWork (f (s.chan n))) : EvacFrame s (s.modChan n f) := by
  refine ⟨rfl, rfl, rfl, rfl, rfl, fun _ => rfl, fun k => ?_⟩
  rw [State.chan_modChan]
  split
  · next h => rw [h]; exact hf
  · exact .refl _

theorem foldl {α : Type} (xs : List α) {f : State → α → State} (hf : ∀ v x, EvacFrame v (f v x)) (s : State) :
    EvacFrame s (xs.foldl f s) := List.foldlRecOn xs f (refl s) fun _ hv x _ => hv.trans (hf _ x)

theorem evacStart (s : State) (src dst : Nat) (answered : Bool) : EvacFrame s (s.evacStart src dst answered) := by
  unfold State.evacStart
  exact ((((withRepair s _).trans (modLayer _ src 6)).trans (modLayer _ dst 7)).trans
    (foldl _ (fun v k => modChan v k (by rfl)) _)).trans (report _ 25 0)

theorem noSpare (s : State) (e : BitVec 64) : EvacFrame s (s.noSpare e) := by
  unfold State.noSpare
  extract_lets evacuating kept listed told
  have htold : EvacFrame s told := (withRepair s _).trans (report listed 24 0)
  split
  · exact refl s
  · split
    · split
      · exact htold.trans (evacStart _ _ _ _)
      · exact htold
    · exact htold

theorem rejudge (s : State) : EvacFrame s s.rejudge :=
  foldl _ (fun v e => by split; exacts [noSpare v e, refl v]) s

/-- The channel runs an entry as before, and migrates the same column. -/
theorem mayRun (h : EvacFrame s t) (m : Nat) : t.mayRun m = s.mayRun m ∧ (t.chan m).rep.migr = (s.chan m).rep.migr := by
  have hchan : _ = _ := h.chan m
  generalize hd : t.chan m = d at hchan
  have hhome : t.home m = s.home m := by rw [State.home, State.home, hd, hchan]
  simp only [State.mayRun, State.mayMaintain, State.chanRuns, State.chanClocked, State.layerClocked, h.boot, h.variant, h.power,
    h.therm, h.clk, h.locked, hhome, hd]
  rw [hchan]
  exact ⟨rfl, rfl⟩

end EvacFrame

/-! ### An asked-for candidate (R279) -/

/-- The fields of a candidate that are looked at again: each lies where it was put. -/
theorem candidate_fields {kind source layer ch bank row col sym bit : Nat} (known : Bool) (hkind : kind < 8) (hsource : source < 8)
    (hlayer : layer < 32) (hch : ch < 128) (hbank : bank < 16) (hrow : row < 32768) (hcol : col < 16) (hsym : sym < 128)
    (hbit : bit < 8) (e : BitVec 64) (he : e = candidate kind source layer ch bank row col sym bit known) :
    rlKind e = kind ∧ rlState e = 0 ∧ rlChan e = ch ∧ rlBank e = bank ∧ rlRow e = row := by
  have hknown : b2n known < 2 := by cases known <;> decide
  have hvalue : e.toNat = kind * 2 ^ 61 + source * 2 ^ 58 + layer * 2 ^ 51 + ch * 2 ^ 44 + bank * 2 ^ 40 + row * 2 ^ 25 +
      col * 2 ^ 21 + sym * 2 ^ 14 + bit * 2 ^ 11 + b2n known * 2 ^ 10 := by
    rw [he, candidate, BitVec.toNat_ofNat]
    exact Nat.mod_eq_of_lt (by omega)
  simp only [rlKind, rlState, rlChan, rlBank, rlRow, nfield, hvalue]
  omega

theorem sameLocation_self (e : BitVec 64) : sameLocation e e = true := by simp [sameLocation]

/-! ### Row repair (R282) -/

/-- The row of a candidate takes the spare row that its bank comes to. -/
def State.takesSpare (s : State) (m k w : Nat) : State :=
  s.modChan m (fun c => { c with rep := { c.rep with
    remap := mput c.rep.remap (k * 32768 + w) (mget 0 (s.chan m).rep.usedRows k)
    usedRows := mset 0 c.rep.usedRows k (mget 0 (s.chan m).rep.usedRows k + 1) } })

theorem State.remapRow_eq (s : State) (m : Nat) (e : BitVec 64) : s.remapRow m e =
    ((s.takesSpare m (rlBank e) (rlRow e)).softRepaired e
      (recordPlace 1 (rlLayer e) (m % 8) (rlBank e) + rlRow e * 4)).rejudge := rfl

/-- The row is not under test, and the look-up finds its spare. -/
theorem State.takesSpare_physRow {k w : Nat} (hslice : (s.chan m).rep.slice = none) :
    ((s.takesSpare m k w).chan m).physRow k w = 32768 + mget 0 (s.chan m).rep.usedRows k := by
  simp [State.takesSpare, Chan.physRow, Chan.underTest, hslice, mfind_mput]

theorem State.softRepaired_chans (e : BitVec 64) (r : Nat) : (s.softRepaired e r).chans = s.chans := by
  simp only [State.softRepaired]
  split <;> rfl

theorem State.softRepaired_list (e : BitVec 64) (r : Nat) : (s.softRepaired e r).repair.list =
    mapFirst (fun x => sameLocation x e && decide (rlState x = 0)) (fun x => rlSetState x 1) s.repair.list := by
  simp only [State.softRepaired]
  split <;> rfl

section
variable (s : State) (m : Nat) (e : BitVec 64) (noise : List Nat) (env : ChanEnv)

/-- The look-up of the row's region, then the checks of the entry. -/
def State.rowLook : Bool × State := s.lookupRegion m (regionOf (localOf (rlBank e) (rlRow e) 0)) env.rmapBad
def State.rowChecked : State := (s.rowLook m e env).2.maintCheck m env

/-- The blocks of the row have been written again, where its region is written. -/
def State.rowRewritten : State :=
  (if (s.rowLook m e env).1 then
    State.readRow (State.recodeBlock m) (((s.rowChecked m e env).maintRow m (localOf (rlBank e) (rlRow e) 0)).activate m (rlBank e)
      (rlRow e)) m (localOf (rlBank e) (rlRow e) 0) 16 noise (env.vNoise, env.pNoise)
  else s.rowChecked m e env).maintained m

/-- The row has its spare, and its candidate is soft repaired. -/
def State.rowSpared : State := ((s.rowRewritten m e noise env).takesSpare m (rlBank e) (rlRow e)).softRepaired e
  (recordPlace 1 (rlLayer e) (m % 8) (rlBank e) + rlRow e * 4)

theorem State.repairRow_eq : s.repairRow m e noise env =
    if (s.rowChecked m e env).retired m = true then s.rowChecked m e env else (s.rowSpared m e noise env).rejudge := by
  unfold State.repairRow
  dsimp only
  simp only [State.remapRow_eq]
  rfl

/-- Where nothing is written again and the channel stays in service, the row reads its spare and the list is as it was, but for the
candidate. -/
theorem State.rowSpared_unwritten (hunwritten : (s.rowLook m e env).1 = false) (hslice : (s.chan m).rep.slice = none)
    (hserves : (s.rowChecked m e env).retired m = false) :
    ((s.rowSpared m e noise env).chan m).physRow (rlBank e) (rlRow e) = 32768 + mget 0 (s.chan m).rep.usedRows (rlBank e) ∧
      (s.rowSpared m e noise env).repair.list =
        mapFirst (fun x => sameLocation x e && decide (rlState x = 0)) (fun x => rlSetState x 1) s.repair.list := by
  obtain ⟨hlist, hrep⟩ := s.lookupRegion_keeps (m := m) (regionOf (localOf (rlBank e) (rlRow e) 0)) env.rmapBad
  obtain ⟨hkept, hchans⟩ := State.maintCheck_keeps env hserves
  have hrewritten : s.rowRewritten m e noise env = (s.rowChecked m e env).maintained m := by rw [State.rowRewritten, hunwritten]; rfl
  have hsame : ((s.rowRewritten m e noise env).chan m).rep = (s.chan m).rep := by
    rw [hrewritten, State.maintained, State.chan_congr (State.count_chans _ _ _), State.chan_modChan, if_pos rfl,
      State.rowChecked, State.chan_congr hchans]
    exact hrep
  have hrepair : (s.rowRewritten m e noise env).repair = s.repair := by
    rw [hrewritten, State.maintained, State.count_repair, State.modChan_repair]
    exact hkept.trans hlist
  refine ⟨?_, ?_⟩
  · rw [State.rowSpared, State.chan_congr (State.softRepaired_chans _ _), State.takesSpare_physRow (by rw [hsame, hslice]), hsame]
  · rw [State.rowSpared, State.softRepaired_list, State.takesSpare, State.modChan_repair, hrepair]

end

theorem State.rowRepair_runs {e : BitVec 64} (noise : List Nat) (env : ChanEnv) (hrun : s.mayRun m = true)
    (he : s.nextRepair m 1 = some e) : s.rowRepair m noise env = s.repairRow m e noise env := by
  rw [State.rowRepair, he]
  exact if_pos hrun

/-! ### Column repair (R283) -/

section
variable (s : State) (m k col sym w : Nat) (noise : List Nat) (env : ChanEnv)

/-- The row of a migration has been read, and where its region is written its column written. -/
def State.rowMoved : State :=
  (if (s.lookupRegion m (regionOf (localOf k w 0)) env.rmapBad).1 then
    State.readRow (State.migrateBlock m col sym) ((s.lookupRegion m (regionOf (localOf k w 0)) env.rmapBad).2.maintRow m
      (localOf k w 0)) m (localOf k w 0) 16 noise (env.vNoise, env.pNoise)
  else (s.lookupRegion m (regionOf (localOf k w 0)) env.rmapBad).2).maintained m

theorem State.migrate_eq {t : State} (ht : s.rowMoved m k col sym w noise env = t) : s.migrate m k col sym w noise env =
    if w < 32767 then t.modChan m (fun c => { c with rep := { c.rep with migr := some (k, col, sym, w + 1) } })
    else (t.modChan m (fun c => { c with rep := { c.rep with migr := none, cols := c.rep.cols ++ [(k, col, sym)] } })).softRepaired
      (candidate 2 0 (t.home m) m k 0 col sym 0 false)
      (recordPlace 2 (t.home m) (m % 8) k + col * 2 ^ 13 + sym * 2 ^ 6) := by
  have hhome : (t.modChan m (fun c => { c with rep := { c.rep with
      migr := none, cols := c.rep.cols ++ [(k, col, sym)] } })).home m = t.home m := by
    simp only [State.home, State.chan_modChan, if_pos]
  unfold State.migrate
  dsimp only
  conv_rhs => rw [← hhome]
  rw [← ht]
  rfl

end

/-- A migration runs on. -/
theorem State.migrationStep_runs {k col sym w : Nat} (noise : List Nat) (env : ChanEnv) (hrun : s.mayRun m = true)
    (hmigr : (s.chan m).rep.migr = some (k, col, sym, w)) : s.migrationStep m noise env =
      if (s.maintCheck m env).retired m = true then s.maintCheck m env else (s.maintCheck m env).migrate m k col sym w noise env := by
  simp only [State.migrationStep, hrun, hmigr]
  rfl

/-- A channel takes the next spare column of a candidate's bank and begins at row 0. -/
def Chan.startsColumn (e : BitVec 64) (c : Chan) : Chan := { c with rep := { c.rep with
  migr := some (rlBank e, rlCol e, rlSym e, 0)
  usedCols := mset 0 c.rep.usedCols (rlBank e) (mget 0 c.rep.usedCols (rlBank e) + 1) } }

theorem State.startMigration_eq (s : State) (m : Nat) (e : BitVec 64) :
    s.startMigration m e = (s.modChan m (Chan.startsColumn e)).rejudge := rfl

theorem State.mayRun_startsColumn (e : BitVec 64) : (s.modChan m (Chan.startsColumn e)).mayRun m = s.mayRun m := by
  simp only [State.mayRun, State.mayMaintain, State.chanRuns, State.layerClocked, State.home, State.chan_modChan, if_pos]
  rfl

/-- A migration that starts makes its first step at once. -/
theorem State.migrationStep_starts {e : BitVec 64} (noise : List Nat) (env : ChanEnv) (hrun : s.mayRun m = true)
    (hmigr : (s.chan m).rep.migr = none) (he : s.nextRepair m 2 = some e) (hevac : (s.chan m).rep.evac = 0) :
    s.migrationStep m noise env = (s.startMigration m e).migrationStep m noise env := by
  obtain ⟨hmay, hcol⟩ := (EvacFrame.rejudge (s.modChan m (Chan.startsColumn e))).mayRun m
  rw [← State.startMigration_eq] at hmay hcol
  have hstarted : ((s.startMigration m e).chan m).rep.migr = some (rlBank e, rlCol e, rlSym e, 0) :=
    hcol.trans (by rw [State.chan_modChan, if_pos rfl]; rfl)
  have hruns : (s.startMigration m e).mayRun m = true := hmay.trans ((State.mayRun_startsColumn e).trans hrun)
  rw [State.migrationStep_runs noise env hruns hstarted]
  simp only [State.migrationStep, hrun, hmigr, he, hevac, if_true, hstarted]
  rfl

/-- Nothing migrates and nothing may start, or no entry may run. -/
theorem State.migrationStep_idle (noise : List Nat) (env : ChanEnv) (h : s.mayRun m = false ∨
    ((s.chan m).rep.migr = none ∧ (s.nextRepair m 2 = none ∨ (s.chan m).rep.evac ≠ 0))) : s.migrationStep m noise env = s := by
  rcases h with hrun | ⟨hmigr, he | hevac⟩
  · simp [State.migrationStep, hrun]
  · simp [State.migrationStep, hmigr, he]
  · cases he : s.nextRepair m 2 <;> simp [State.migrationStep, hmigr, he, hevac]

theorem State.rowRepair_idle (noise : List Nat) (env : ChanEnv) (h : s.mayRun m = false ∨ s.nextRepair m 1 = none) :
    s.rowRepair m noise env = s := by
  rcases h with hrun | he
  · cases he : s.nextRepair m 1 <;> simp [State.rowRepair, he, hrun]
  · simp [State.rowRepair, he]

/-! ### REPAIR_REQUEST (R281, Table 7) -/

/-- The candidate that a request names. -/
def asked (v : BitVec 64) : BitVec 64 :=
  candidate (rlKind v) 4 (rlLayer v) (rlChan v) (rlBank v) (if rlKind v = 1 then rlRow v else 0) (rlCol v) (rlSym v)
    (nfield v.toNat 13 11) (nbit v.toNat 10)

theorem asked_fields (v : BitVec 64) : rlKind (asked v) = rlKind v ∧ rlState (asked v) = 0 ∧ rlChan (asked v) = rlChan v ∧
    rlBank (asked v) = rlBank v ∧ rlRow (asked v) = if rlKind v = 1 then rlRow v else 0 :=
  candidate_fields _ (nfield_lt _ 63 61) (by decide) (nfield_lt _ 55 51) (nfield_lt _ 50 44) (nfield_lt _ 43 40)
    (by split; exacts [nfield_lt _ 39 25, by decide]) (nfield_lt _ 24 21) (nfield_lt _ 20 14) (nfield_lt _ 13 11) _ rfl

/-- The request names no home location of a serving channel. -/
def State.Misplaced (s : State) (v : BitVec 64) : Prop :=
  (rlKind v ≠ 1 ∧ rlKind v ≠ 2) ∨ enabled s.variant ≤ rlChan v ∨ s.retired (rlChan v) = true ∨ rlLayer v ≠ s.home (rlChan v) ∨
    (rlKind v = 2 ∧ 71 < rlSym v)

/-- The candidate is listed, its channel woken, and it is asked for. -/
def State.listed (s : State) (e : BitVec 64) : State :=
  ({ s with repair := { s.repair with list := s.repair.list ++ [e] } }).wake (rlChan e) true
def State.askedFor (s : State) (e : BitVec 64) : State :=
  { s.listed e with repair := { (s.listed e).repair with asked := (s.listed e).repair.asked ++ [e] } }

theorem State.wake_repair (k : Nat) (array : Bool) : (s.wake k array).repair = s.repair := by
  unfold State.wake
  extract_lets c
  split_ifs <;> simp [State.srx]

/-- A candidate for which a spare is idle is listed where its location is not. -/
theorem State.addCandidate_new {e : BitVec 64} (hspare : s.spareFor e = true) (hroom : s.repair.list.length < 256)
    (hnew : ∀ x ∈ s.repair.list, sameLocation x e = true → 1 < rlState x) :
    s.addCandidate e = { s with repair := { s.repair with list := s.repair.list ++ [e] } } := by
  have hunknown : s.repair.list.any (fun x => sameLocation x e && decide (rlState x ≤ 1)) = false :=
    List.any_eq_false.mpr fun x hx hsame => by
      rw [Bool.and_eq_true, decide_eq_true_eq] at hsame
      exact absurd (hnew x hx hsame.1) (Nat.not_lt.mpr hsame.2)
  have hspare' (l : List (BitVec 64)) : ({ s with repair := { s.repair with list := l } } : State).spareFor e = true := hspare
  unfold State.addCandidate
  simp only [hunknown, hroom, hspare', if_true]
  simp

section
variable {arg : List Byte} {v : BitVec 64} (hv : BitVec.ofNat 64 (bytesNat arg) = v)
include hv

theorem State.repairRequest_misplaced (h : s.Misplaced v) : s.repairRequest arg = (0x0105, s) := by
  rw [State.repairRequest, hv]
  exact if_pos h

theorem State.repairRequest_spareless (h : ¬ s.Misplaced v) (hspare : s.spareFor (asked v) = false) :
    s.repairRequest arg = (0x0400, s) := by
  rw [State.repairRequest, hv]
  exact (if_neg h).trans (if_pos (by rw [Bool.not_eq_true']; exact hspare))

theorem State.repairRequest_listed (h : ¬ s.Misplaced v) (hspare : s.spareFor (asked v) = true)
    (hroom : s.repair.list.length < 256) (hnew : ∀ x ∈ s.repair.list, sameLocation x (asked v) = true → 1 < rlState x) :
    s.repairRequest arg = (0,
      if rlKind v = 1 then
        (if (s.askedFor (asked v)).mayRun (rlChan v) = false ∨
            ((s.askedFor (asked v)).chan (rlChan v)).sliceAt (rlBank v) (rlRow v) = true then s.askedFor (asked v)
          else (s.askedFor (asked v)).repairRow (rlChan v) (asked v) [] {})
      else if ((s.askedFor (asked v)).chan (rlChan v)).rep.migr = none ∧ ((s.askedFor (asked v)).chan (rlChan v)).rep.evac = 0 then
        (s.askedFor (asked v)).startMigration (rlChan v) (asked v)
      else s.askedFor (asked v)) := by
  obtain ⟨hkind, hstate, hchan, hbank, hrow⟩ := asked_fields v
  have hlisted : (s.addCandidate (asked v)).wake (rlChan v) true = s.listed (asked v) := by
    rw [State.addCandidate_new hspare hroom hnew, State.listed, hchan]
  have hpending : (s.listed (asked v)).repair.list.any (fun x => sameLocation x (asked v) && decide (rlState x = 0)) = true := by
    rw [State.listed, State.wake_repair]
    simp [sameLocation_self, hstate]
  rw [State.repairRequest, hv]
  refine (if_neg h).trans ((if_neg (by simp only [Bool.not_eq_true', Bool.not_eq_false]; exact hspare)).trans ?_)
  dsimp only
  rw [← asked, hlisted, hpending, hkind, hbank, hrow]
  obtain ⟨t, ht⟩ : ∃ t, t = s.askedFor (asked v) := ⟨_, rfl⟩
  change (if rlKind v = 1 then (0, if (!(s.askedFor (asked v)).mayRun (rlChan v) || ((s.askedFor (asked v)).chan (rlChan v)).sliceAt
        (rlBank v) (if rlKind v = 1 then rlRow v else 0)) = true then s.askedFor (asked v)
      else (s.askedFor (asked v)).repairRow (rlChan v) (asked v) [] {})
    else if ((s.askedFor (asked v)).chan (rlChan v)).rep.migr = none ∧ ((s.askedFor (asked v)).chan (rlChan v)).rep.evac = 0 then
      (0, (s.askedFor (asked v)).startMigration (rlChan v) (asked v))
    else (0, s.askedFor (asked v))) = _
  rw [← ht]
  by_cases hrows : rlKind v = 1
  · simp only [if_pos hrows, Bool.or_eq_true, Bool.not_eq_true']
  · simp only [if_neg hrows, apply_ite (Prod.mk 0)]

end

theorem State.runCmd_repair (s : State) (by' : Master) (arg : List Byte) (env : AccEnv) :
    s.runCmd by' (ekey 0x1C00 0x0D) arg env = s.repairCmd arg := by
  simp [State.runCmd, ekey, kCommit, kDiscard, kPower, kRawWrite, kRawRead]

/-- Settles O44: what judging the candidates starts (an evacuation) lets the entry run on, and the candidate that a request lists has the
fields that the request names. -/
theorem rowsAndColumnsAreRepaired : Obligations.RowsAndColumnsAreRepaired := by
  unfold Obligations.RowsAndColumnsAreRepaired
  intro checked spared repaired starts listed s m noise env hwf
  have hspared (t : State) (m : Nat) (e : BitVec 64) (noise : List Nat) (env : ChanEnv) :
      spared t m e noise env = t.rowSpared m e noise env := rfl
  have hrepair (t : State) (m : Nat) (e : BitVec 64) (noise : List Nat) (env : ChanEnv) :
      t.repairRow m e noise env = repaired t m e noise env := t.repairRow_eq m e noise env
  have hstart (t : State) (m : Nat) (e : BitVec 64) : t.startMigration m e = starts t m e := rfl
  have hrow : exec (.rowRepair ⟨m, env⟩ noise) s = .next (s.rowRepair m noise env).settle := finish_wf hwf _
  have hcol (t : State) : exec (.migrationStep ⟨m, env⟩ noise) t = .next (t.migrationStep m noise env).settle := finish_wf hwf _
  refine ⟨?_, ?_, ?_, ?_, ?_, ?_, ?_⟩
  · intro e hrun he
    refine ⟨?_, ?_⟩
    · rw [hrow, State.rowRepair_runs noise env hrun he, hrepair]
    · intro hunwritten hslice hserves
      obtain ⟨hphys, hlist⟩ := s.rowSpared_unwritten m e noise env hunwritten hslice hserves
      rw [hspared]
      exact ⟨hphys, hlist⟩
  · intro k col sym w hrun hmigr hserves u h r t
    rw [hcol, State.migrationStep_runs noise env hrun hmigr, if_neg (by rw [hserves]; decide)]
    exact congrArg (fun t => Host.Outcome.next (State.settle t)) (u.migrate_eq m k col sym w noise env rfl)
  · intro k col sym w hrun hmigr hretired
    rw [hcol, State.migrationStep_runs noise env hrun hmigr, if_pos hretired]
  · intro e hrun hmigr he hevac
    rw [hcol, hcol, State.migrationStep_starts noise env hrun hmigr he hevac]
    rfl
  · intro h
    rw [hrow, State.rowRepair_idle noise env h]
  · intro h
    rw [hcol, State.migrationStep_idle noise env h]
  · intro by' arg key u v ch e bad woken fresh hobeys
    have hrun : u.runCmd by' key arg {} = u.repairCmd arg := State.runCmd_repair _ _ _ _
    have hrepair' : u.repair = s.repair := s.asks_repair by' key arg
    have hchan (k : Nat) : u.chan k = s.chan k := State.chan_congr (s.asks_chans by' key arg) k
    have hbad : u.Misplaced v ↔ bad := by
      simp only [State.Misplaced, State.retired, State.home, hchan, u, State.asks_variant]
      rfl
    have hspare : u.spareFor e = s.spareFor e := by simp only [State.spareFor, hchan]
    have hfresh : u.askedFor e = fresh := by
      have hch : rlChan e = ch := (asked_fields v).2.2.1
      have hwoken : u.listed e = woken := by
        rw [State.listed, hch, congrArg Repair.list hrepair']
      rw [State.askedFor, hwoken]
    refine ⟨fun h => ?_, fun h hnone => ?_, fun h hidle hroom hnew => ?_⟩
    · refine exec_command_refused (t := u) hobeys rfl rfl (hrun.trans ?_) rfl
      rw [State.repairCmd, State.repairRequest_misplaced rfl (hbad.mpr h)]
      rfl
    · refine exec_command_sync (t := u) hobeys rfl rfl (hrun.trans ?_)
      rw [State.repairCmd, State.repairRequest_spareless rfl (mt hbad.mp h) (hspare.trans hnone)]
      rfl
    · have hdone := State.repairRequest_listed rfl (mt hbad.mp h) (hspare.trans hidle) (hrepair' ▸ hroom) (hrepair' ▸ hnew)
      rw [show u.askedFor (asked v) = fresh from hfresh, hrepair, hstart] at hdone
      clear_value fresh starts repaired
      refine exec_command_sync hobeys rfl rfl (hrun.trans ?_)
      rw [State.repairCmd, hdone]
      rfl

end Sys2Proof.Machine
end

section
/-!
PROOFS. Slice0/Evaluator: the orderly stop and the trip (R328, R333), and what the evaluation of a sample leaves unchanged (R317–R322).
-/

namespace Sys2Proof.Machine

variable {s t : State}

/-! ### The orderly stop (R328) -/

namespace DataFrame

theorem withDict (h : DataFrame s t) (d : Dict) : DataFrame s { t with dict := d } := h.congr rfl rfl
theorem withBus (h : DataFrame s t) (b : Bus) : DataFrame s { t with bus := b } := h.congr rfl rfl
theorem withPower (h : DataFrame s t) (p : Power) : DataFrame s { t with power := p } := h.congr rfl rfl

theorem unstage (h : DataFrame s t) : DataFrame s t.unstage := (h.foldl _ (fun _ _ hv => hv.rset _ _)).withQe _

theorem answerWait (h : DataFrame s t) (m : Master) (key st : Nat) : DataFrame s (t.answerWait m key st) := by
  unfold State.answerWait State.busDone
  split
  · exact .ite ((h.modLink _ _).modLink _ _) h
  · refine .ite ?_ h
    split
    · exact h
    · exact .ite ((h.withBus _).withBus _) (h.withBus _)

theorem commitDone (h : DataFrame s t) (c : CommitRun) : DataFrame s (t.commitDone c) := by
  have hended : DataFrame s (State.commitRecord { t with dict := { t.dict with commit := none, commitTime := (t.now - c.since) / 2 } }
    0 0) := ((h.withDict _).withDict _).cmdEnd _ _
  unfold State.commitDone
  split
  · exact hended.answerWait _ _ _
  · exact hended

theorem unstageDown (h : DataFrame s t) : DataFrame s t.unstageDown := .ite h.unstage h

theorem swapTables (h : DataFrame s t) (c : CommitRun) (b : Block) (left : List Block) : DataFrame s (t.swapTables c b left) :=
  h.foldl _ (fun _ _ hv => hv.rset _ _)

theorem stackApplied (h : DataFrame s t) : DataFrame s (t.blockApplied .stack) := by
  unfold State.blockApplied
  split
  · exact h
  · next c _ =>
    have happlied (d : Dict) (left : List Block) (was : State) : DataFrame s
        ((State.afterSwap (State.swapTables { t with dict := d } c .stack left) was c .stack).unstageDown) :=
      ((h.withDict d).swapTables c .stack left).unstageDown
    exact .ite (.ite ((happlied _ _ _).commitDone _) (happlied _ _ _)) h

theorem holdProfile (h : DataFrame s t) : DataFrame s t.holdProfile := by
  unfold State.holdProfile
  split
  · exact .ite (h.withDict _).stackApplied h
  · exact .ite (h.withDict _) h

theorem idleLink (h : DataFrame s t) (n : Nat) : DataFrame s (t.idleLink n) := h.modLink n _
theorem idleQuietAll (h : DataFrame s t) : DataFrame s t.idleQuietAll := h.each _ (fun _ n hv => .ite (hv.idleLink n) hv)

end DataFrame

/-- A stop that begins. -/
theorem State.beginStop_begins (hstop : s.therm.stop = 0) (htrip : s.therm.trip = false) (hpower : s.power.st ≠ 4) :
    DataFrame { s with therm := { s.therm with stop := 1 } } s.beginStop := by
  rw [State.beginStop, if_neg (by simp [hstop, htrip, hpower])]
  exact ((DataFrame.refl _).report 50 0).holdProfile.stopPorts.forceAll.idleQuietAll

theorem State.beginStop_boot : s.beginStop.boot = s.boot := by
  unfold State.beginStop
  split
  · rfl
  · exact ((DataFrame.refl _).report 50 0).holdProfile.stopPorts.forceAll.idleQuietAll.boot

/-! ### The trip (R333) -/

namespace DataFrame

theorem setPower (h : DataFrame s t) (n : Nat) : DataFrame s (t.setPower n) := .ite h ((h.withPower _).count _ 1)

end DataFrame

theorem State.setPower_st (n : Nat) : (s.setPower n).power.st = n := by
  unfold State.setPower
  split
  · next h => exact h
  · rw [State.count_power]

theorem State.setPower_keeps (n : Nat) {k : Nat} (hk : k ≠ ekey 0x0300 0x17) :
    (s.setPower n).rget k = s.rget k ∧ (s.setPower n).layers = s.layers := by
  unfold State.setPower
  split
  · exact ⟨rfl, rfl⟩
  · exact ⟨State.count_rget_other _ _ _ _ hk, State.count_layers _ _ _⟩

/-- Every layer has lost its array supplies. -/
theorem State.layers_arrayOff (s : State) {k : Nat} (hk : k < 18) :
    ((s.each (List.range 18) (fun t k => t.modLayer k Layer.arrayOff)).layer k).supply = 0 ∧
      ((s.each (List.range 18) (fun t k => t.modLayer k Layer.arrayOff)).layer k).locked = false := by
  refine State.foldl_reaches (fun k t => (t.layer k).supply = 0 ∧ (t.layer k).locked = false) (fun t k => ?_) (fun t k l h => ?_) s _
    (List.mem_range.mpr hk)
  · rw [State.layer_modLayer, if_pos rfl]
    exact ⟨rfl, rfl⟩
  · rw [State.layer_modLayer]
    split
    · exact ⟨rfl, rfl⟩
    · exact h

/-- The stack without its links and its array supplies, as a trip leaves it. -/
def State.dark (s : State) (cause : Nat) : State :=
  ((((s.rset (ekey 0x0400 0x09) cause).rset (ekey 0x0400 0x0A) (i20 s.therm.tj)).each (linkNums s) State.idleLink).each
    (List.range 18) (fun t k => t.modLayer k Layer.arrayOff)).setPower 0

theorem State.tripNow_eq (cause : Nat) (h : s.therm.trip = false) : s.tripNow cause =
    State.report { s.dark cause with
      therm := { (s.dark cause).therm with trip := true, thermN := true, step := 0 }
      power := { (s.dark cause).power with target := 0, changing := false } } 51 := by
  rw [State.tripNow, h]
  rfl

theorem State.dark_frame (s : State) (cause : Nat) : DataFrame s (s.dark cause) :=
  ((((DataFrame.refl s).rset _ _).rset _ _ |>.each _ (fun _ n hv => hv.idleLink n)).each _ (fun _ k hv => hv.modLayer k _)).setPower 0

theorem State.tripNow_boot (cause : Nat) : (s.tripNow cause).boot = s.boot := by
  cases h : s.therm.trip
  · rw [State.tripNow_eq cause h, State.report_boot]
    exact (s.dark_frame cause).boot
  · rw [State.tripNow, h]
    rfl

/-- What a trip leaves: its mark, the pin and the cause, and the stack without power. -/
theorem State.tripNow_trips (cause : Nat) (h : s.therm.trip = false) :
    (s.tripNow cause).therm.trip = true ∧ (s.tripNow cause).therm.thermN = true ∧ (s.tripNow cause).therm.zone = s.therm.zone ∧
      (s.tripNow cause).power.st = 0 ∧ (s.tripNow cause).rget (ekey 0x0400 0x09) = cause ∧
      ∀ k, k < 18 → ((s.tripNow cause).layer k).supply = 0 ∧ ((s.tripNow cause).layer k).locked = false := by
  have hregs (t : State) (n k : Nat) : (t.report n).rget k = t.rget k := by rw [State.rget, State.report_regs, ← State.rget]
  have hlayers (t : State) (n k : Nat) : (t.report n).layer k = t.layer k := by rw [State.layer, State.report_layers, ← State.layer]
  rw [State.tripNow_eq cause h, State.report_therm, State.report_power, hregs]
  refine ⟨rfl, rfl, ?_, State.setPower_st 0, ?_, fun k hk => ?_⟩
  · show (s.dark cause).therm.zone = s.therm.zone
    rw [(s.dark_frame cause).therm]
  · show (s.dark cause).rget (ekey 0x0400 0x09) = cause
    rw [State.dark, (State.setPower_keeps 0 (by decide)).1]
    refine State.each_keeps (fun t => t.rget (ekey 0x0400 0x09) = cause) _ _ _ ?_ fun _ _ h => h
    refine State.each_keeps (fun t => t.rget (ekey 0x0400 0x09) = cause) _ _ _ ?_ fun _ _ h => h
    rw [State.rget_rset, if_neg (by decide), State.rget_rset, if_pos rfl]
  · rw [hlayers]
    show ((s.dark cause).layer k).supply = 0 ∧ ((s.dark cause).layer k).locked = false
    rw [State.dark, State.layer, (State.setPower_keeps (k := 0) 0 (by decide)).2]
    exact State.layers_arrayOff _ hk

/-! ### The evaluation of a sample (R317–R322) -/

/-- The evaluation of a sample changes the evaluator, and it reports. -/
structure SenseFrame (s t : State) : Prop where
  boot : t.boot = s.boot
  power : t.power = s.power
  regs : t.regs = s.regs

namespace SenseFrame

variable {e : Evaluated}

theorem refl (s : State) : SenseFrame s s := ⟨rfl, rfl, rfl⟩

theorem congr {u : State} (h : SenseFrame s t) (hb : u.boot = t.boot) (hp : u.power = t.power) (hr : u.regs = t.regs) :
    SenseFrame s u := ⟨hb.trans h.boot, hp.trans h.power, hr.trans h.regs⟩

theorem ite {c : Prop} [Decidable c] {u : State} (ht : SenseFrame s t) (hu : SenseFrame s u) : SenseFrame s (if c then t else u) := by
  split
  · exact ht
  · exact hu

theorem report (h : SenseFrame s t) (n i : Nat) : SenseFrame s (t.report n i) :=
  h.congr (t.report_boot n i) (t.report_power n i) (t.report_regs n i)

theorem withTherm (h : SenseFrame s t) (x : Therm) : SenseFrame s { t with therm := x } := h.congr rfl rfl rfl

theorem sample (h : SenseFrame s e.s) (g : Nat) (v : Int) : SenseFrame s (e.sample g v).s := h.congr rfl rfl rfl

theorem estimate (h : SenseFrame s e.s) (g : Nat) : SenseFrame s (e.estimate g).s := by
  unfold Evaluated.estimate
  split
  · exact h
  · extract_lets q v ticked bounded sampled
    have hticked : SenseFrame s ticked := .ite h (h.congr rfl rfl rfl)
    exact hticked.congr rfl rfl rfl

theorem cascade (fuel : Nat) (seen gs : List Nat) (h : SenseFrame s e.s) : SenseFrame s (Evaluated.cascade fuel seen gs e).s := by
  induction fuel generalizing seen gs e with
  | zero => exact h
  | succ fuel ih =>
    cases gs with
    | nil => exact h
    | cons g rest =>
      exact ih _ _ (List.foldlRecOn (motive := fun e : Evaluated => SenseFrame s e.s) _ _ h fun _ hv g _ => hv.estimate g)

theorem groupSample (h : SenseFrame s e.s) (g : Nat) : SenseFrame s (e.groupSample g).s := by
  unfold Evaluated.groupSample
  extract_lets t
  split
  · exact h
  · split
    · exact estimate (((h.withTherm _).congr rfl rfl rfl).report 48 0) g
    · split
      · exact h
      · exact h.sample g _

theorem evaluate (s : State) (i : Nat) (value : Option Int) : SenseFrame s (s.evaluate i value).s := by
  unfold State.evaluate
  extract_lets g v valid therm kept therm' alive judged hot e before sampled
  have halive : SenseFrame s alive := .ite (((refl s).withTherm _).withTherm _) ((refl s).withTherm _)
  have hjudged : SenseFrame s judged := .ite halive (.ite ((halive.withTherm _).report 48 0) halive)
  have hsampled : SenseFrame s sampled.s := groupSample hjudged g
  split
  · exact hsampled
  · exact cascade _ _ _ hsampled

end SenseFrame

/-! ### Sensing failure (R334) -/

theorem State.judgeSensing_boot : s.judgeSensing.boot = s.boot := by
  unfold State.judgeSensing
  extract_lets bad therm judged
  have hjudged : judged.boot = s.boot := State.setLevel_boot _ _ _
  split
  · rfl
  · split
    · exact State.beginStop_boot.trans hjudged
    · exact hjudged

theorem State.tryBoot_left (h : s.boot ≠ .held) : s.tryBoot = s := if_neg fun hheld => h hheld.1

end Sys2Proof.Machine
end

section
/-!
PROOFS. Slice0/Zones: the target zone, the change of zone at the close of a window, and RESUME (R325–R330).
-/

namespace Sys2Proof.Machine

variable {s : State}

/-! ### The target zone (R325) -/

/-- The windows of the groups that have closed. -/
def State.closedWindows (s : State) : List (List Int) :=
  ((List.range 20).map (fun g => (s.group g).window)).filter (fun w => decide (w ≠ []))

theorem State.targetZone_hot (hzone : s.therm.zone < 3)
    (h : ∃ w ∈ (List.range 20).map (fun g => (s.group g).window), w ≠ [] ∧ ∀ v ∈ w, celsius 100 ≤ v) : s.targetZone = 3 := by
  obtain ⟨w, hw, hne, hall⟩ := h
  have hup : (decide (s.therm.zone < 3) && (((List.range 20).map (fun g => (s.group g).window)).filter (fun w => decide (w ≠ []))).any
      (fun w => w.all (fun v => decide (zoneEntry 3 ≤ v)))) = true := by
    rw [Bool.and_eq_true, decide_eq_true_eq, List.any_eq_true]
    exact ⟨hzone, w, List.mem_filter.mpr ⟨hw, by simp [hne]⟩, List.all_eq_true.mpr fun v hv => decide_eq_true (hall v hv)⟩
  simp only [State.targetZone, List.find?_cons, hup, Option.getD_some]

theorem zoneEntry_warm {j : Nat} (hj : j ∈ [3, 2, 1]) : celsius 83 ≤ zoneEntry j - celsius 2 := by
  fin_cases hj <;> decide

theorem State.targetZone_cool (h : ∀ w ∈ (List.range 20).map (fun g => (s.group g).window), ∀ v ∈ w, v < celsius 83) :
    s.targetZone = 0 := by
  have hcool {w : List Int} (hw : w ∈ s.closedWindows) : w ≠ [] ∧ ∀ v ∈ w, v < celsius 83 := by
    obtain ⟨hmem, hne⟩ := List.mem_filter.mp hw
    exact ⟨of_decide_eq_true hne, h w hmem⟩
  have hup : [3, 2, 1].find? (fun j => decide (s.therm.zone < j) && s.closedWindows.any (fun w => w.all (fun v =>
      decide (zoneEntry j ≤ v)))) = none := by
    refine List.find?_eq_none.mpr fun j hj => ?_
    rw [Bool.and_eq_true, List.any_eq_true]
    rintro ⟨-, w, hw, hall⟩
    obtain ⟨hne, hlow⟩ := hcool hw
    obtain ⟨v, hv⟩ := List.exists_mem_of_ne_nil w hne
    have hreach : zoneEntry j ≤ v := of_decide_eq_true (List.all_eq_true.mp hall v hv)
    have hlow := hlow v hv
    have hwarm := zoneEntry_warm hj
    unfold celsius at *
    omega
  have hdown : [3, 2, 1].find? (fun j => decide (j ≤ s.therm.zone) && s.closedWindows.any (fun w => w.any (fun v =>
      decide (zoneEntry j - celsius 2 ≤ v)))) = none := by
    refine List.find?_eq_none.mpr fun j hj => ?_
    rw [Bool.and_eq_true, List.any_eq_true]
    rintro ⟨-, w, hw, hany⟩
    obtain ⟨v, hv, hreach⟩ := List.any_eq_true.mp hany
    exact absurd ((zoneEntry_warm hj).trans (of_decide_eq_true hreach)) (Int.not_le.mpr ((hcool hw).2 v hv))
  exact congrArg₂ (fun a b => Option.getD a (Option.getD b 0)) hup hdown

/-! ### A change of zone (R325, R328) -/

/-- The zone, its step and its marks are set, and the change is counted. -/
def State.zoneSet (s : State) (z : Nat) : State := { s with therm := { s.therm with
  zone := z, limit := true, held := false
  step := if z = 2 then (if s.therm.zone = 2 then s.therm.step else 1) else 0
  causeThermal := s.therm.causeThermal && decide (z ≠ 0) } }
def State.enterZone (s : State) (z : Nat) : State := ((s.zoneSet z).count (ekey 0x0400 0x06) 1).report 49

theorem State.changeZone_lower {z : Nat} (us : Nat) (h : z ≠ 3) : s.changeZone z us = s.enterZone z := if_neg h

theorem State.enterZone_therm (z : Nat) : (s.enterZone z).therm = { s.therm with
    zone := z, limit := true, held := false
    step := if z = 2 then (if s.therm.zone = 2 then s.therm.step else 1) else 0
    causeThermal := s.therm.causeThermal && decide (z ≠ 0) } := by
  rw [State.enterZone, State.report_therm, State.count_therm, State.zoneSet]

theorem State.enterZone_power (z : Nat) : (s.enterZone z).power = s.power := by
  rw [State.enterZone, State.report_power, State.count_power, State.zoneSet]
theorem State.enterZone_boot (z : Nat) : (s.enterZone z).boot = s.boot := by
  rw [State.enterZone, State.report_boot, State.count_boot, State.zoneSet]

theorem State.enterZone_rget (z : Nat) {k : Nat} (hk : k ≠ ekey 0x0400 0x06) : (s.enterZone z).rget k = s.rget k := by
  rw [State.enterZone, State.rget, State.report_regs, ← State.rget, State.count_rget_other _ _ _ _ hk]
  rfl

theorem State.enterZone_counts (z : Nat) (h : s.rget (ekey 0x0400 0x06) + 1 < 2 ^ 32) :
    (s.enterZone z).rget (ekey 0x0400 0x06) = s.rget (ekey 0x0400 0x06) + 1 := by
  have hset : (s.zoneSet z).rget (ekey 0x0400 0x06) + 1 < 2 ^ 32 := h
  rw [State.enterZone, State.rget, State.report_regs, ← State.rget]
  exact (congrArg (fun t : State => t.rget _) (State.count_u32 _ _ 1 (by decide) hset)).trans ((State.rget_rset ..).trans (if_pos rfl))

/-- The projection after the change is the one before it. -/
theorem State.project_congr {t : State} (hgroups : t.therm.groups = s.therm.groups) (hfrom : t.therm.tjFrom = s.therm.tjFrom)
    (htj : t.therm.tj = s.therm.tj) (us : Nat) : t.project us = s.project us := by
  unfold State.project State.group
  rw [hgroups, hfrom, htj]

theorem State.wholeUs_keeps (s : State) (q : Nat × Nat) :
    (s.wholeUs q).2.therm = s.therm ∧ (s.wholeUs q).2.boot = s.boot := by
  unfold State.wholeUs
  split <;> exact ⟨rfl, rfl⟩

section
variable {us : Nat} (htrip : s.therm.trip = false)
include htrip

/-- Entry into Z3 with an infinite projection begins a stop. -/
theorem State.changeZone_stops (hpower : s.power.st ≠ 4) (hstop : s.therm.stop = 0) (hproject : s.project us = none) :
    (s.changeZone 3 us).therm.zone = 3 ∧ (s.changeZone 3 us).therm.causeThermal = true ∧
      (s.changeZone 3 us).therm.projection = 0xFFFFFFFF ∧ (s.changeZone 3 us).therm.stop = 1 ∧
      (s.changeZone 3 us).boot = s.boot := by
  have htherm := s.enterZone_therm 3
  have hnone : (s.enterZone 3).project us = none :=
    (State.project_congr (by rw [htherm]) (by rw [htherm]) (by rw [htherm]) us).trans hproject
  obtain ⟨v, hv⟩ : ∃ v : State, v = { s.enterZone 3 with therm := { (s.enterZone 3).therm with
    projection := 0xFFFFFFFF, causeThermal := true } } := ⟨_, rfl⟩
  have hstops : s.changeZone 3 us = v.beginStop := by
    rw [hv]
    unfold State.changeZone
    rw [if_pos rfl, ← State.zoneSet, ← State.enterZone, hnone]
    rfl
  have hframe := State.beginStop_begins (s := v) (by rw [hv, htherm]; exact hstop) (by rw [hv, htherm]; exact htrip)
    (by rw [hv, State.enterZone_power]; exact hpower)
  rw [hstops, hframe.therm, State.beginStop_boot, hv, htherm]
  exact ⟨rfl, rfl, rfl, rfl, s.enterZone_boot 3⟩

/-- Entry into Z3 with a projection of 400 µs at most trips. -/
theorem State.changeZone_trips {q : Nat × Nat} (hproject : s.project us = some q) (hsoon : q.1 ≤ 400 * q.2) :
    (s.changeZone 3 us).therm.zone = 3 ∧ (s.changeZone 3 us).therm.trip = true ∧ (s.changeZone 3 us).boot = s.boot := by
  have htherm := s.enterZone_therm 3
  have hsome : (s.enterZone 3).project us = some q :=
    (State.project_congr (by rw [htherm]) (by rw [htherm]) (by rw [htherm]) us).trans hproject
  have htrips : ∃ v : State, v.boot = s.boot ∧ v.therm.zone = 3 ∧ v.therm.trip = false ∧ s.changeZone 3 us = v.tripNow 2 := by
    unfold State.changeZone
    rw [if_pos rfl, ← State.zoneSet, ← State.enterZone, hsome]
    dsimp only
    obtain ⟨hround, hboot⟩ := (s.enterZone 3).wholeUs_keeps q
    generalize (s.enterZone 3).wholeUs q = r at hround hboot
    obtain ⟨n, w⟩ := r
    refine ⟨{ w with therm := { w.therm with projection := Nat.min n 0xFFFFFFFF } }, hboot.trans (s.enterZone_boot 3), ?_, ?_,
      if_pos ?_⟩
    · show w.therm.zone = 3
      rw [hround, htherm]
    · show w.therm.trip = false
      rw [hround, htherm]
      exact htrip
    · rw [Option.any_some, decide_eq_true_eq]
      exact hsoon
  obtain ⟨v, hboot, hzone, htrip', htrips⟩ := htrips
  obtain ⟨hmark, -, hkept, -⟩ := State.tripNow_trips 2 htrip'
  rw [htrips, State.tripNow_boot]
  exact ⟨hkept.trans hzone, hmark, hboot⟩

end

/-! ### The close of a window (R325) -/

/-- The zone takes its target, or the change is held. -/
def State.zoned (s : State) (us : Nat) : State :=
  if s.targetZone = s.therm.zone then { s with therm := { s.therm with held := false } }
  else if s.therm.limit then
    if s.therm.held then s else (State.count { s with therm := { s.therm with held := true } } (ekey 0x0400 0x07) 1)
  else s.changeZone s.targetZone us

/-- Without AUTO_RESUME, or in a zone above Z0, nothing resumes. -/
theorem State.windowClose_eq (us : Nat) (htrip : s.therm.trip = false)
    (h : (s.zoned us).rget (ekey 0x0400 0x11) = 0 ∨ (s.zoned us).therm.zone ≠ 0) : s.windowClose us = s.zoned us := by
  have hnot : ((s.zoned us).flag (ekey 0x0400 0x11) && decide ((s.zoned us).therm.stop = 2) && (s.zoned us).mayResume) = false := by
    rcases h with hauto | hzone
    · simp [State.flag, hauto]
    · simp [State.mayResume, hzone]
  rw [State.windowClose, if_neg (by simp [htrip])]
  exact if_neg (by rw [Bool.not_eq_true]; exact hnot)

/-! ### RESUME (R330) -/

/-- Every cause is clear, and the zone is Z0. -/
def State.Resumes (s : State) : Prop := s.therm.causeSense = false ∧ s.therm.causePower = false ∧ s.therm.causeThermal = false ∧
  s.therm.zone = 0 ∧ s.therm.trip = false

theorem State.mayResume_iff : s.mayResume = true ↔ s.Resumes := by
  simp [State.mayResume, State.Resumes, and_assoc]

theorem State.resumeOp_refused (h : ¬ s.Resumes ∨ s.therm.stop = 1) : s.resumeOp = (0x0109, s) := by
  rw [State.resumeOp, if_pos]
  exact h.imp_left fun h => by rw [Bool.not_eq_true', ← Bool.not_eq_true]; exact mt State.mayResume_iff.mp h

theorem State.resumeOp_free (hmay : s.Resumes) (hstop : s.therm.stop ≠ 1) :
    s.resumeOp = if s.therm.stop = 2 then (0, s.resumeNow) else (0, s) := by
  rw [State.resumeOp, if_neg]
  rintro (h | h)
  · rw [State.mayResume_iff.mpr hmay] at h
    cases h
  · exact hstop h

theorem State.unforce_keeps (m : Nat) : (s.unforce m).dict = s.dict ∧ (s.unforce m).therm = s.therm := by
  unfold State.unforce
  extract_lets t c
  split_ifs <;> simp [State.srx, t]

theorem State.releaseLink_dict (n : Nat) : (s.releaseLink n).dict = s.dict := by
  unfold State.releaseLink
  extract_lets t
  split_ifs <;> rfl

/-- A stop is over. -/
def State.stopOver (s : State) : State := { s with therm := { s.therm with stop := 0, thermN := false } }

/-- In P0 outside test hold, the end of a stop releases the channels and the links. -/
theorem State.resumeNow_eq (hpower : s.power.st = 0) (hheld : s.therm.testHeld = false) (hwait : s.dict.profileWait = false) :
    s.resumeNow = (s.each (chanNums s) State.unforce).stopOver.each (linkNums (s.each (chanNums s) State.unforce))
      State.releaseLink := by
  obtain ⟨v, hv⟩ : ∃ v, v = s.each (chanNums s) State.unforce := ⟨_, rfl⟩
  obtain ⟨w, hw⟩ : ∃ w, w = v.stopOver.each (linkNums v) State.releaseLink := ⟨_, rfl⟩
  obtain ⟨hdict, htherm⟩ : v.dict = s.dict ∧ v.therm = s.therm :=
    hv ▸ s.each_keeps (fun t => t.dict = s.dict ∧ t.therm = s.therm) _ _ ⟨rfl, rfl⟩ fun _ _ h =>
      ⟨(State.unforce_keeps _).1.trans h.1, (State.unforce_keeps _).2.trans h.2⟩
  have hkept : w.dict = s.dict :=
    hw ▸ State.each_keeps (fun t => t.dict = s.dict) _ _ _ hdict fun _ _ h => (State.releaseLink_dict _).trans h
  have hbegin : (if s.power.st ≤ 1 ∧ (!s.therm.testHeld) = true then s.each (chanNums s) State.unforce else s) = v := by
    rw [hv, hpower, hheld]
    rfl
  rw [← hv, ← hw]
  unfold State.resumeNow
  simp only [hbegin]
  rw [if_pos ⟨hpower, by rw [htherm, hheld]; rfl⟩]
  have hno : w.dict.profileWait = false := by rw [hkept, hwait]
  rw [hw] at hno
  exact (if_neg fun hyes => absurd (hno.symm.trans hyes) (by decide)).trans hw.symm

/-! ### SENSOR_SAMPLE below the comparator (R317, R325) -/

section
variable {i us : Nat} {value : Option Int} {t : State} (hwf : (Instr.sensorSample i value us).wf = true) (hpower : s.power.st ≠ 4)
  (hreset : s.inReset 4 0 = false) (hboot : s.boot ≠ .held) (hhot : (s.evaluate i value).hot = false)
include hwf hpower hreset hboot hhot

theorem exec_sensorSample (ht : (if (s.evaluate i value).closed = true then (s.evaluate i value).s.windowClose us
    else (s.evaluate i value).s) = t) (htboot : t.boot = s.boot) :
    exec (.sensorSample i value us) s = .next t.judgeSensing.settle := by
  have hleft : t.boot ≠ .held := htboot ▸ hboot
  have hsample : s.sensorSample i value us = t.judgeSensing := by
    unfold State.sensorSample
    rw [if_neg hpower, if_neg (by simp [State.senses, hpower, hreset])]
    simp only [hhot, (SenseFrame.evaluate s i value).boot, hboot, ne_eq, not_false_eq_true, decide_true, Bool.and_true,
      Bool.false_eq_true, if_false, ht, if_neg hleft]
  have hexec : exec (.sensorSample i value us) s = .next ((s.sensorSample i value us).tryBoot).settle := finish_wf hwf _
  rw [hexec, hsample, State.tryBoot_left (by rw [State.judgeSensing_boot]; exact hleft)]

/-- A window that closes, without AUTO_RESUME or in a zone above Z0. -/
theorem exec_sensorSample_closed (hclosed : (s.evaluate i value).closed = true) (htrip : (s.evaluate i value).s.therm.trip = false)
    (hzoned : (s.evaluate i value).s.zoned us = t) (hauto : t.rget (ekey 0x0400 0x11) = 0 ∨ t.therm.zone ≠ 0)
    (htboot : t.boot = (s.evaluate i value).s.boot) : exec (.sensorSample i value us) s = .next t.judgeSensing.settle :=
  exec_sensorSample hwf hpower hreset hboot hhot
    (by rw [if_pos hclosed, State.windowClose_eq us htrip (by rw [hzoned]; exact hauto), hzoned])
    (htboot.trans (SenseFrame.evaluate s i value).boot)

end

theorem State.runCmd_resume (s : State) (by' : Master) (arg : List Byte) (env : AccEnv) :
    s.runCmd by' (ekey 0x0400 0x10) arg env = atOnce s.resumeOp := by
  simp [State.runCmd, ekey, kCommit, kDiscard, kPower]

/-- Settles O50: a window that closes takes or holds its zone, and nothing resumes at its close without AUTO_RESUME or above Z0. -/
theorem zonesStopTheStackAndResume : Obligations.ZonesStopTheStackAndResume := by
  intro s auto windows
  refine ⟨fun hzone h => State.targetZone_hot hzone h, State.targetZone_cool, finish_wf rfl _, ?_, ?_, ?_, ?_, ?_, ?_, ?_, ?_, ?_⟩
  · intro i value us hwf hpower hreset hboot e u gives hhot htrip
    have hframe := SenseFrame.evaluate s i value
    have hrget : u.rget (ekey 0x0400 0x11) = auto := congrArg (fun r => mget _ r _) hframe.regs
    have hcloses {t : State} (hclosed : e.closed = true) (hzoned : u.zoned us = t)
        (hauto : t.rget (ekey 0x0400 0x11) = 0 ∨ t.therm.zone ≠ 0) (htboot : t.boot = u.boot) : gives t :=
      exec_sensorSample_closed hwf hpower hreset hboot hhot hclosed htrip hzoned hauto htboot
    refine ⟨fun hopen => ?_, fun hclosed hauto => ⟨fun hsame => ?_, fun hother hlimit hheld => ?_, fun hother hlimit hheld => ?_,
      ?_, ?_⟩⟩
    · exact exec_sensorSample hwf hpower hreset hboot hhot (if_neg (by rw [Bool.not_eq_true]; exact hopen)) hframe.boot
    · exact hcloses hclosed (if_pos hsame) (.inl (hrget.trans hauto)) rfl
    · exact hcloses hclosed (by rw [State.zoned, if_neg hother, if_pos hlimit, if_pos hheld]) (.inl (hrget.trans hauto)) rfl
    · refine hcloses hclosed (by rw [State.zoned, if_neg hother, if_pos hlimit, if_neg (by simp [hheld])]) (.inl ?_)
        (State.count_boot _ _ _)
      rw [State.count_rget_other _ _ _ _ (by decide)]
      exact hrget.trans hauto
    · intro z hz hother hlimit hlow hcount
      have htherm := u.enterZone_therm z
      refine ⟨u.enterZone z, hcloses hclosed ?_ (.inl ?_) (u.enterZone_boot z), ?_, u.enterZone_counts z hcount⟩
      · rw [State.zoned, hz, if_neg hother, if_neg (by simp [hlimit]), State.changeZone_lower us hlow]
      · rw [State.enterZone_rget z (by decide)]
        exact hrget.trans hauto
      · rw [htherm]
        by_cases h2 : z = 2
        · rw [if_pos h2, if_pos h2, if_neg (h2 ▸ hother).symm]
        · rw [if_neg h2, if_neg h2]
    · intro w rise hz hzone hlimit hstop
      have hzoned : u.zoned us = u.changeZone 3 us := by
        rw [State.zoned, hz, if_neg (by omega), if_neg (by simp [hlimit])]
      have hpower' : u.power.st ≠ 4 := by rw [hframe.power]; exact hpower
      refine ⟨fun hflat => ?_, fun hrises hsoon => ?_⟩
      · obtain ⟨hend, hcause, hprojection, hstops, hboot'⟩ :=
          State.changeZone_stops (us := us) htrip hpower' hstop (if_pos hflat : u.project us = none)
        exact ⟨_, hcloses hclosed hzoned (.inr (by rw [hend]; decide)) hboot', hend, hcause, hprojection, hstops⟩
      · have hprojected : ((celsius 108 - u.therm.tj) * us).toNat ≤ 400 * rise.toNat := by
          rw [Int.toNat_le, Nat.cast_mul, Int.toNat_of_nonneg hrises.le]
          exact hsoon
        obtain ⟨hend, htrips, hboot'⟩ := State.changeZone_trips (us := us) htrip
          (if_neg (Int.not_le.mpr hrises) : u.project us = some (((celsius 108 - u.therm.tj) * us).toNat, rise.toNat))
          hprojected
        exact ⟨_, hcloses hclosed hzoned (.inr (by rw [hend]; decide)) hboot', hend, htrips⟩
  · intro hreset hzone htrip
    refine (finish_wf rfl _).trans ?_
    rw [State.z2Step, if_neg (by simp [hzone, htrip, hreset])]
  · intro hzone
    refine (finish_wf rfl _).trans ?_
    rw [State.z2Step, if_pos (.inl hzone)]
  · intro t hstop htrip
    refine ⟨(finish_wf rfl _).trans ?_, (finish_wf rfl _).trans ?_⟩
    · rw [State.stopComplete, if_neg (by simp [hstop, htrip])]
    · rw [State.stopTimeout, if_pos hstop]
  · intro hstop
    refine ⟨(finish_wf rfl _).trans ?_, (finish_wf rfl _).trans ?_⟩
    · rw [State.stopComplete, if_pos (.inl hstop)]
    · rw [State.stopTimeout, if_neg hstop]
  · intro by' arg k u may hobeys
    have hrun : u.runCmd by' k arg {} = atOnce u.resumeOp := State.runCmd_resume _ _ _ _
    have htherm : u.therm = s.therm := s.asks_therm by' k arg
    have hmay : u.Resumes ↔ may := by rw [State.Resumes, htherm]
    refine ⟨fun h => ?_, fun hyes hstop => ?_, fun hyes hstop hpower hheld hwait => ?_⟩
    · refine exec_command_refused (t := u) hobeys rfl rfl (hrun.trans ?_) rfl
      rw [State.resumeOp_refused (h.imp (mt hmay.mp) (htherm ▸ ·))]
      rfl
    · refine exec_command_sync (t := u) hobeys rfl rfl (hrun.trans ?_)
      rw [State.resumeOp_free (hmay.mpr hyes) (by rw [htherm]; exact fun h => hstop (by simp [h])), htherm,
        if_neg fun h => hstop (by simp [h])]
      rfl
    · have hchans : chanNums s = chanNums u := by rw [chanNums, chanNums, State.asks_variant]
      intro v
      refine exec_command_sync hobeys rfl rfl (hrun.trans ?_)
      rw [State.resumeOp_free (hmay.mpr hyes) (by rw [htherm, hstop]; decide), htherm, if_pos hstop,
        State.resumeNow_eq ((congrArg Power.st (s.asks_power by' k arg)).trans hpower) (by rw [htherm]; exact hheld) ?_, ← hchans]
      · rfl
      · rw [State.asks_dict]
        exact hwait
  · intro hboot hpower
    refine (finish_wf rfl _).trans (congrArg (fun t => Host.Outcome.next (State.settle t)) (if_neg ?_))
    rintro (h | h)
    exacts [hboot h, hpower h]
  · intro h
    exact (finish_wf rfl _).trans (congrArg (fun t => Host.Outcome.next (State.settle t)) (if_pos h))
  · refine ⟨s.pwrwarnOff, finish_wf rfl _, ?_⟩
    unfold State.pwrwarnOff
    extract_lets therm power ended
    split
    · rw [State.setLevel_levels, getLsbD_vset _ (by decide), if_pos rfl, State.setLevel_power, State.setLevel_therm]
      exact ⟨rfl, rfl, rfl⟩
    · next h => exact ⟨Bool.not_eq_true _ |>.mp h, rfl, rfl⟩

end Sys2Proof.Machine
end

section
/-!
PROOFS. Slice0/Sensors: a sample of a group and TJ (R319, R322), the tiers of a converter (R317), sensing failure, GROUP_CLEAR and the
board inputs (R321, R334, R339).
-/

namespace Sys2Proof.Machine

variable {s : State}

/-! ### Highest values -/

/-- The highest of some readings is one of them. -/
theorem foldl_max_spec (r : Int) (rs : List Int) : rs.foldl max r ∈ r :: rs ∧ ∀ x ∈ r :: rs, x ≤ rs.foldl max r := by
  induction rs generalizing r with
  | nil => simp
  | cons y ys ih =>
    obtain ⟨hmem, hle⟩ := ih (max r y)
    obtain ⟨hmax, htail⟩ := List.forall_mem_cons.mp hle
    refine ⟨?_, ?_⟩
    · rcases List.mem_cons.mp hmem with h | h
      · rcases max_choice r y with hr | hy
        · exact List.mem_cons.mpr (.inl (h.trans hr))
        · exact List.mem_cons_of_mem _ (List.mem_cons.mpr (.inl (h.trans hy)))
      · exact List.mem_cons_of_mem _ (List.mem_cons_of_mem _ h)
    · exact List.forall_mem_cons.mpr ⟨(le_max_left r y).trans hmax, List.forall_mem_cons.mpr ⟨(le_max_right r y).trans hmax, htail⟩⟩

/-- One group more in the search for the highest value. -/
def State.higher (s : State) (b : Int × Nat) (g : Nat) : Int × Nat := if b.1 < (s.group g).value then ((s.group g).value, g) else b

theorem State.foldl_higher (s : State) (gs : List Nat) (b : Int × Nat) :
    (b.1 ≤ (gs.foldl s.higher b).1 ∧ ∀ g ∈ gs, (s.group g).value ≤ (gs.foldl s.higher b).1) ∧
      (gs.foldl s.higher b = b ∨ (gs.foldl s.higher b).1 = (s.group (gs.foldl s.higher b).2).value) := by
  induction gs generalizing b with
  | nil => simp
  | cons g r ih =>
    obtain ⟨⟨hstart, hall⟩, hend⟩ := ih (s.higher b g)
    have hstep : b.1 ≤ (s.higher b g).1 ∧ (s.group g).value ≤ (s.higher b g).1 ∧
        (s.higher b g = b ∨ (s.higher b g).1 = (s.group (s.higher b g).2).value) := by
      unfold State.higher
      split
      · next h => exact ⟨h.le, le_refl _, .inr rfl⟩
      · next h => exact ⟨le_refl _, Int.not_lt.mp h, .inl rfl⟩
    obtain ⟨hkept, hreached, horigin⟩ := hstep
    refine ⟨⟨hkept.trans hstart, List.forall_mem_cons.mpr ⟨hreached.trans hstart, hall⟩⟩, ?_⟩
    rcases hend with h | h
    · rw [List.foldl_cons, h]
      exact horigin
    · exact .inr h

/-- TJ is at least every group value, and where a group has a value it is that of its group. -/
theorem State.highest_spec (s : State) (gs : List Nat) : (∀ g ∈ gs, (s.group g).value ≤ (s.highest gs).1) ∧
    ((∃ g ∈ gs, noSample < (s.group g).value) → (s.highest gs).1 = (s.group (s.highest gs).2).value) := by
  obtain ⟨⟨-, hall⟩, hend⟩ := s.foldl_higher gs (noSample, 0)
  refine ⟨hall, fun ⟨g, hg, hvalue⟩ => hend.resolve_left fun h => ?_⟩
  have hle := hall g hg
  rw [h] at hle
  exact absurd hvalue (Int.not_lt.mpr hle)

/-- TJ after an update: every group value is at most TJ, which is the value of its group where a group has one. -/
theorem State.updateTj_spec (s : State) : (∀ g, g < 20 → (s.updateTj.group g).value ≤ s.updateTj.therm.tj) ∧
    ((∃ g, g < 20 ∧ noSample < (s.updateTj.group g).value) →
      s.updateTj.therm.tj = (s.updateTj.group s.updateTj.therm.tjFrom).value) := by
  have hgroup (g : Nat) : s.updateTj.group g = s.group g := rfl
  have htj : s.updateTj.therm.tj = (s.highest (List.range 20)).1 := rfl
  have hfrom : s.updateTj.therm.tjFrom = (s.highest (List.range 20)).2 := rfl
  obtain ⟨hall, hend⟩ := s.highest_spec (List.range 20)
  simp only [hgroup, htj, hfrom]
  exact ⟨fun g hg => hall g (List.mem_range.mpr hg), fun ⟨g, hg, hvalue⟩ => hend ⟨g, List.mem_range.mpr hg, hvalue⟩⟩

/-! ### One sample of a group (R319, R324) -/

theorem State.group_setGroup (s : State) (g : Nat) (x : Group) (k : Nat) :
    (s.setGroup g x).group k = if k = g then x else s.group k := mget_mset _ _ _ _ _

/-- A group takes a value between two closes of its windows. -/
def State.groupTakes (s : State) (g : Nat) (v : Int) : State :=
  (s.setGroup g { s.group g with value := v, count := (s.group g).count + 1, recent := (v :: (s.group g).recent).take 4 }).updateTj

theorem Evaluated.sample_open (e : Evaluated) (g : Nat) (v : Int) (h : (e.s.group g).count < 3 ∨ (e.s.group g).count % 3 ≠ 0) :
    e.sample g v = { e with s := e.s.groupTakes g v } := by
  have hopen : (decide (3 ≤ (e.s.group g).count) && decide ((e.s.group g).count % 3 = 0)) = false := by
    rw [Bool.and_eq_false_iff, decide_eq_false_iff_not, decide_eq_false_iff_not]
    omega
  simp only [Evaluated.sample, hopen, Bool.or_false, Bool.false_eq_true, if_false]
  rfl

/-- The latest sample of a sensor. -/
def State.keeps (s : State) (i : Nat) (v : Int) : State := { s with therm := { s.therm with sample := mset noSample s.therm.sample i v } }

section
variable {i : Nat} {v : Int} (hv : noSample < v) (hbad : s.therm.diodeBad.getLsbD i = false)
include hv hbad

theorem State.mem_readings : v ∈ (s.keeps i v).readings (s.trusted (i / 4)) := by
  refine List.mem_filter.mpr ⟨List.mem_map.mpr ⟨i, List.mem_filter.mpr ⟨?_, by rw [hbad]; rfl⟩, mget_mset_same _ _ _ _⟩,
    decide_eq_true (ne_of_gt hv)⟩
  simp only [List.mem_cons, List.not_mem_nil, or_false]
  omega

/-- A sample that no check fails is the group's highest trusted reading, or below it. -/
theorem State.evaluate_kept (hgroups : s.therm.groupBad = 0) (hconv : s.therm.convBad = 0) (hlow : v < celsius 108)
    (htrusted : 2 ≤ (s.trusted (i / 4)).length) (hstray : (s.keeps i v).sampleStrays i v = false)
    (hneighbour : (s.keeps i v).neighbourFails (i / 4) = false)
    (hopen : (s.group (i / 4)).count < 3 ∨ (s.group (i / 4)).count % 3 ≠ 0) :
    ∃ r ∈ (s.keeps i v).readings (s.trusted (i / 4)), (∀ x ∈ (s.keeps i v).readings (s.trusted (i / 4)), x ≤ r) ∧
      s.evaluate i (some v) = { s := (s.keeps i v).groupTakes (i / 4) r, closed := false, hot := false } := by
  have hmem := State.mem_readings hv hbad
  have hvalid : decide (v ≠ noSample) = true := decide_eq_true (ne_of_gt hv)
  have hheard : ({ s.keeps i v with therm := { (s.keeps i v).therm with
      convBad := nset (s.keeps i v).therm.convBad (converterOf (i / 4)) false } } : State) = s.keeps i v := by
    have hnone : nset (s.keeps i v).therm.convBad (converterOf (i / 4)) false = (s.keeps i v).therm.convBad := by
      show nset s.therm.convBad _ _ = s.therm.convBad
      simp [nset, hconv]
    rw [hnone]
  have htrust (g : Nat) : (s.keeps i v).therm.groupBad.getLsbD g = false := by
    show s.therm.groupBad.getLsbD g = false
    rw [hgroups]
    exact BitVec.getLsbD_zero
  have htaken : ¬ (((s.keeps i v).trusted (i / 4)).length < 2 ∨ (s.keeps i v).neighbourFails (i / 4) = true) := by
    rw [hneighbour]
    exact fun h => h.elim (Nat.not_lt.mpr htrusted) (by decide)
  cases hreadings : (s.keeps i v).readings (s.trusted (i / 4)) with
  | nil => rw [hreadings] at hmem; cases hmem
  | cons r rs =>
    obtain ⟨hmax, hle⟩ := foldl_max_spec r rs
    refine ⟨rs.foldl max r, hmax, hle, ?_⟩
    have hsampled : ({ s := s.keeps i v, hot := false } : Evaluated).groupSample (i / 4) =
        { s := (s.keeps i v).groupTakes (i / 4) (rs.foldl max r), closed := false, hot := false } := by
      unfold Evaluated.groupSample
      rw [if_neg (by rw [htrust]; decide), if_neg htaken]
      rw [show (s.keeps i v).trusted (i / 4) = s.trusted (i / 4) from rfl, hreadings]
      exact Evaluated.sample_open _ _ _ hopen
    have hnext : ((List.range 20).filter (fun k => ((s.keeps i v).groupTakes (i / 4) (rs.foldl max r)).therm.groupBad.getLsbD k &&
        !([i / 4] : List Nat).contains k && ((s.keeps i v).groupTakes (i / 4) (rs.foldl max r)).follows k (i / 4))) = [] :=
      List.filter_eq_nil_iff.mpr fun k _ => by
        rw [show ((s.keeps i v).groupTakes (i / 4) (rs.foldl max r)).therm.groupBad.getLsbD k = false from htrust k]
        simp
    unfold State.evaluate
    extract_lets g v' valid therm kept therm' alive judged hot e before sampled
    have halive : alive = s.keeps i v := (if_pos hvalid).trans hheard
    have hjudged : judged = s.keeps i v := by
      unfold judged
      rw [halive, if_neg (by rw [Bool.not_eq_true]; exact hbad)]
      exact if_neg (by rw [show valid = true from hvalid, show (s.keeps i v).sampleStrays i v' = false from hstray]; decide)
    have hhot : hot = false := by
      unfold hot
      rw [Bool.and_eq_false_iff]
      exact .inr (decide_eq_false (Int.not_le.mpr hlow))
    have hend : sampled = { s := (s.keeps i v).groupTakes (i / 4) (rs.foldl max r), closed := false, hot := false } := by
      unfold sampled e
      rw [hjudged, hhot]
      exact hsampled
    rw [if_neg (by unfold before e; rw [hjudged, htrust]; decide), hend]
    simp only [Evaluated.cascade]
    rw [hnext]
    rfl

end

/-! ### The tiers of a converter (R317) -/

theorem foldl_min_mem (r : List Nat) (c : Nat) : r.foldl Nat.min c ∈ c :: r := by
  induction r generalizing c with
  | nil => simp
  | cons y ys ih =>
    rcases List.mem_cons.mp (ih (Nat.min c y)) with h | h
    · rw [List.foldl_cons, h]
      rcases Nat.le_total c y with hle | hle
      · simp [Nat.min_eq_left hle]
      · simp [Nat.min_eq_right hle]
    · exact List.mem_cons_of_mem _ (List.mem_cons_of_mem _ h)

/-- The winner of a tie is a contender. -/
theorem tieBreak_mem {p g : Nat} {cs : List Nat} (h : tieBreak p cs = some g) : g ∈ cs := by
  unfold tieBreak at h
  split at h
  · next c r hcs => exact List.mem_of_mem_filter (hcs ▸ (Option.some.inj h ▸ foldl_min_mem r c))
  · split at h
    · exact Option.some.inj h ▸ foldl_min_mem _ _
    · cases h

/-- The groups that are served are groups of the list, and no more than asked for. -/
theorem State.serve_spec (s : State) (n p : Nat) (gs : List Nat) : (s.serve n p gs).1.length ≤ n ∧ ∀ g ∈ (s.serve n p gs).1, g ∈ gs := by
  induction n generalizing p gs with
  | zero => exact ⟨le_refl _, fun _ h => nomatch h⟩
  | succ n ih =>
    unfold State.serve
    extract_lets top
    split
    · exact ⟨Nat.zero_le _, fun _ h => nomatch h⟩
    · next g hg =>
      obtain ⟨hlen, hmem⟩ := ih ((g + 1) % 20) (gs.filter (fun x => decide (x ≠ g)))
      split
      next r q hr =>
        rw [hr] at hlen hmem
        exact ⟨Nat.succ_le_succ hlen, List.forall_mem_cons.mpr
          ⟨List.mem_of_mem_filter (tieBreak_mem hg), fun x hx => List.mem_of_mem_filter (hmem x hx)⟩⟩

/-- The tier of a group, from the groups that are served the fastest tier and the next. -/
def servedTier (f m : List Nat) (g : Nat) : Nat := if f.contains g then 2 else if m.contains g then 1 else 0

/-- The groups of a list take their tiers. -/
def State.tiered (s : State) (tier : Nat → Nat) (gs : List Nat) : State :=
  gs.foldl (fun t g => t.setGroup g { t.group g with tier := tier g }) s

theorem State.tiered_group (s : State) (tier : Nat → Nat) (gs : List Nat) (k : Nat) :
    (s.tiered tier gs).group k = if k ∈ gs then { s.group k with tier := tier k } else s.group k := by
  induction gs generalizing s with
  | nil => rfl
  | cons g r ih =>
    have hstep := ih (s.setGroup g { s.group g with tier := tier g })
    rw [State.group_setGroup] at hstep
    refine hstep.trans ?_
    by_cases hk : k = g
    · subst hk
      simp
    · simp [hk]

theorem State.tiered_acts (s : State) (tier : Nat → Nat) (gs : List Nat) :
    (s.tiered tier gs).therm.acts = s.therm.acts ∧ (s.tiered tier gs).therm.actNow = s.therm.actNow :=
  List.foldlRecOn (motive := fun t : State => t.therm.acts = s.therm.acts ∧ t.therm.actNow = s.therm.actNow) gs _ ⟨rfl, rfl⟩
    fun _ h _ _ => h

/-- Converter A's part of the millisecond. -/
def State.minorTick (s : State) (conv : Nat) : State := if conv = 0 then s.actsTick else s

theorem State.minorTick_keeps (s : State) (conv : Nat) : (s.minorTick conv).therm.groups = s.therm.groups ∧
    (s.minorTick conv).therm.zone = s.therm.zone ∧ (s.minorTick conv).therm.groupBad = s.therm.groupBad := by
  unfold State.minorTick State.actsTick
  extract_lets t
  split_ifs <;> exact ⟨rfl, rfl, rfl⟩

theorem State.minorTick_group (s : State) (conv g : Nat) : (s.minorTick conv).group g = s.group g := by
  rw [State.group, (s.minorTick_keeps conv).1, State.group]

theorem State.minorTick_ownTier (s : State) (conv g : Nat) : (s.minorTick conv).ownTier g = s.ownTier g := by
  unfold State.ownTier
  rw [(s.minorTick_keeps conv).2.1, State.minorTick_group]

theorem State.minorTick_wantedTier (s : State) (conv g : Nat) : (s.minorTick conv).wantedTier g = s.wantedTier g := by
  unfold State.wantedTier
  simp only [(s.minorTick_keeps conv).2.2, State.minorTick_ownTier]

/-- A minor cycle gives tiers from two lists of groups: those that ask for the fastest, two at most, and those that ask for more than
the slowest. -/
theorem State.minorCycle_tiers (s : State) (conv : Nat) (hsenses : s.senses = true) (hboot : s.boot ≠ .held) :
    ∃ f m : List Nat, f.length ≤ 2 ∧ (∀ g ∈ f, s.wantedTier g = 2) ∧ (∀ g ∈ m, 1 ≤ s.wantedTier g) ∧
      (∀ g, (s.minorCycle conv).group g = ((s.minorTick conv).tiered (servedTier f m) (converterGroups conv)).group g) ∧
      (s.minorCycle conv).therm.acts = (s.minorTick conv).therm.acts ∧
      (s.minorCycle conv).therm.actNow = (s.minorTick conv).therm.actNow := by
  unfold State.minorCycle
  rw [if_neg (by simp [hsenses, hboot])]
  extract_lets t gs want
  obtain ⟨hlen, hfast⟩ := t.serve_spec 2 (mget 0 t.therm.demotePtr (2 * conv)) (want 2)
  split
  next f p hf =>
    rw [hf] at hlen hfast
    extract_lets mCount
    obtain ⟨-, hmid⟩ := t.serve_spec mCount (mget 0 t.therm.demotePtr (2 * conv + 1))
      (want 1 ++ (want 2).filter (fun g => !f.contains g))
    split
    next m q hm =>
      rw [hm] at hmid
      have hwant {g n : Nat} (h : g ∈ want n) : s.wantedTier g = n :=
        (s.minorTick_wantedTier conv g).symm.trans (of_decide_eq_true (List.mem_filter.mp h).2)
      refine ⟨f, m, hlen, fun g hg => hwant (hfast g hg), fun g hg => ?_, fun g => ?_, ?_, ?_⟩
      · rcases List.mem_append.mp (hmid g hg) with h | h
        · exact (hwant h).ge
        · exact (hwant (List.mem_of_mem_filter h)).ge.trans' (by decide)
      · rw [State.group, State.count_therm]
        rfl
      · rw [State.count_therm]
        exact (State.tiered_acts _ (servedTier f m) _).1
      · rw [State.count_therm]
        exact (State.tiered_acts _ (servedTier f m) _).2

theorem converterGroups_nodup (conv : Nat) : (converterGroups conv).Nodup := List.nodup_range.filter _

theorem servedTier_fast {f m : List Nat} {g : Nat} (h : servedTier f m g = 2) : g ∈ f := by
  unfold servedTier at h
  split at h
  · next hf => exact List.contains_iff_mem.mp hf
  · split at h <;> cases h

theorem servedTier_le {f m : List Nat} {g w : Nat} (hf : g ∈ f → w = 2) (hm : g ∈ m → 1 ≤ w) : servedTier f m g ≤ w := by
  unfold servedTier
  split
  · next h => exact (hf (List.contains_iff_mem.mp h)).ge
  · split
    · next h => exact hm (List.contains_iff_mem.mp h)
    · exact Nat.zero_le _

/-- One change to each of several entries of a map. -/
theorem mget_foldl_each (f : Nat → List Nat → List Nat) {ks : List Nat} (hnodup : ks.Nodup) (a : SMap (List Nat)) (k : Nat) :
    mget [] (ks.foldl (fun a k => mset [] a k (f k (mget [] a k))) a) k = if k ∈ ks then f k (mget [] a k) else mget [] a k := by
  induction ks generalizing a with
  | nil => rfl
  | cons j r ih =>
    obtain ⟨hj, hr⟩ := List.nodup_cons.mp hnodup
    rw [List.foldl_cons, ih hr, mget_mset]
    by_cases hk : k = j
    · subst hk
      simp [hj]
    · simp [hk]

/-- The activations of the last eight milliseconds, with the open one closed. -/
def Therm.closedActs (t : Therm) : SMap (List Nat) :=
  (List.range 18).foldl (fun a k => mset [] a k ((mget 0 t.actNow k :: mget [] a k).take 8)) t.acts

theorem Therm.closedActs_layer (t : Therm) {k : Nat} (hk : k < 18) :
    mget [] t.closedActs k = (mget 0 t.actNow k :: mget [] t.acts k).take 8 := by
  have hclosed := mget_foldl_each (fun k l => (mget 0 t.actNow k :: l).take 8) (List.nodup_range (n := 18)) t.acts k
  rw [if_pos (List.mem_range.mpr hk)] at hclosed
  exact hclosed

/-- The eighth minor cycle closes a millisecond of every layer. -/
theorem State.actsTick_closes (s : State) (h : 7 ≤ s.therm.minor) :
    s.actsTick.therm.actNow = [] ∧ s.actsTick.therm.acts = s.therm.closedActs := by
  unfold State.actsTick
  extract_lets t
  rw [if_neg (Nat.not_lt.mpr h)]
  refine ⟨rfl, ?_⟩
  dsimp only
  rw [Therm.closedActs]

theorem State.actsTick_counts (s : State) (h : s.therm.minor < 7) :
    s.actsTick.therm.acts = s.therm.acts ∧ s.actsTick.therm.actNow = s.therm.actNow := by
  unfold State.actsTick
  extract_lets t
  rw [if_pos h]
  exact ⟨rfl, rfl⟩

/-! ### Sensing failure and GROUP_CLEAR (R321, R334) -/

theorem State.judgeSensing_idle (h : (decide (s.therm.convBad ≠ 0) || s.basesBad) = s.therm.causeSense) : s.judgeSensing = s := if_pos h

theorem State.judgeSensing_begins (hbad : (decide (s.therm.convBad ≠ 0) || s.basesBad) = true) (hcause : s.therm.causeSense = false) :
    s.judgeSensing = (State.setLevel { s with therm := { s.therm with causeSense := true } } 52 true).beginStop := by
  unfold State.judgeSensing
  rw [hbad, hcause]
  rfl

theorem nset_true_ne_zero (w i : Nat) : nset w i true ≠ 0 := by
  intro h
  have hbit : (nset w i true).testBit i = true := by simp [nset, Nat.testBit_or, Nat.one_shiftLeft]
  rw [h, Nat.zero_testBit] at hbit
  cases hbit

theorem State.beginStop_keeps : s.beginStop.therm.groups = s.therm.groups ∧ s.beginStop.therm.diodeBad = s.therm.diodeBad ∧
    s.beginStop.therm.groupBad = s.therm.groupBad := by
  by_cases h : s.therm.stop ≠ 0 ∨ s.therm.trip = true ∨ s.power.st = 4
  · rw [State.beginStop, if_pos h]
    exact ⟨rfl, rfl, rfl⟩
  · rw [not_or, not_or, not_not, Bool.not_eq_true] at h
    obtain ⟨hstop, htrip, hpower⟩ := h
    rw [(State.beginStop_begins hstop htrip hpower).therm]
    exact ⟨rfl, rfl, rfl⟩

theorem State.judgeSensing_keeps : s.judgeSensing.therm.groups = s.therm.groups ∧ s.judgeSensing.therm.diodeBad = s.therm.diodeBad ∧
    s.judgeSensing.therm.groupBad = s.therm.groupBad := by
  unfold State.judgeSensing
  extract_lets bad therm judged
  have hjudged : judged.therm.groups = s.therm.groups ∧ judged.therm.diodeBad = s.therm.diodeBad ∧
      judged.therm.groupBad = s.therm.groupBad := by
    unfold judged
    rw [State.setLevel_therm]
    exact ⟨rfl, rfl, rfl⟩
  obtain ⟨hgroups, hdiodes, hbad⟩ := hjudged
  split
  · exact ⟨rfl, rfl, rfl⟩
  · split
    · obtain ⟨hg, hd, hb⟩ := State.beginStop_keeps (s := judged)
      exact ⟨hg.trans hgroups, hd.trans hdiodes, hb.trans hbad⟩
    · exact ⟨hgroups, hdiodes, hbad⟩

/-- The diodes of a group are trusted again. -/
theorem getLsbD_cleared (w : BitVec 80) {g : Nat} (hg : g ≤ 19) (i : Nat) :
    ([4 * g, 4 * g + 1, 4 * g + 2, 4 * g + 3].foldl (fun w i => vset w i false) w).getLsbD i =
      (w.getLsbD i && decide (i / 4 ≠ g)) := by
  simp only [List.foldl_cons, List.foldl_nil]
  rw [getLsbD_vset _ (by omega), getLsbD_vset _ (by omega), getLsbD_vset _ (by omega), getLsbD_vset _ (by omega)]
  by_cases hi : i / 4 = g
  · have hor : i = 4 * g + 3 ∨ i = 4 * g + 2 ∨ i = 4 * g + 1 ∨ i = 4 * g := by omega
    rw [decide_eq_false (not_not.mpr hi), Bool.and_false]
    rcases hor with h | h | h | h <;> simp [h]
  · rw [if_neg (by omega), if_neg (by omega), if_neg (by omega), if_neg (by omega), decide_eq_true hi, Bool.and_true]

theorem State.groupClear_clears (s : State) {g : Nat} (hg : g ≤ 19) : (s.groupClear g).1 = 0 ∧
    (∀ i, (s.groupClear g).2.therm.diodeBad.getLsbD i = (s.therm.diodeBad.getLsbD i && decide (i / 4 ≠ g))) ∧
    (∀ j, (s.groupClear g).2.therm.groupBad.getLsbD j = (s.therm.groupBad.getLsbD j && decide (j ≠ g))) ∧
    (s.groupClear g).2.group g = { s.group g with count := 0, recent := [] } := by
  unfold State.groupClear
  rw [if_neg (Nat.not_lt.mpr hg)]
  extract_lets therm cleared
  obtain ⟨hgroups, hdiodes, hbad⟩ := State.judgeSensing_keeps (s := cleared.setGroup g { cleared.group g with count := 0, recent := [] })
  refine ⟨rfl, fun i => ?_, fun j => ?_, ?_⟩
  · rw [hdiodes]
    exact getLsbD_cleared _ hg i
  · rw [hbad]
    show (vset s.therm.groupBad g false).getLsbD j = _
    rw [getLsbD_vset _ (by omega)]
    by_cases hj : j = g <;> simp [hj]
  · rw [State.group, hgroups, ← State.group, State.group_setGroup, if_pos rfl]
    rfl

theorem State.runCmd_groupClear (s : State) (by' : Master) (arg : List Byte) (env : AccEnv) :
    s.runCmd by' (ekey 0x0400 0x12) arg env = atOnce (s.groupClear (bytesNat arg)) := by
  simp [State.runCmd, ekey, kCommit, kDiscard, kPower]

/-! ### The board inputs (R339) -/

theorem sampleRange_valid {v : Int} (hlow : -524287 ≤ v) (hhigh : v ≤ 524287) : sampleRange v = v := by
  unfold sampleRange
  omega

/-- An exact temperature is what the input reads. -/
theorem State.diodeTemp_exact (s : State) {n x : Nat} {temp : Int} (hlow : -524287 ≤ temp) (hhigh : temp ≤ 524287)
    (hideal : 0 < s.rget (ekey 0x0400 (0x39 + n)))
    (h : (x * 100000 : Int) = (10 * temp + 2797056) * s.rget (ekey 0x0400 (0x39 + n))) : s.diodeTemp n x = (temp, s) := by
  have hnum : ((x * 100000 : Nat) : Int) - ((2797056 * s.rget (ekey 0x0400 (0x39 + n)) : Nat) : Int) =
      temp * ((10 * s.rget (ekey 0x0400 (0x39 + n)) : Nat) : Int) := by
    push_cast
    rw [h]
    ring
  have hden : ((10 * s.rget (ekey 0x0400 (0x39 + n)) : Nat) : Int) ≠ 0 := by omega
  simp only [State.diodeTemp, hnum, Int.mul_emod_left, if_true, Int.mul_ediv_cancel _ hden, sampleRange_valid hlow hhigh]

/-- A thermistor reads 25 °C at its resistance there, more below it and less above it. -/
theorem State.thermistorTemp_spec (s : State) (n ohms : Nat) :
    (ohms = 10000 → s.thermistorTemp n ohms = celsius 25) ∧ (ohms ≤ 10000 → celsius 25 ≤ s.thermistorTemp n ohms) ∧
      (10000 ≤ ohms → s.thermistorTemp n ohms ≤ celsius 25) := by
  unfold State.thermistorTemp sampleRange celsius
  extract_lets v
  refine ⟨fun h => ?_, fun h => ?_, fun h => ?_⟩
  · rw [if_pos h]
    decide
  · split_ifs <;> omega
  · split_ifs <;> omega

theorem State.boardTemp_keeps (s : State) (input : Nat) (raw : Option Nat) :
    (s.boardTemp input raw).2.therm = s.therm ∧ (s.boardTemp input raw).2.regs = s.regs := by
  unfold State.boardTemp State.diodeTemp
  split
  · exact ⟨rfl, rfl⟩
  · extract_lets i num den
    split_ifs <;> exact ⟨rfl, rfl⟩

theorem State.boardSample_off (s : State) (input : Nat) (raw : Option Nat) (h : nbit (s.rget (ekey 0x0400 0x30)) input = false) :
    s.boardSample input raw = s := if_pos (.inr (.inr (by rw [h]; rfl)))

/-- An enabled input keeps what it reads and how often in a row it has reached its limit. -/
theorem State.boardSample_on (s : State) {input : Nat} {raw : Option Nat} (hboot : s.boot ≠ .held) (hsenses : s.senses = true)
    (hon : nbit (s.rget (ekey 0x0400 0x30)) input = true) {v : Int} {r : State} (hread : s.boardTemp input raw = (v, r))
    (htherm : r.therm = s.therm) (hregs : r.regs = s.regs) : s.boardSample input raw =
      let high := decide (v ≠ noSample) && decide (i20Val (s.rget (ekey 0x0400 (0x31 + input))) ≤ v)
      let run := if high then mget 0 s.therm.boardRun input + 1 else 0
      let t : State := { r with therm := { s.therm with
        sample := mset noSample s.therm.sample (80 + input) v, boardRun := mset 0 s.therm.boardRun input (Nat.min run 4) } }
      let u := if v = noSample ∨ run = 3 then t.report 54 else t
      if v ≠ noSample ∧ input < 4 then
        State.judgeSensing { u with therm := { u.therm with convBad := nset u.therm.convBad (input / 2) false } }
      else u := by
  have hrget (k : Nat) : r.rget k = s.rget k := congrArg (fun m => mget _ m k) hregs
  unfold State.boardSample
  rw [if_neg (by simp [hboot, hsenses, hon]), hread]
  simp only [hrget, htherm]

/-! ### The comparator in the evaluator's block reset (R332, R373) -/

theorem State.sensorSample_reset (s : State) (i : Nat) (v : Int) (us : Nat) (hpower : s.power.st ≠ 4) (hreset : s.inReset 4 0 = true)
    (hdiode : s.therm.diodeBad.getLsbD i = false) :
    s.sensorSample i (some v) us = if celsius 108 ≤ v then s.tripNow 1 else s := by
  have hsenses : s.senses = false := by simp [State.senses, hreset]
  simp only [State.sensorSample, if_neg hpower, hsenses, hdiode, Option.any_some, Bool.not_false, Bool.true_and, decide_eq_true_eq,
    if_true]

/-- Settles O49: a sample that no check fails goes to its group and to TJ, and a converter serves no more than two groups the fastest
tier. -/
theorem sensorsFeedTheGroups : Obligations.SensorsFeedTheGroups := by
  intro s hboot hpower
  refine ⟨fun i v us hi hv hdiode => ?_, fun conv hconv hreset => ?_, fun c hc hsense => ?_, ?_, ?_⟩
  · have hwf : (Instr.sensorSample i (some v) us).wf = true := by simp [Instr.wf, hi, hv]
    have hexec : exec (.sensorSample i (some v) us) s = .next ((s.sensorSample i (some v) us).tryBoot).settle := finish_wf hwf _
    refine ⟨fun hreset hhot htrip => ?_, fun hreset hlow => ?_, ?_⟩
    · obtain ⟨htrips, hpin, -, hoff, hcause, hlayers⟩ := State.tripNow_trips 1 htrip
      refine ⟨s.tripNow 1, ?_, htrips, hpin, hoff, hcause, hlayers⟩
      rw [hexec, State.sensorSample_reset s i v us hpower hreset hdiode, if_pos (show celsius 108 ≤ v from hhot), State.tryBoot_left]
      rw [State.tripNow_boot]
      exact hboot
    · rw [hexec, State.sensorSample_reset s i v us hpower hreset hdiode, if_neg (show ¬ celsius 108 ≤ v from Int.not_le.mpr hlow),
        State.tryBoot_left hboot]
    · intro g u hreset hvalid hlow hgroups hconv hsense hbases htrusted hstray hneighbour hopen
      have habove : noSample < v := by
        rw [isI20, Bool.and_eq_true, decide_eq_true_eq] at hv
        exact lt_of_le_of_ne hv.1 (Ne.symm hvalid)
      obtain ⟨r, hr, hmax, heval⟩ := State.evaluate_kept habove hdiode hgroups hconv hlow htrusted hstray hneighbour hopen
      obtain ⟨t, ht⟩ : ∃ t, t = (s.keeps i v).groupTakes g r := ⟨_, rfl⟩
      have hidle : t.judgeSensing = t := State.judgeSensing_idle (by
        rw [ht]
        show (decide (s.therm.convBad ≠ 0) || s.basesBad) = s.therm.causeSense
        rw [hconv, hbases, hsense]
        rfl)
      have hgroup (k : Nat) : t.group k = if k = g then { s.group g with
          value := r, count := (s.group g).count + 1, recent := (r :: (s.group g).recent).take 4 } else s.group k := by
        rw [ht]
        exact State.group_setGroup (s.keeps i v) g _ k
      have hgv : (t.group g).value = r := by rw [hgroup, if_pos rfl]
      have hle : v ≤ r := hmax v (State.mem_readings habove hdiode)
      have hg : g < 20 := by omega
      obtain ⟨hall, hfrom⟩ : (∀ k, k < 20 → (t.group k).value ≤ t.therm.tj) ∧
          ((∃ k, k < 20 ∧ noSample < (t.group k).value) → t.therm.tj = (t.group t.therm.tjFrom).value) := by
        rw [ht]
        exact State.updateTj_spec _
      refine ⟨t, ?_, ?_, hgv ▸ hle, hgv ▸ hr, hgv ▸ hmax, ?_, fun k hk => by rw [hgroup, if_neg hk], ?_, ?_, ?_⟩
      · rw [exec_sensorSample (t := t) hwf hpower hreset hboot (by rw [heval]) (by rw [heval, ht]; rfl) (by rw [ht]; rfl), hidle]
      · rw [ht]
        exact mget_mset_same _ _ _ _
      · rw [hgroup, if_pos rfl]
      · rw [ht]
        rfl
      · exact hall
      · exact hfrom ⟨g, hg, by rw [hgv]; exact lt_of_lt_of_le habove hle⟩
  · have hsenses : s.senses = true := by simp [State.senses, hpower, hreset]
    obtain ⟨f, m, hlen, hfast, hmid, hgroup, hacts, hnow⟩ := s.minorCycle_tiers conv hsenses hboot
    have htiered (g : Nat) (hg : g ∈ converterGroups conv) :
        (s.minorCycle conv).group g = { s.group g with tier := servedTier f m g } := by
      rw [hgroup, State.tiered_group, if_pos hg, State.minorTick_group]
    refine ⟨s.minorCycle conv, finish_wf (decide_eq_true hconv) _, fun h => ?_, fun hzero hminor => ?_, fun g hg => ⟨?_, ?_⟩,
      fun g hg => ?_, ?_⟩
    · rw [hacts, hnow, State.minorTick]
      split
      · next hzero => exact s.actsTick_counts (h.resolve_left (by omega))
      · exact ⟨rfl, rfl⟩
    · obtain ⟨hempty, hclosed⟩ := s.actsTick_closes hminor
      rw [hacts, hnow, State.minorTick, if_pos hzero, hclosed]
      exact ⟨hempty, fun k hk => s.therm.closedActs_layer hk⟩
    · rw [htiered g hg]
    · rw [htiered g hg]
      exact servedTier_le (hfast g) (hmid g)
    · rw [hgroup, State.tiered_group, if_neg hg, State.minorTick_group]
    · refine (List.Subperm.length_le (((converterGroups_nodup conv).filter _).subperm fun g hg => ?_)).trans hlen
      obtain ⟨hmem, htier⟩ := List.mem_filter.mp hg
      rw [htiered g hmem] at htier
      exact servedTier_fast (of_decide_eq_true htier)
  · refine (finish_wf (decide_eq_true hc) _).trans ?_
    rw [State.sensingFailure, if_neg (not_or.mpr ⟨hboot, hpower⟩)]
    exact congrArg (fun t => Host.Outcome.next (State.settle t)) (State.judgeSensing_begins
      (by rw [Bool.or_eq_true]; exact .inl (decide_eq_true (nset_true_ne_zero _ _))) hsense)
  · intro by' arg k g hobeys
    have hrun : (s.asks by' k arg).runCmd by' k arg {} = atOnce ((s.asks by' k arg).groupClear g) := State.runCmd_groupClear _ _ _ _
    have htherm : (s.asks by' k arg).therm = s.therm := s.asks_therm by' k arg
    refine ⟨fun hbig => ?_, fun hg => ?_⟩
    · refine exec_command_refused hobeys rfl rfl (hrun.trans ?_) rfl
      rw [State.groupClear, if_pos hbig]
      rfl
    · obtain ⟨hok, hdiodes, hbad, hcleared⟩ := (s.asks by' k arg).groupClear_clears hg
      refine ⟨((s.asks by' k arg).groupClear g).2, exec_command_sync hobeys rfl rfl (hrun.trans ?_), fun i _ => ?_, fun j _ => ?_, ?_⟩
      · rw [atOnce, hok]
        rfl
      · rw [hdiodes, htherm]
      · rw [hbad, htherm]
      · rw [hcleared, State.group, htherm, State.group]
  · intro input raw hwf hreset read v r high run t
    refine ⟨fun hraw => ?_, ?_, fun ohms hraw hinput => ?_, ?_⟩
    · unfold read
      rw [hraw]
      rfl
    · intro x temp hraw hinput hlow hhigh ideality hideal hexact
      unfold read
      rw [hraw]
      exact (if_pos hinput).trans (s.diodeTemp_exact hlow hhigh hideal hexact)
    · have hread : v = s.thermistorTemp (input - 4) ohms := by
        unfold v read
        rw [hraw]
        exact congrArg Prod.fst (if_neg (Nat.not_lt.mpr hinput))
      rw [hread]
      exact s.thermistorTemp_spec (input - 4) ohms
    · refine (finish_wf hwf _).trans (congrArg (fun t => Host.Outcome.next (State.settle t)) ?_)
      have hsenses : s.senses = true := by simp [State.senses, hpower, hreset]
      obtain ⟨htherm, hregs⟩ := s.boardTemp_keeps input raw
      by_cases hon : nbit (s.rget (ekey 0x0400 0x30)) input = false
      · exact (s.boardSample_off input raw hon).trans (if_pos hon).symm
      · refine Eq.trans ?_ (if_neg hon).symm
        exact s.boardSample_on hboot hsenses (Bool.not_eq_false _ ▸ hon) (v := v) (r := r) rfl htherm hregs

end Sys2Proof.Machine
end
